-- ==== Sys2Proof/Word.lean ====
section
/-!
DEFINITION. The word types of the DQL4872: 64-bit parameter and record words (R375), 32-bit registers, octets.
-/
namespace Sys2Proof

/-- A parameter word or a configuration-record word. -/
abbrev Word := BitVec 64

/-- A 32-bit register of the host window. -/
abbrev Half := BitVec 32

/-- An octet. -/
abbrev Byte := BitVec 8

/-- A 32-octet key of a tenant (R389). -/
abbrev Key := BitVec 256

end Sys2Proof
end

