-- ==== Sys2Proof/Machine/Bits.lean ====
section
/-!
DEFINITION. Bit fields, octet order and sparse tables: the helpers every other file of the machine uses. Fields are written
as the spec writes them, [hi:lo].
-/
namespace Sys2Proof.Machine

/-- The field [hi:lo] of a word, as a number. -/
def fld {n : Nat} (w : BitVec n) (hi lo : Nat) : Nat := (w.toNat >>> lo) % 2 ^ (hi + 1 - lo)

/-- Bit i of a word. -/
def flag {n : Nat} (w : BitVec n) (i : Nat) : Bool := w.getLsbD i

/-- A word with the field [hi:lo] replaced by the low bits of v. -/
def setFld {n : Nat} (w : BitVec n) (hi lo v : Nat) : BitVec n :=
  let m : BitVec n := BitVec.ofNat n ((2 ^ (hi + 1 - lo) - 1) <<< lo)
  (w &&& ~~~m) ||| BitVec.ofNat n ((v % 2 ^ (hi + 1 - lo)) <<< lo)

/-- A word with bit i set to b. -/
def setFlag {n : Nat} (w : BitVec n) (i : Nat) (b : Bool) : BitVec n := setFld w i i b.toNat

/-- A word made of fields (hi, lo, value); bits no field names are 0. -/
def mkBits (n : Nat) (fs : List (Nat × Nat × Nat)) : BitVec n :=
  fs.foldl (fun w f => setFld w f.1 f.2.1 f.2.2) (0 : BitVec n)

/-- A 64-bit word made of fields. -/
def mkWord (fs : List (Nat × Nat × Nat)) : Word := mkBits 64 fs

/-- A 32-bit register made of fields. -/
def mkHalf (fs : List (Nat × Nat × Nat)) : Half := mkBits 32 fs

/-- The mask with ones in each field (hi, lo). -/
def maskOf (fs : List (Nat × Nat)) : Word := mkWord (fs.map fun f => (f.1, f.2, 2 ^ (f.1 + 1 - f.2) - 1))

/-- Every bit of a word. -/
def allBits : Word := BitVec.allOnes 64

/-- A number read as two's complement in n bits. -/
def toSigned (n v : Nat) : Int := if v % 2 ^ n < 2 ^ (n - 1) then (v % 2 ^ n : Nat) else ((v % 2 ^ n : Nat) : Int) - (2 ^ n : Nat)

/-- The two's complement code of an integer in n bits. -/
def ofSigned (n : Nat) (v : Int) : Nat := (v % (2 ^ n : Nat)).toNat

/-- An integer held inside a range. -/
def clampInt (lo hi v : Int) : Int := if v < lo then lo else if hi < v then hi else v

/-- A count that saturates at 2^bits - 1 (R42, R398 and others). -/
def satAdd (bits a b : Nat) : Nat := Nat.min (a + b) (2 ^ bits - 1)

/-- A quotient rounded up. -/
def ceilDiv (a b : Nat) : Nat := if b = 0 then 0 else (a + b - 1) / b

/-- The number of octets, most significant first (R375). -/
def octetsOf : Nat → Nat → List Byte
  | 0, _ => []
  | n + 1, v => BitVec.ofNat 8 (v >>> (8 * n)) :: octetsOf n v

/-- The number that octets spell, most significant first. -/
def natOfOctets (l : List Byte) : Nat := l.foldl (fun a b => a * 256 + b.toNat) 0

/-- A word as eight octets, [63:56] first (R375). -/
def wordOctets (w : Word) : List Byte := octetsOf 8 w.toNat

/-- Words as octets. -/
def wordsOctets (ws : List Word) : List Byte := ws.flatMap wordOctets

/-- The n words at the head of a list of octets. -/
def takeWords : Nat → List Byte → List Word
  | 0, _ => []
  | n + 1, l => BitVec.ofNat 64 (natOfOctets (l.take 8)) :: takeWords n (l.drop 8)

/-- The bits set in an octet. -/
def popCount (v n : Nat) : Nat := (List.range n).foldl (fun a i => a + (v >>> i) % 2) 0

/-- One step of a CRC over one octet, most significant bit first, over a register of `bits` bits. -/
def crcOctet (bits poly : Nat) (r : Nat) (b : Byte) : Nat :=
  (List.range 8).foldl (fun r i =>
    let top := (r >>> (bits - 1)) % 2
    let inb := (b.toNat >>> (7 - i)) % 2
    let sh := (r <<< 1) % 2 ^ bits
    if top == inb then sh else sh ^^^ poly) r

/-- A CRC over octets, most significant bit first, from a start value. -/
def crcOver (bits poly start : Nat) (l : List Byte) : Nat := l.foldl (crcOctet bits poly) start

/-- A sparse table: (index, value) pairs, indexes strictly rising, no value equal to the table's default. -/
abbrev Tab (α : Type) := List (Nat × α)

/-- The value at an index, the default where none is listed. -/
def Tab.look {α : Type} (d : α) : Tab α → Nat → α
  | [], _ => d
  | (k, v) :: t, i => if k = i then v else if i < k then d else Tab.look d t i

/-- The table with an index's entry taken out. -/
def Tab.drop' {α : Type} : Tab α → Nat → Tab α
  | [], _ => []
  | (k, v) :: t, i => if k = i then t else if i < k then (k, v) :: t else (k, v) :: Tab.drop' t i

/-- The table with an index's entry put in. -/
def Tab.ins {α : Type} : Tab α → Nat → α → Tab α
  | [], i, a => [(i, a)]
  | (k, v) :: t, i, a => if k = i then (i, a) :: t else if i < k then (i, a) :: (k, v) :: t else (k, v) :: Tab.ins t i a

/-- The table with a value written; writing the default removes the entry, so that equal tables are equal data. -/
def Tab.put {α : Type} [DecidableEq α] (d : α) (t : Tab α) (i : Nat) (a : α) : Tab α :=
  if a = d then Tab.drop' t i else Tab.ins t i a

/-- The indexes rise strictly from a bound on. -/
def Tab.rising {α : Type} : Nat → Tab α → Bool
  | _, [] => true
  | lo, (k, _) :: t => decide (lo ≤ k) && Tab.rising (k + 1) t

/-- The canonical form: indexes strictly rising, no entry equal to the default. -/
def Tab.wf {α : Type} [DecidableEq α] (d : α) (t : Tab α) : Bool :=
  Tab.rising 0 t && t.all fun e => decide (e.2 ≠ d)

/-- The element at a position, or a default. -/
def nth {α : Type} (d : α) (l : List α) (i : Nat) : α := (l[i]?).getD d

/-- The last n elements of a list. -/
def lastN {α : Type} (n : Nat) (l : List α) : List α := l.drop (l.length - n)

end Sys2Proof.Machine
end

