-- ==== Sys2Proof/Machine/State/Boot.lean ====
section
/-!
DEFINITION. Reset, boot, the watchdog, the recovery port, tamper and field return (18_reset_recovery.md).
-/
namespace Sys2Proof.Machine

/-- Where boot stands (R565 to R570). -/
inductive BootMode where
  | booting
  /-- Host boot: the ROM waits for GO until a time. -/
  | hostWait
  | hostFetch
  | failed
  | running
  deriving DecidableEq, Repr

/-- A reset record (R564): cause, FN_SRC and FN, seconds since the last boot completed, fault-frame slot. -/
structure ResetRec where
  cause : Nat
  fnSrc : BitVec 3
  fn : BitVec 48
  secs : Nat
  slot : Bool
  deriving DecidableEq, Repr

/-- A fault frame (18.6): what the model holds of it is DMA and EVIC state, the error registers and PWR_STATUS; the processors' own part is
firmware's (log entry 10). -/
structure FaultFrame where
  fn : BitVec 48
  eccInfo : Half
  matrixInfo : Half
  pwrStatus : Half
  inService : List (List Nat)
  chans : List Nat
  deriving DecidableEq, Repr

/-- An image slot of the flash: what its header and checks show (Table 18.4, R567). -/
structure Image where
  marker : Bool
  headerOk : Bool
  keyOk : Bool
  sigOk : Bool
  version : BitVec 48
  svn : BitVec 16
  deriving DecidableEq, Repr

def Image.none : Image := ⟨false, false, false, false, 0, 0⟩

/-- A sound boot configuration block (Table 18.3): the profile byte, 0 Broad, 1 Deep, 2 Packet, and MGMT_MAC. -/
structure BootBlock where
  profile : BitVec 2
  mac : BitVec 48
  deriving DecidableEq, Repr

/-- An entry of the tamper log (Table 18.8). -/
structure TamperEntry where
  w0 : Word
  w1 : Word
  w2 : Word
  w3 : Word
  deriving DecidableEq, Repr

/-- A Return Capture (R583): its sequence, FN, tamper counter, reason and note. -/
structure Capt where
  seq : BitVec 32
  fn : BitVec 48
  count : BitVec 32
  reason : BitVec 8
  erase : Bool
  note : List Word
  resets : List ResetRec
  wakes : List (Word × Word)
  devLogNext : BitVec 32
  counters : Tab (BitVec 48)
  deriving DecidableEq, Repr

/-- What the journal keeps beside the configuration through every reset (R563, R581). -/
structure Kept where
  tamperLog : List TamperEntry
  tamperCount : Nat
  /-- Locks set by each TAMPERn: bit 0 CP2, bit 1 CP3. -/
  locks : Tab (BitVec 2)
  shortRuns : Tab Nat
  resets : List ResetRec
  /-- The two fault frames, and which slot is the older. -/
  frame0 : Option FaultFrame
  frame1 : Option FaultFrame
  olderFrame : Bool
  capture : Option Capt
  svnMin : BitVec 16
  /-- Flash image slots A and B, and the boot configuration block's validity. -/
  imageA : Image
  imageB : Image
  /-- The boot configuration block, if it is sound. -/
  block : Option BootBlock
  deriving DecidableEq, Repr

def Kept.fresh : Kept :=
  { tamperLog := [], tamperCount := 0, locks := [], shortRuns := [], resets := [], frame0 := none, frame1 := none, olderFrame := false,
    capture := none, svnMin := 0, imageA := .none, imageB := .none, block := none }

/-- Chapter 18, less what survives. -/
structure BootState where
  mode : BootMode
  cause : Nat
  slot : BitVec 2
  fallback : Bool
  bootFail : BitVec 8
  bootMs : Nat
  bootAddr : Word
  bootLen : Half
  ctrlState : BitVec 2
  ctrlFail : BitVec 8
  goBy : Nat
  /-- When BOOT_COMPLETE was raised; the run of 60 s has been credited. -/
  bootedAt : Nat
  runCredited : Bool
  /-- The watchdog: armed, who has kicked in this period, and in the last, its end. -/
  wdtArmed : Bool
  wdtKicks : BitVec 2
  wdtLast : Bool
  wdtEnd : Nat
  frozen : Bool
  frozenAt : Nat
  /-- The operation that the previous recovery transaction armed. -/
  armed : Option (BitVec 8)
  /-- Tamper inputs as filtered. -/
  tamperActive : BitVec 4
  mbox : Tab Word
  /-- SYS_RESET replied and resets at this time. -/
  resetAt : Option Nat
  /-- A tamper input, or zeroisation in Gill, to be raised after the wake: (source, clr, code, obj). -/
  owed : List (Nat × Bool × Nat × Nat)
  version : BitVec 48
  svn : BitVec 16
  /-- FW_STAGE is writing the idle slot with this image. -/
  flashBusy : Bool
  staged : Option Image
  deriving DecidableEq, Repr

def BootState.reset : BootState :=
  { mode := .booting, cause := 1, slot := 0, fallback := false, bootFail := 0, bootMs := 0, bootAddr := 0, bootLen := 0,
    ctrlState := 0, ctrlFail := 0, goBy := 0, bootedAt := 0, runCredited := false, wdtArmed := false, wdtKicks := 0,
    wdtLast := false, wdtEnd := 0, frozen := false, frozenAt := 0, armed := none, tamperActive := 0, mbox := [],
    resetAt := none, owed := [], version := 0, svn := 0, flashBusy := false, staged := none }

/-- The journalled settings of chapter 18: TAMPER_CFG, WDT_MS, REC_LOCK. -/
structure BootCfg where
  tamper : Tab Half
  wdtMs : BitVec 14
  recLock : BitVec 2
  deriving DecidableEq, Repr

def BootCfg.reset : BootCfg := ⟨[], 1000, 0⟩

def tamperCfgReset : Half := 0x0032_0001

end Sys2Proof.Machine
end

