-- ==== Sys2Proof/Machine/State/Cmd.lean ====
section
/-!
DEFINITION. Commands and replies in flight, tenants' keys and streams, and the state of the four command ports (12_commands.md).
-/
namespace Sys2Proof.Machine

/-- Where the reply of a command goes (Table 12.4). -/
inductive RetPath where
  | ring
  | eth (mac : BitVec 48) (vlan : Option (BitVec 16))
  | craft (optical : Bool)
  deriving DecidableEq, Repr

/-- A verified command packet: the fields of its header (Table 12.1), its parameter area as words, the key slot and key that
verified it (none in the commissioning state), its tag and the way back. -/
structure Cmd where
  port : Fin 4
  tid : BitVec 12
  priv : BitVec 2
  slot : Bool
  key : Option Key
  tag : BitVec 128
  seq : BitVec 32
  quiet : Bool
  barrier : Bool
  bushel : BitVec 16
  plen : Nat
  words : List Word
  ret : RetPath
  deriving DecidableEq, Repr

/-- A reply (Table 12.2), before it is laid out as octets. -/
structure Reply where
  port : Fin 4
  ret : RetPath
  cls : Nat
  op : Nat
  tid : BitVec 12
  priv : BitVec 2
  flags : BitVec 2
  seq : BitVec 32
  status : BitVec 8
  detail : Nat
  data : List Word
  key : Option Key
  deriving DecidableEq, Repr

/-- What a deferred reply waits for (R405). -/
inductive Waits where
  /-- The tick after a command of a group or a pair is evaluated (R263); `seen` once an evaluation has seen it. -/
  | group (pg : Nat) (seen : Bool)
  | pair (n : Nat) (seen : Bool)
  | timSys
  | timHoldover
  | alignRestart (pg : Nat)
  | pairSwitch
  | pairForce
  | pwrState
  | pathCapture (eid : Nat)
  /-- The snapshot copy whose end brings SNAP_SEQ to this value. -/
  | snapshot (seq : Nat)
  | counterDump (addr : Word)
  /-- A counter dump that is under way. -/
  | counterWrite (addr : Word)
  | journalCompact
  | ckptNow
  | returnCapture
  | fwStage
  deriving DecidableEq, Repr

/-- A taken deferred slot: the command, what it waits for, and its answer once fixed (status, data). -/
structure Deferred where
  cmd : Cmd
  cls : Nat
  op : Nat
  waits : Waits
  answer : Option (BitVec 8 × List Word)
  deriving DecidableEq, Repr

/-- A command that has passed steps 1 to 5 and waits on its barrier, or behind one that waits, or while the processor takes no
command. -/
structure WaitCmd where
  cls : Nat
  op : Nat
  cmd : Cmd
  deriving DecidableEq, Repr

/-- An entry of a port's reply cache (R398). -/
structure CacheEntry where
  tid : BitVec 12
  slot : Bool
  seq : BitVec 32
  tag : BitVec 128
  silent : Bool
  sent : Bool
  reply : Reply
  deriving DecidableEq, Repr

/-- One command port. Window counts are of the present second (R402). -/
structure CmdPort where
  quietEnd : Option Nat
  window : Nat
  authFails : Nat
  zeroReplies : Nat
  nSilent : Nat
  nAccepted : Nat
  nAuthFail : Nat
  nBadLength : Nat
  nDuplicate : Nat
  nReplay : Nat
  cache : List CacheEntry
  /-- Frame of the last CMD_AUTH_FAIL plus 1, and outcomes since it. -/
  authEvent : Nat
  authSince : Nat
  deriving DecidableEq, Repr

def CmdPort.reset : CmdPort := ⟨none, 0, 0, 0, 0, 0, 0, 0, 0, 0, [], 0, 0⟩

/-- CMD_PORT_SET settings of a port, journalled (R412). -/
structure PortCfg where
  en : Bool
  authLimit : BitVec 8
  quietS : BitVec 12
  deriving DecidableEq, Repr

def PortCfg.reset : PortCfg := ⟨true, 16, 10⟩

/-- The key side of one tenant: two slots and their reserves (R391, R399), CMD_SEQ_LOW raised per slot (R400), over-quota (R231). -/
structure TenantKeys where
  key0 : Option Key
  key1 : Option Key
  res0 : BitVec 32
  res1 : BitVec 32
  low0 : Bool
  low1 : Bool
  deriving DecidableEq, Repr

def TenantKeys.reset : TenantKeys := ⟨none, none, 0, 0, false, false⟩

/-- An entry of the authentication log (R413). -/
structure AuthEntry where
  fn : BitVec 48
  port : Fin 4
  status : BitVec 8
  seq : BitVec 32
  tid : BitVec 12
  priv : BitVec 2
  deriving DecidableEq, Repr

/-- A frame waiting on CP2 for the command processor (R382): its packet octets and way back. -/
structure WaitPacket where
  port : Fin 4
  octets : List Byte
  ret : RetPath
  deriving DecidableEq, Repr

/-- Command handling (chapter 12), less what is journalled in Cfg. -/
structure CmdState where
  keys : Tab TenantKeys
  /-- H of stream (tenant, slot, port), at index tenant * 8 + slot * 4 + port (R396). -/
  streams : Tab Nat
  ports : Tab CmdPort
  deferred : List Deferred
  waiting : List WaitCmd
  arrived : List WaitPacket
  authLog : List AuthEntry
  /-- AUTH_FAILS of CMD_SEC. -/
  secFails : Nat
  /-- COMMISSIONING of CMD_SEC is set by boot once the journal has been read. -/
  journalRead : Bool
  /-- Ports locked by tamper handling (R578), bit n for CPn. -/
  locked : BitVec 4
  /-- The processor takes no command: a power-fail checkpoint ran (R502). -/
  held : Bool
  deriving DecidableEq, Repr

def CmdState.reset : CmdState := ⟨[], [], [], [], [], [], [], 0, false, 0, false⟩

end Sys2Proof.Machine
end

