-- ==== Sys2Proof/Machine/State/Fabric.lean ====
section
/-!
DEFINITION. The fabric's structure and connection records and the test analysers (06_fabric.md).
-/
namespace Sys2Proof.Machine

/-- A connection record (CONN_REC words 0 and 1). -/
structure Conn where
  w0 : Word
  w1 : Word
  deriving DecidableEq, Repr

def Conn.free : Conn := ⟨0xFF00_0000_FF00_0000, 0x0400_0000_0080_0000⟩

/-- The committed records of chapter 6: triple codes of 44 lanes and channels (4 bits a triple), TUG maps at lane * 64 + triple, and
the connection records by CID. -/
structure FabCfg where
  struct : Tab (BitVec 256)
  tug : Tab (BitVec 21)
  conn : Tab Conn
  deriving DecidableEq, Repr

def FabCfg.reset : FabCfg := ⟨[], [], []⟩

/-- The octets of one endpoint in one frame, with their quality (R13, R15). -/
structure Payload where
  octets : List Byte
  qb : Bool
  deriving DecidableEq, Repr

def Payload.empty : Payload := ⟨[], false⟩

/-- A test analyser (R198). -/
structure Analyser where
  lock : Bool
  errors : Nat
  losses : Nat
  deriving DecidableEq, Repr

def Analyser.reset : Analyser := ⟨false, 0, 0⟩

/-- The fabric's own memories: what each source of a grain record gave in the frame before (R22), by EID, or 2^32 + PG for a group; and the octets
that the padding ring of a symmetric record holds, oldest first, by CID (R280). -/
structure FabState where
  analysers : Tab Analyser
  last : Tab Payload
  pads : Tab (List Byte)
  deriving DecidableEq, Repr

def FabState.reset : FabState := ⟨[], [], []⟩

end Sys2Proof.Machine
end

