-- ==== Sys2Proof/Machine/State/Align.lean ====
section
/-!
DEFINITION. The Fathom: allocations, alignment of group legs, marks, symmetric records (09_fathom_merge.md), and the journalled records.
-/
namespace Sys2Proof.Machine

/-- Alignment states, coded as Table 9.9. -/
inductive AlignMode where
  | search
  | locked
  | hold
  | verify
  | range
  deriving DecidableEq, Repr

/-- A signature span: the frame it ends in, the signature, whether it was clean, and whether the run of 8 it ends was flat (R286, R287). -/
structure Sig where
  fn : Nat
  sig : BitVec 32
  clean : Bool
  flat : Bool
  deriving DecidableEq, Repr

/-- A valid mark message of a leg: its STAMP and the arrival frame of octet 0 (R291). -/
structure MarkSeen where
  stamp : Nat
  arrival : Nat
  deriving DecidableEq, Repr

/-- One group in the Fathom. -/
structure AlignGroup where
  mode : AlignMode
  delta : Int
  method : Nat
  unverified : Bool
  stepped : Bool
  skew : Bool
  /-- Read delays of leg 0 and leg 1 in frames (R284). -/
  read0 : Nat
  read1 : Nat
  sigs0 : List Sig
  sigs1 : List Sig
  /-- Outcomes of the last 8 compared pairs, newest last: true equal. -/
  compared : List Bool
  marks0 : List MarkSeen
  marks1 : List MarkSeen
  /-- The last mark offset and how often it came in a row. -/
  markOff : Int
  markRun : Nat
  seen0 : Option Nat
  seen1 : Option Nat
  verifyAt : Nat
  /-- Since when the group has stood unaligned with both legs free of SF; ALIGN_STUCK was raised (R298). -/
  freeSince : Option Nat
  stuck : Bool
  differed : Nat
  flats : Nat
  ring0 : List Nat
  ring1 : List Nat
  restart : Bool
  /-- FN of the frame in which the group last entered SEARCH. -/
  searchFn : BitVec 48
  /-- What the rings hold, newest frame first, and the leg that merging took the present block from. -/
  store0 : List Payload
  store1 : List Payload
  pick : Option Bool
  /-- Judgements of each leg as they stood at the last ticks, newest first (R299): a judged block clean, or no SF. -/
  judged0 : List Bool
  judged1 : List Bool
  /-- Frame of the last tick or evaluation that found SF on each leg, plus 1. -/
  sfSeen0 : Nat
  sfSeen1 : Nat
  deriving DecidableEq, Repr

def AlignGroup.reset : AlignGroup :=
  { mode := .search, delta := 0, method := 0, unverified := false, stepped := false, skew := false, read0 := 0, read1 := 0,
    sigs0 := [], sigs1 := [], compared := [], marks0 := [], marks1 := [], markOff := 0, markRun := 0, seen0 := none, seen1 := none,
    verifyAt := 0, freeSince := none, stuck := false, differed := 0, flats := 0, ring0 := [], ring1 := [], restart := false, searchFn := 0,
    store0 := [], store1 := [], pick := none, judged0 := [], judged1 := [], sfSeen0 := 0, sfSeen1 := 0 }

/-- States of a symmetric record, coded as Table 9.8. -/
inductive SymMode where
  | waitTime
  | search
  | settled
  | range
  deriving DecidableEq, Repr

/-- One symmetric record. Delays in ns, padding in octet times of the record (R305). -/
structure SymRec where
  mode : SymMode
  gIn : BitVec 32
  gOut : BitVec 32
  nIn : Option (BitVec 32)
  padding : Nat
  /-- A padding has been applied since the record began. -/
  applied : Bool
  /-- Padding to be applied at the next block boundary or tick. -/
  wantNext : Option Nat
  /-- The last wants, newest last, up to 8, and whether each was capped. -/
  wants : List (Nat × Bool)
  badTags : Nat
  tagRaised : Bool
  blocks : List Nat
  deriving DecidableEq, Repr

def SymRec.reset : SymRec :=
  { mode := .waitTime, gIn := 0, gOut := 0, nIn := none, padding := 0, applied := false, wantNext := none, wants := [], badTags := 0,
    tagRaised := false, blocks := [] }

/-- The Fathom. Groups by PG, symmetric records by CID, member allocations and marks by EID. -/
structure AlignState where
  groups : Tab AlignGroup
  syms : Tab SymRec
  members : Tab (List Nat)
  /-- The last valid message received per EID: 32 octets. -/
  lastMark : Tab (List Byte)
  /-- FREE has never been lower since the profile was applied. -/
  lowFree : Nat
  /-- Tick of the last tick slip (R306). -/
  lastSlip : Option Nat
  deriving DecidableEq, Repr

def AlignState.reset : AlignState := ⟨[], [], [], [], 0, none⟩

/-- ALIGN_CFG and SYM_CFG. -/
structure AlignCfg where
  align : Tab Word
  sym : Tab Word
  deriving DecidableEq, Repr

def AlignCfg.reset : AlignCfg := ⟨[], []⟩

/-- What MARK_SET and VCAT_ALIGN_SET journal: MARK_TX per EID, DMAX per VCAT group. -/
structure MarkCfg where
  tx : Tab Bool
  vcatDmax : Tab Nat
  deriving DecidableEq, Repr

def MarkCfg.reset : MarkCfg := ⟨[], []⟩

def alignCfgReset : Word := 0x1000
def symCfgReset : Word := 0x0000_1000_0000_0000

end Sys2Proof.Machine
end

