-- ==== Sys2Proof/Machine/State/Sdh.lean ====
section
/-!
DEFINITION. SDH and SONET framing, overhead, pointers and defects (04_sdh_framing.md), less the journalled records.
-/
namespace Sys2Proof.Machine

/-- The framer (R91). -/
inductive Framer where
  | hunt
  | presync
  | sync
  deriving DecidableEq, Repr

/-- A condition declared and cleared after so many consecutive frames: its state and the run against it. -/
structure Debounce where
  on : Bool
  run : Nat
  deriving DecidableEq, Repr

def Debounce.off : Debounce := ⟨false, 0⟩

/-- One frame of a debounced condition. -/
def Debounce.step (d : Debounce) (cond : Bool) (set clr : Nat) : Debounce :=
  if cond = d.on then ⟨d.on, 0⟩
  else if (if cond then set else clr) ≤ d.run + 1 then ⟨cond, 0⟩ else ⟨d.on, d.run + 1⟩

/-- A byte accepted after so many equal frames (R95, R96): the accepted value, the candidate and its run. -/
structure Accept where
  acc : Byte
  cand : Byte
  run : Nat
  deriving DecidableEq, Repr

def Accept.reset : Accept := ⟨0, 0, 0⟩

/-- One frame of an acceptance process. -/
def Accept.step (a : Accept) (v : Byte) (need : Nat) : Accept :=
  let run := if v = a.cand then a.run + 1 else 1
  if need ≤ run then ⟨v, v, run⟩ else ⟨a.acc, v, run⟩

/-- A BIP monitor (R111): blocks and violations of the running window, the count of a window that has ended and is not yet judged,
and the declared state. -/
structure Monitor where
  blocks : Nat
  viol : Nat
  ended : Option Nat
  on : Bool
  deriving DecidableEq, Repr

def Monitor.reset : Monitor := ⟨0, 0, none, false⟩

/-- A fresh window; the declared state stays (R110, R112). -/
def Monitor.restart (m : Monitor) : Monitor := ⟨0, 0, none, m.on⟩

/-- One block of a monitor with window w. -/
def Monitor.block (m : Monitor) (w v : Nat) : Monitor :=
  if w ≤ m.blocks + 1 then ⟨0, 0, some (m.viol + v), m.on⟩ else ⟨m.blocks + 1, m.viol + v, m.ended, m.on⟩

/-- One SDH or SONET lane. -/
structure SdhLane where
  framer : Framer
  badPattern : Nat
  los : Bool
  lof : Bool
  oofCount : Nat
  goodCount : Nat
  msAis : Debounce
  msRdi : Debounce
  exc : Monitor
  deg : Monitor
  k1 : Accept
  k2hi : Accept
  k2lo : Accept
  s1 : Accept
  apsInc : Bool
  /-- Frames since the first change of the K bytes after an acceptance (R95). -/
  apsWait : Option Nat
  capE1 : Byte
  capF1 : Byte
  capE2 : Byte
  capS1 : Byte
  capK1 : Byte
  capK2 : Byte
  capM1 : Byte
  capD : List Byte
  capJ0 : List Byte
  nB1 : Nat
  nB2 : Nat
  nRei : Nat
  nOof : Nat
  /-- B2 violations of the last received frame, sent in M1. -/
  lastB2 : Nat
  /-- Defect codes the last events reported as declared (R114). -/
  reported : List Nat
  /-- Octets still to be sent of the running J0 cycle (R101). -/
  j0Left : List Byte
  /-- LOF has been declared in the present second. -/
  lofSeen : Bool
  /-- Was masked at the last frame: monitors restart when the mask lifts (R112). -/
  masked : Bool
  deriving DecidableEq, Repr

def SdhLane.reset : SdhLane :=
  { framer := .hunt, badPattern := 0, los := false, lof := false, oofCount := 0, goodCount := 0, msAis := .off, msRdi := .off,
    exc := .reset, deg := .reset, k1 := .reset, k2hi := .reset, k2lo := .reset, s1 := .reset, apsInc := false, apsWait := none,
    capE1 := 0, capF1 := 0, capE2 := 0, capS1 := 0, capK1 := 0, capK2 := 0, capM1 := 0, capD := List.replicate 12 0,
    capJ0 := List.replicate 64 0, nB1 := 0, nB2 := 0, nRei := 0, nOof := 0, lastB2 := 0, reported := [], j0Left := [], lofSeen := false,
    masked := false }

/-- State of a pointer interpreter (Table 4.5). -/
inductive PtrState where
  | norm
  | ais
  | lop
  deriving DecidableEq, Repr

/-- A pointer interpreter (R102 to R104). -/
structure Interp where
  st : PtrState
  ptr : Nat
  invRun : Nat
  ndfRun : Nat
  aisRun : Nat
  newVal : Nat
  newRun : Nat
  /-- Frames that have passed since the one in which the current pointer changed, up to 3. -/
  since : Nat
  /-- Runs of each further member of a concatenated path: other pointers than the concatenation indication, and AIS_ind (R104). -/
  catBad : List Nat
  catAis : List Nat
  deriving DecidableEq, Repr

def Interp.reset : Interp := ⟨.norm, 0, 0, 0, 0, 0, 0, 3, [], []⟩

/-- A pointer process with its elastic store (R106, R107): octets in the store, the pointer it sends, frames since its last justification
and since its last enabled NDF (both up to 4). -/
structure PtrProc where
  fill : Int
  value : Nat
  sinceJust : Nat
  sinceNdf : Nat
  started : Bool
  wasAis : Bool
  /-- A step under R41 asks for a re-centre at the next frame. -/
  stepped : Bool
  deriving DecidableEq, Repr

def PtrProc.reset : PtrProc := ⟨0, 0, 4, 4, false, false, false⟩

/-- One HO or LO path of a line lane, by EID. -/
structure PathState where
  interp : Interp
  ingress : PtrProc
  egress : PtrProc
  rdi : Debounce
  exc : Monitor
  deg : Monitor
  /-- Captured overhead: HO G1 F2 F3 K3 N1 H4 C2; LO V5 N2 K4. -/
  cap : List Byte
  trace : List Byte
  /-- TU multiframe phase, the last H4 count seen and the run of in-sequence frames (R100). -/
  phase : BitVec 2
  h4Last : BitVec 2
  h4Run : Nat
  posJust : Nat
  negJust : Nat
  /-- The path had QB or an SF defect in the frame before; its last quality block was clean (R116). -/
  spoiled : Bool
  clean : Bool
  lastViol : Nat
  reported : List Nat
  masked : Bool
  /-- Transmit: octets still to be sent of the running trace cycle (R101), the H4 count, the mark octet that came in and went out in the frame
  before (R99), the running mark message and its sequence (R289, R290). -/
  traceLeft : List Byte
  h4Tx : BitVec 2
  markIn : Byte
  markOut : Byte
  markMsg : List Byte
  markSeq : BitVec 4
  deriving DecidableEq, Repr

def PathState.reset : PathState :=
  { interp := .reset, ingress := .reset, egress := .reset, rdi := .off, exc := .reset, deg := .reset,
    cap := List.replicate 7 0, trace := [], phase := 0, h4Last := 0, h4Run := 0, posJust := 0, negJust := 0, spoiled := false,
    clean := false, lastViol := 0, reported := [], masked := false,
    traceLeft := [], h4Tx := 0, markIn := 0, markOut := 0, markMsg := [], markSeq := 0 }

/-- A running PATH_CAPTURE (R120): the EID and the frames or multiframes still to capture. -/
structure Capture where
  eid : BitVec 32
  left : Nat
  deriving DecidableEq, Repr

/-- Chapter 4. Paths by EID. -/
structure SdhState where
  lanes : Tab SdhLane
  paths : Tab PathState
  captures : List Capture
  deriving DecidableEq, Repr

def SdhState.reset : SdhState := ⟨[], [], []⟩

/-- A trace-table entry: length code and 64 octets (R101). -/
structure TraceEntry where
  len : BitVec 2
  octets : List Byte
  deriving DecidableEq, Repr

/-- What an entry never written holds (log entry 4); entry 0 always reads as length 0b10 and zeros. -/
def TraceEntry.reset : TraceEntry := ⟨2, List.replicate 64 0⟩

/-- The journalled records of chapter 4. -/
structure SdhCfg where
  laneOh : Tab Word
  pathOh : Tab Word
  traces : Tab TraceEntry
  deriving DecidableEq, Repr

def SdhCfg.reset : SdhCfg := ⟨[], [], []⟩

def laneOhReset : Word := 0x0000_0000_0000_0603
def pathOhReset : Word := 0x0000_0063_0000_0000

end Sys2Proof.Machine
end

