-- ==== Sys2Proof/Machine/State/Pie.lean ====
section
/-!
DEFINITION. The packet interworking engine: queues, jitter buffers, stores, defects (10_packet_interworking.md), and the journalled records.
-/
namespace Sys2Proof.Machine

/-- Receive states, coded as Table 10.11. -/
inductive QueueMode where
  | idle
  | fill
  | play
  | dormant
  deriving DecidableEq, Repr

/-- A frame of fabric octets held in a jitter buffer: its playout FN, octets, and whether its packet had L = 1. -/
structure JbFrame where
  fn : Nat
  octets : List Byte
  l : Bool
  deriving DecidableEq, Repr

/-- One queue. -/
structure Queue where
  mode : QueueMode
  refSeq : BitVec 16
  refFn : Nat
  jb : List JbFrame
  lastSeq : BitVec 16
  minH : Nat
  maxH : Nat
  rxCount : Nat
  /-- Frames in IDLE without a packet; the first frame that has not been played yet. -/
  idleFrames : Nat
  playAt : Nat
  lastFrame : Option (List Byte)
  /-- What the fabric side is given in the present frame. -/
  out : Payload
  /-- The last 16 expected packets, newest last: SEQ, and 0 stored, 1 missing, 2 late, 3 early. SEQs discarded as early and not yet due. -/
  recent : List (BitVec 16 × Nat)
  noted : List (BitVec 16)
  /-- The next packet received becomes the reference (R330). -/
  recentre : Bool
  missRun : Nat
  playRun : Nat
  lops : Bool
  exc : Bool
  deg : Bool
  winCount : Nat
  winMiss : Nat
  /-- A window that ended and is not yet judged. -/
  winEnded : Option Nat
  rdi : Debounce
  ais : Debounce
  reported : List Nat
  blockClean : Bool
  txSeq : BitVec 16
  /-- Fabric octets gathered for the packet being built, newest last, and whether every word so far carried QB. -/
  txFrames : List (List Byte)
  txAllQb : Bool
  /-- Stores of a GFP flow or host queue: frames from the packet side, and towards it. -/
  rxStore : List (List Byte)
  txStore : List (List Byte)
  /-- Frame of the last QUEUE_OVERFLOW plus 1. -/
  overflow : Nat
  /-- Cells are held: false while dormant (R323). -/
  built : Bool
  deriving DecidableEq, Repr

def Queue.reset : Queue :=
  { mode := .idle, refSeq := 0, refFn := 0, jb := [], lastSeq := 0, minH := 0x7FF, maxH := 0, rxCount := 0, idleFrames := 0,
    playAt := 0, lastFrame := none, out := .empty, recent := [], noted := [], recentre := false, missRun := 0, playRun := 0,
    lops := false, exc := false, deg := false, winCount := 0, winMiss := 0, winEnded := none, rdi := .off, ais := .off,
    reported := [], blockClean := false, txSeq := 0, txFrames := [], txAllQb := true, rxStore := [], txStore := [], overflow := 0,
    built := true }

/-- Chapter 10, by Q-ID. -/
structure PieState where
  queues : Tab Queue
  /-- Pseudowire packets waiting for each lane's transmitter, oldest first, and the queue each lane served last in turn, plus 1 (R325). -/
  pw : Tab (List (List Byte))
  turn : Tab Nat
  deriving DecidableEq, Repr

def PieState.reset : PieState := ⟨[], [], []⟩

/-- QUEUE_REC. -/
structure QueueRec where
  w0 : Word
  w1 : Word
  w2 : Word
  deriving DecidableEq, Repr

def QueueRec.reset : QueueRec := ⟨0x0000_FC00_0000_0000, 0x0420_1004_07F8_0000, 0x0000_0000_0000_0100⟩

/-- PSN_CFG. -/
structure PsnRec where
  w0 : Word
  w1 : Word
  w2 : Word
  deriving DecidableEq, Repr

def PsnRec.reset : PsnRec := ⟨0, 0x0000_0000_C000_0FFF, 0x0000_0000_0001_0000⟩

/-- PSN_CFG, forwarding entries and header templates, journalled outside bushels (R320, R335). -/
structure PieCfg where
  psn : Tab PsnRec
  fwd : Tab Word
  hdr : Tab (List Byte)
  deriving DecidableEq, Repr

def PieCfg.reset : PieCfg := ⟨[], [], []⟩

end Sys2Proof.Machine
end

