-- ==== Sys2Proof/Machine/State/Prot.lean ====
section
/-!
DEFINITION. Protection pairs and groups (08_protection.md): what the protection hardware holds, and the journalled records.
-/
namespace Sys2Proof.Machine

/-- One switch criterion as the evaluations see it (R258): present at the last evaluation, evaluations it has been present in a row, frames of
hold-off as it started, and whether it has raised its request. -/
structure Crit where
  present : Bool
  run : Nat
  need : Nat
  raised : Bool
  deriving DecidableEq, Repr

def Crit.off : Crit := ⟨false, 0, 0, false⟩

/-- A pair or a group. `cmd` is the command held (R257), `level` the request in force (Table 8.2), `sel` the leg selected, true leg 1. -/
structure Prot where
  cmd : Nat
  level : Nat
  sel : Bool
  /-- Selection found at the last evaluation, applied at the next tick (R261). -/
  next : Bool
  sfW : Crit
  sfP : Crit
  sdW : Crit
  sdP : Crit
  /-- End of WTR on the time base, and the level it followed. -/
  wtrEnd : Option Nat
  /-- A far request handed to the hardware (R267), 0 none, else its level; the request in force is the far one. -/
  far : Nat
  farInForce : Bool
  bridge : Bool
  bridgeNext : Bool
  k1 : Byte
  k2 : Byte
  /-- APS defects, and the runs of APS-FOP's condition (Table 8.4). -/
  pm : Bool
  mm : Bool
  fop : Bool
  fopBad : Nat
  fopGood : Nat
  /-- An accepted change of K bytes waits for the protection processor since this time. -/
  kWait : Option Nat
  /-- Blocks taken from the leg not preferred since the last read; double-failure blocks since the last event, and its frame plus 1. -/
  notPref : Nat
  double : Nat
  doubleEvent : Nat
  /-- K1 codes with no far request already counted: the last accepted value judged (R266). -/
  kSeen : Byte
  deriving DecidableEq, Repr

def Prot.reset : Prot :=
  { cmd := 0, level := 0, sel := false, next := false, sfW := .off, sfP := .off, sdW := .off, sdP := .off, wtrEnd := none, far := 0,
    farInForce := false, bridge := false, bridgeNext := false, k1 := 0, k2 := 0, pm := false, mm := false, fop := false, fopBad := 0,
    fopGood := 0, kWait := none, notPref := 0, double := 0, doubleEvent := 0, kSeen := 0 }

structure ProtState where
  pairs : Tab Prot
  groups : Tab Prot
  /-- PROT_FW_STALL was raised and servicing has not resumed (R275). -/
  fwStall : Bool
  deriving DecidableEq, Repr

def ProtState.reset : ProtState := ⟨[], [], false⟩

/-- PG_CFG words 0 and 1. -/
structure PgRec where
  w0 : Word
  w1 : Word
  deriving DecidableEq, Repr

def PgRec.reset : PgRec := ⟨0xFF00_0000_FF00_0000, 0x0000_4212_C000_0000⟩

/-- LP_CFG of the pairs and PG_CFG of the groups; a pair or group is defined when it is listed (R240). -/
structure ProtCfg where
  lp : Tab (Option Word)
  pg : Tab (Option PgRec)
  deriving DecidableEq, Repr

def ProtCfg.reset : ProtCfg := ⟨[], []⟩

def lpCfgReset : Word := 0x0000_0812_C000_0000

end Sys2Proof.Machine
end

