-- ==== Sys2Proof/Machine/State/Bushel.lean ====
section
/-!
DEFINITION. Bushels and the configuration that only bushels change (07_maps_bushels.md).
-/
namespace Sys2Proof.Machine

/-- The records a bushel changes: connections and structure, pairs and groups, alignment and symmetry, queues (Table 12.9). -/
structure BCfg where
  fab : FabCfg
  prot : ProtCfg
  align : AlignCfg
  queues : Tab QueueRec
  /-- Queues and groups whose allocation a SHED released (R232, R323). -/
  dormant : List Nat
  bare : List Nat
  deriving DecidableEq, Repr

def BCfg.reset : BCfg := ⟨.reset, .reset, .reset, [], [], []⟩

/-- A change: its class, opcode, parameter words and object, as added (ANY already resolved). SHED's bushel also carries changes of class
0x04: opcode 6 releases the cells of queue `obj`, opcode 7 the Fathom allocation of group `obj` (R232). -/
structure Change where
  cls : Nat
  op : Nat
  obj : Nat
  words : List Word
  deriving DecidableEq, Repr

/-- States of a bushel that is not discarded, coded as BUSHEL_STATUS; DISCARDED bushels are not held. -/
inductive BushelMode where
  | open_
  | queued
  | pending
  | restored
  | loading
  | loaded
  | flipped
  | settled
  deriving DecidableEq, Repr

/-- A bushel (R206 to R218). -/
structure Bushel where
  id : Nat
  owner : Nat
  /-- The sender is a TEN sender: at most 2 such are open per tenant (R206). -/
  ten : Bool
  mode : BushelMode
  /-- Accepted to load in the very next frame (R34), so never queued behind anything. -/
  direct : Bool
  changes : List Change
  oversize : Bool
  idle : Nat
  deadline : Nat
  scheduled : Bool
  s : BitVec 48
  l : Nat
  c : BitVec 48
  flipFn : BitVec 48
  /-- Restored at boot: exempt from R49's discard (R213). -/
  wasRestored : Bool
  shed : Bool
  deriving DecidableEq, Repr

/-- Bushels, oldest accepted first, and the summary registers. -/
structure BushelState where
  list : List Bushel
  lastId : Nat
  lastRefuse : BitVec 8
  activeHalf : Bool
  /-- Map words the compiler placed: what the maps hold is open; bad words found by scrub are kept here (R491). -/
  badMapWords : List Nat
  /-- Tenants marked over-quota (R231). -/
  overQuota : Tab Bool
  deriving DecidableEq, Repr

def BushelState.reset : BushelState := ⟨[], 0, 0, false, [], []⟩

end Sys2Proof.Machine
end

