-- ==== Sys2Proof/Machine/State/Framing.lean ====
section
/-!
DEFINITION. E1, C37.94, GFP and VCAT (05_trib_gfp_framing.md), less the journalled records.
-/
namespace Sys2Proof.Machine

/-- The CRC-4 state of an E1 (Table 5.10). -/
inductive Crc4 where
  | off
  | searching
  | aligned
  | fallback
  deriving DecidableEq, Repr

/-- The framer or TS0 monitor of one E1, by E1 EID. -/
structure E1State where
  inFrame : Bool
  pos : BitVec 8
  /-- The frame parity: the next frame at the position is a FAS frame. -/
  nextFas : Bool
  /-- The bits received last, for octets that cross the frame boundary. -/
  prev : BitVec 256
  /-- Candidates seen with FAS, and those that also passed the NFAS check (R127). -/
  cand1 : BitVec 256
  cand2 : BitVec 256
  excluded : Option (BitVec 8)
  excludeEnd : Nat
  /-- Frame the present alignment was declared in; frames since, up to 64. -/
  sinceDecl : Nat
  fasErr : Nat
  nfasErr : Nat
  crc4 : Crc4
  background : Bool
  /-- Start of the 8 ms and of the 400 ms times of R130. -/
  mfStart : Nat
  fallStart : Nat
  /-- Si bits of the last NFAS frames, newest first, and NFAS frames since each alignment signal of the last 8 ms. -/
  siHist : List Bool
  mfSeen : List Nat
  /-- The frame number 0 to 15 within the multiframe of the next frame, when aligned. -/
  mfFrame : Nat
  mfErr : Nat
  /-- CRC-4 of the running submultiframe, of the one before, the C bits received in this one. -/
  crcReg : BitVec 4
  crcPrev : BitVec 4
  cBits : BitVec 4
  smfSeen : Nat
  /-- Errored submultiframes and submultiframes of the present block of 1,000 (R128), and a block that has ended. -/
  blockErr : Nat
  blockLen : Nat
  blockEnded : Option Nat
  nErrSmf : Nat
  nRemote : Nat
  sa : BitVec 5
  /-- The SSM nibble being collected, its acceptance (R133) and validity of the accepted value. -/
  ssmPart : List Bool
  ssm : Accept
  ssmValid : Bool
  zeroRun : Nat
  los : Bool
  lof : Debounce
  aisZeros : Nat
  aisHalf : Bool
  ais : Debounce
  rdi : Debounce
  exc : Monitor
  deg : Monitor
  reported : List Nat
  /-- Quality: what spoils the running block and spoiled the one before; the last judgement; frames of the running block (R138). -/
  spoiled : Bool
  spoiledPrev : Bool
  clean : Bool
  frames : Nat
  /-- Transmit side: frame within the multiframe, CRC-4 of the running and last submultiframe, E bits owed as 0. -/
  txFrame : Nat
  txCrc : BitVec 4
  txLast : BitVec 4
  eOwed : Nat
  deriving DecidableEq, Repr

def E1State.reset : E1State :=
  { inFrame := false, pos := 0, nextFas := true, prev := 0, cand1 := 0, cand2 := 0, excluded := none, excludeEnd := 0,
    sinceDecl := 0, fasErr := 0, nfasErr := 0, crc4 := .searching, background := false, mfStart := 0, fallStart := 0, siHist := [],
    mfSeen := [], mfFrame := 0, mfErr := 0, crcReg := 0, crcPrev := 0, cBits := 0, smfSeen := 0, blockErr := 0, blockLen := 0,
    blockEnded := none, nErrSmf := 0, nRemote := 0, sa := 0, ssmPart := [], ssm := .reset, ssmValid := false, zeroRun := 0,
    los := false, lof := .off, aisZeros := 0, aisHalf := false, ais := .off, rdi := .off, exc := .reset, deg := .reset,
    reported := [], spoiled := false, spoiledPrev := false, clean := false, frames := 0, txFrame := 0, txCrc := 0, txLast := 0, eOwed := 0 }

/-- The C37.94 framer of one port. -/
structure C37State where
  inFrame : Bool
  pos : BitVec 8
  /-- Frames in a row in which the header stood at each position, as three layers of candidates (R140). -/
  cand1 : BitVec 256
  cand2 : BitVec 256
  headErr : Nat
  accepted : BitVec 4
  countCand : BitVec 4
  countRun : Nat
  los : Bool
  lof : Debounce
  rdi : Debounce
  pairViol : Nat
  badCounts : Nat
  reported : List Nat
  frames : Nat
  spoiled : Bool
  clean : Bool
  deriving DecidableEq, Repr

def C37State.reset : C37State :=
  { inFrame := false, pos := 0, cand1 := 0, cand2 := 0, headErr := 0, accepted := 0, countCand := 0, countRun := 0, los := false,
    lof := .off, rdi := .off, pairViol := 0, badCounts := 0, reported := [], frames := 0, spoiled := false, clean := false }

/-- One GFP channel (R148 to R153). -/
structure GfpChan where
  state : Framer
  count : Nat
  /-- Frame (of the time base) since which the channel is in or out of SYNC without a break. -/
  since : Nat
  lfd : Bool
  csf : Bool
  csfEnd : Nat
  lastUpi : Byte
  descr : BitVec 43
  scr : BitVec 43
  deriving DecidableEq, Repr

def GfpChan.reset : GfpChan := ⟨.hunt, 0, 0, false, false, 0, 0, 0, 0⟩

/-- Where a member stands in an add or a remove (R159, R160). -/
inductive Lcas where
  | steady
  | adding
  | removing
  deriving DecidableEq, Repr

/-- A member of a VCAT group. -/
structure Member where
  eid : BitVec 32
  sq : Nat
  ctrlTx : BitVec 4
  ctrlRx : BitVec 4
  sqRx : Nat
  mstRx : Bool
  mstTx : Bool
  gid : Bool
  lastCrcOk : Bool
  aligned : Bool
  /-- Frames by which the member's MFI trails the frame count, modulo 4,096; its offset against the earliest member, the control multiframes that
  gave it in a row, and those that changed it in a row (R303). -/
  lag : Option Nat
  offset : Nat
  run : Nat
  changes : Nat
  phase : Lcas
  /-- Since when the member has failed, or been clean, on the time base; MST fell to FAIL and waits for WTR_S (R158). -/
  failSince : Option Nat
  cleanSince : Option Nat
  fell : Bool
  removeEnd : Nat
  deriving DecidableEq, Repr

/-- A member just provisioned. -/
def Member.make (eid : BitVec 32) (sq : Nat) (ctrl : BitVec 4) (phase : Lcas) : Member :=
  { eid := eid, sq := sq, ctrlTx := ctrl, ctrlRx := 5, sqRx := 0, mstRx := false, mstTx := false, gid := false, lastCrcOk := false,
    aligned := false, lag := none, offset := 0, run := 0, changes := 0, phase := phase, failSince := none, cleanSince := none, fell := false,
    removeEnd := 0 }

/-- One VCAT group. -/
structure VcatGroup where
  members : List Member
  sqm : Bool
  fail : Bool
  /-- Since when each condition has been absent. -/
  sqmOff : Option Nat
  failOff : Option Nat
  rsAckTx : Bool
  rsAckRx : Bool
  reported : List Nat
  deriving DecidableEq, Repr

def VcatGroup.reset : VcatGroup := ⟨[], false, false, none, none, false, false, []⟩

/-- Chapter 5. -/
structure FramState where
  e1 : Tab E1State
  c37 : Tab C37State
  gfp : Tab GfpChan
  vcat : Tab VcatGroup
  deriving DecidableEq, Repr

def FramState.reset : FramState := ⟨[], [], [], []⟩

/-- What a GFP channel is bound to (R146). -/
inductive Carrier where
  | path (eid : BitVec 32)
  | group (g : Nat)
  deriving DecidableEq, Repr

/-- The journalled records of chapter 5. Bank framers 0 to 63 hold the E1 EID they serve. -/
structure FramCfg where
  e1 : Tab Word
  bank : Tab (Option (BitVec 32))
  gfp : Tab Word
  gfpBind : Tab (Option Carrier)
  vcat : Tab Word
  members : Tab (List (BitVec 32))
  deriving DecidableEq, Repr

def FramCfg.reset : FramCfg := ⟨[], [], [], [], [], []⟩

def e1CfgReset : Word := 0x0000_0000_631F_0021
def gfpCfgReset : Word := 0x0000_2580_0101_0100
def vcatCfgReset : Word := 0x0000_000A_0001_0040

end Sys2Proof.Machine
end

