-- ==== Sys2Proof/Machine/State/Lines.lean ====
section
/-!
DEFINITION. Line lanes, mate lanes and tributary ports (03_lanes_ports.md), less their journalled records.
-/
namespace Sys2Proof.Machine

/-- What the PCS of an Ethernet lane reports (R65, R66). -/
structure PcsCond where
  sync : Bool
  anegDone : Bool
  blockLock : Bool
  hiBer : Bool
  deriving DecidableEq, Repr

/-- One line lane. -/
structure Lane where
  config : Bool
  /-- The signal-level detector and the transition detector report no-signal (R60, R61). -/
  sigLow : Bool
  noTrans : Bool
  cdrLocked : Bool
  active : Bool
  /-- The near-end CTLE setting in use (R64). -/
  ctle : BitVec 4
  pcs : PcsCond
  linkUp : Bool
  gen : BitVec 3
  chk : BitVec 3
  chkLock : Bool
  patErrs : Nat
  loop : BitVec 2
  pauseDiscards : Nat
  /-- Wake bursts sent once on the lane (R548) are outputs; nothing is held. -/
  frozen : Bool
  deriving DecidableEq, Repr

def Lane.reset : Lane :=
  { config := false, sigLow := true, noTrans := true, cdrLocked := false, active := false, ctle := 0,
    pcs := ⟨false, false, false, true⟩, linkUp := false, gen := 0, chk := 0, chkLock := false, patErrs := 0, loop := 0,
    pauseDiscards := 0, frozen := false }

/-- One mate lane (R74 to R77). -/
structure MateLane where
  locked : Bool
  identified : Bool
  deskewed : Bool
  partner : BitVec 2
  inverted : Bool
  loop : BitVec 2
  gen : BitVec 3
  chk : BitVec 3
  chkLock : Bool
  deriving DecidableEq, Repr

def MateLane.reset : MateLane := ⟨false, false, false, 0, false, 0, 0, 0, false⟩

/-- One tributary port: clock, transmit store and frame aligner (R80 to R85). -/
structure TribPort where
  clkLoss : Bool
  fallback : Bool
  txSlips : Nat
  /-- Frame aligner: φ0 recorded, frames counted within range, alignment, build-out d (R83). -/
  phi0 : Option (BitVec 8)
  count : Nat
  aligned : Bool
  buildOut : BitVec 9
  loop : BitVec 2
  deriving DecidableEq, Repr

def TribPort.reset : TribPort := ⟨false, false, 0, none, 0, false, 0, 0⟩

/-- Chapter 3. -/
structure LineState where
  lanes : Tab Lane
  mates : Tab MateLane
  tribs : Tab TribPort
  /-- Short-mode source slips per grain EID of a port (R24). -/
  shortSlips : Tab Nat
  deriving DecidableEq, Repr

def LineState.reset : LineState := ⟨[], [], [], []⟩

/-- The journalled records of chapter 3: LANE_CFG, the mate record, TRIB_CFG. -/
structure LineCfg where
  lane : Tab Word
  mate : Tab Word
  trib : Tab Half
  deriving DecidableEq, Repr

def LineCfg.reset : LineCfg := ⟨[], [], []⟩

/-- The reset value of LANE_CFG, which a mate record shares (R74; log entry 4). -/
def laneCfgReset : Word := 0x0080_001A_0000_0000

/-- The reset value of TRIB_CFG. -/
def tribCfgReset : Half := 0x0005_0000

end Sys2Proof.Machine
end

