-- ==== Sys2Proof/Machine/State/Pair.lean ====
section
/-!
DEFINITION. Paired operation (16_paired_operation.md): the token, the pair state, the mate link and mirroring.
-/
namespace Sys2Proof.Machine

/-- Pair states, coded as STATE of PAIR_STATUS (Table 16.1). -/
inductive PairMode where
  | alone
  | syncing
  | standby
  | active
  | handover
  | faulted
  deriving DecidableEq, Repr

/-- The last status block of the partner: its words 0 to 3 (R514). -/
structure Peer where
  w0 : Word
  w1 : Word
  w2 : Word
  w3 : Word
  deriving DecidableEq, Repr

def Peer.none : Peer := ⟨0, 0, 0, 0⟩

/-- A reply that waits for the standby's acknowledgement (R519): mirror sequence, the command with its answer, and the time limit. -/
structure MirrorWait where
  seq : Nat
  cmd : Cmd
  cls : Nat
  op : Nat
  status : Nat
  detail : Nat
  data : List Word
  limit : Nat
  deriving DecidableEq, Repr

/-- Chapter 16. Times are frames of the time base. -/
structure PairState where
  mode : PairMode
  /-- The state before a handover was agreed. -/
  before : PairMode
  /-- Role as acted (R507): home. -/
  home : Bool
  strapConflict : Bool
  token : Bool
  /-- ACT_OUT as driven; and as asked for the next tick. -/
  actOut : Bool
  actOutNext : Option Bool
  /-- ACT_CLAIM driven low by this unit; its level as last sampled, true high. -/
  driving : Bool
  claimHigh : Bool
  /-- A claim was driven and its readback is due. -/
  readback : Bool
  /-- Cause code the claim's success records (Table 16.2). -/
  claimCause : Nat
  /-- A partner that waited in vain for the mate link claims no earlier than this (R513). -/
  claimAfter : Nat
  /-- Since when the line is low although the partner does not hold it (Table 16.7). -/
  claimLowSince : Option Nat
  /-- Both units were seen to hold the token (R525). -/
  dual : Bool
  mateUp : Bool
  badBlocks : Nat
  inStep : Bool
  /-- Stale: this unit as standby, or the partner as the active marks it (R519). -/
  stale : Bool
  peer : Peer
  lastCause : Nat
  wtrEnd : Option Nat
  phase : Half
  /-- Frames the phase error has lain within ±4 ns, as last measured. -/
  stepGood : Nat
  /-- Paths and queues out of step. -/
  outOfStep : List Nat
  mirrorSent : Nat
  mirrorRecv : Nat
  mirrorAcked : Nat
  badMessages : Nat
  resyncAsked : Bool
  waits : List MirrorWait
  /-- On the active, the sequence that ends the synchronisation it has sent (R520). -/
  syncSeq : Option Nat
  /-- On the standby, a synchronisation is being received. -/
  image : Bool
  holdHandback : Bool
  lockStandby : Bool
  standbyHold : Bool
  /-- A handover proposed or agreed: H, whether agreed, this unit gives, and when it was proposed (frames of the time base). -/
  hand : Option Nat
  handAgreed : Bool
  handGive : Bool
  handFrom : Nat
  handCause : Nat
  /-- Code this unit sends in word 2 of its status block. -/
  handCode : Nat
  bootWaitEnd : Option Nat
  /-- Stage mismatches in consecutive frames (R511). -/
  mismatches : Nat
  /-- The first lock to the active's frame phase since the link came up is still to come. -/
  phaseSet : Bool
  /-- PAIR_FORCE waits for the next tick: take, or release. -/
  force : Option Bool
  deriving DecidableEq, Repr

def PairState.reset : PairState :=
  { mode := .alone, before := .alone, home := false, strapConflict := false, token := false, actOut := false, actOutNext := none,
    driving := false, claimHigh := true, readback := false, claimCause := 0, claimAfter := 0, claimLowSince := none, dual := false, mateUp := false, badBlocks := 0,
    inStep := false, stale := false, peer := .none, lastCause := 0, wtrEnd := none, phase := 0x8000_0000, stepGood := 0, 
    outOfStep := [], mirrorSent := 0, mirrorRecv := 0, mirrorAcked := 0, badMessages := 0, resyncAsked := false, waits := [],
    syncSeq := none, image := false, holdHandback := false, lockStandby := false, standbyHold := false, hand := none, handAgreed := false,
    handGive := false, handFrom := 0, handCause := 0, handCode := 0, bootWaitEnd := none, mismatches := 0, phaseSet := false,
    force := none }

/-- The reset value of PAIR_CFG. -/
def pairCfgReset : Word := 0x712C_07D0_0000_0000

end Sys2Proof.Machine
end

