-- ==== Sys2Proof/Machine/State/Power.lean ====
section
/-!
DEFINITION. Power states, supplies, the oscillator supply, the wake controller and time across sleep (17_power.md).
-/
namespace Sys2Proof.Machine

/-- Where the device stands among its power states (R530, R544, R550). -/
inductive PwrMode where
  | run
  | firkin
  /-- The entry window of a Gill entry. -/
  | entry
  | gill
  /-- A wake sequence at this step, 1 to 5. -/
  | waking (step : Nat)
  deriving DecidableEq, Repr

/-- The essential set fixed at the entry to Firkin (R532): lanes, ports, connection records, queues, protection groups. -/
structure Essential where
  lanes : BitVec 40
  ports : BitVec 64
  conns : List Nat
  queues : List Nat
  deriving DecidableEq, Repr

def Essential.none : Essential := ⟨0, 0, [], []⟩

/-- A stretch of sleep counted on one timebase source (R555): 0 OSCIN / 1,024, 1 crystal, 2 RC; ticks; duration in ns. -/
structure Stretch where
  src : Nat
  ticks : Nat
  ns : Nat
  deriving DecidableEq, Repr

/-- The sleep-gap record (R557). -/
structure SleepGap where
  fn : BitVec 48
  fnSrc : BitVec 3
  stretches : List Stretch
  u : Nat
  deriving DecidableEq, Repr

def SleepGap.none : SleepGap := ⟨0, 0, [], 0⟩

/-- Chapter 17. Times are frames of the time base. The periods before any calibration are the nominal ones (log entry 9). -/
structure PowerState where
  mode : PwrMode
  /-- The entry or the wake began in Firkin. -/
  fromFirkin : Bool
  entryEnd : Nat
  /-- A PWR_STATE Run or Firkin waits for the next tick (true Firkin). -/
  goal : Option Bool
  ess : Essential
  lineOn : BitVec 8
  tribOn : Bool
  pktOn : Bool
  mateOn : Bool
  fabOn : Bool
  coreEn : Bool
  voscOn : Bool
  voscLatched : Bool
  /-- The start now being made, and automatic attempts made since the latch. -/
  voscTries : Nat
  voscRetryAt : Nat
  /-- The last start failed and its success is still to be reported with CLR = 1. -/
  voscOwed : Bool
  avsFault : Bool
  avsNacks : Nat
  avsTimeouts : Nat
  /-- Voltage requested last and voltage measured last, in mV; a request runs. -/
  avsRequest : Nat
  avsBusy : Bool
  avsStepAt : Nat
  vcore : BitVec 10
  rcClocks : Bool
  oscRunning : Bool
  wakeStatus : Half
  /-- Wake log, newest first: word 0 and word 1. -/
  wakeLog : List (Word × Word)
  wakeSrc : Nat
  wakeObj : Nat
  /-- Time since the qualification of the wake source, in units of 10 µs, as the steps report it. -/
  wakeTime : Nat
  wakeAttempt : Nat
  /-- Failed attempts to be reported: code and attempt (R551). -/
  wakeFails : List (Nat × Nat)
  /-- A retry of the wake sequence is to come, or waits for PFW_N (R551, R552). -/
  wakePending : Bool
  /-- Sources that fired during the wake (R552). -/
  wakeExtra : List (Nat × Nat)
  /-- Attempts are used up: the device stays in Gill until another source fires. -/
  wakeGivenUp : Bool
  /-- Activity sources armed (R549): lanes, ports, CP2, mate. -/
  armLanes : BitVec 40
  armPorts : BitVec 64
  armMgmt : Bool
  armMate : Bool
  sleep : SleepGap
  /-- The count now runs on this source. -/
  gapSrc : Nat
  /-- U of earlier wakes since time was last traceable, in ns (R557). -/
  uCarry : Nat
  /-- Cycles of the crystal (0 without one) and of the RC in a 1 s gate of OSCIN, at the last calibration (R555). -/
  calXtal : Nat
  calRc : Nat
  pfwLow : Bool
  /-- Temperatures as last reported: die and band sensors, 1/256 °C. -/
  dieTemp : Int
  /-- Resume image in the Gill store is valid (R563). -/
  resumeImage : Bool
  deriving DecidableEq, Repr

def PowerState.reset : PowerState :=
  { mode := .run, fromFirkin := false, entryEnd := 0, goal := none, ess := .none, lineOn := 0xFF, tribOn := true, pktOn := true,
    mateOn := true, fabOn := true, coreEn := true, voscOn := true, voscLatched := false, voscTries := 0, voscRetryAt := 0,
    voscOwed := false, avsFault := false, avsNacks := 0, avsTimeouts := 0, avsRequest := 750, avsBusy := true, avsStepAt := 0,
    vcore := 750, rcClocks := false, oscRunning := true, wakeStatus := 0, wakeLog := [], wakeSrc := 0, wakeObj := 0,
    wakeTime := 0, wakeAttempt := 0, wakeFails := [], wakePending := false, wakeExtra := [], wakeGivenUp := false, armLanes := 0, armPorts := 0,
    armMgmt := false, armMate := false, sleep := .none, gapSrc := 0, uCarry := 0, calXtal := 32768, calRc := 100000000, pfwLow := false, dieTemp := 0, resumeImage := false }

/-- POWER_CFG and WAKE_CFG, journalled. -/
structure PowerCfg where
  power : Word
  wake0 : Word
  wake1 : Word
  wake2 : Word
  wake3 : Word
  deriving DecidableEq, Repr

def PowerCfg.reset : PowerCfg := ⟨0xC619_0000_0000_0000, 0, 0, 0, 0x4000_0000_0000_0000⟩

end Sys2Proof.Machine
end

