-- ==== Sys2Proof/Machine/State/Timing.lean ====
section
/-!
DEFINITION. The timing core: candidates, the SYS DPLL and its selector, holdover and the oscillator model, time inputs, PTP (11_timing.md), and
the journalled records.
-/
namespace Sys2Proof.Machine

/-- Candidate states, coded as TIM_IN_STATUS reports them (Table 11.5). -/
inductive CandMode where
  | disabled
  | disqualified
  | qualifying
  | qualified
  | hit
  deriving DecidableEq, Repr

/-- A message that labels the next pulse of a 1PPS input (R365). -/
structure TodMsg where
  sec : Nat
  traceable : Bool
  deriving DecidableEq, Repr

/-- One candidate. Times are frames of the time base. -/
structure Cand where
  mode : CandMode
  /-- The last gate: its offset in 0.01 ppb, and whether it lay within FREQ_LIM; none before the first. -/
  offset : Int
  gateOk : Option Bool
  /-- When QUALIFYING or HIT was entered. -/
  since : Nat
  /-- REFIN: no edge for 4 periods (Table 11.3). -/
  noEdge : Bool
  /-- 1PPS: the last good pulse, whether the last pulse lay off it, its label, pulses in a row without a message, the message for the next
  pulse, and STATUS[6] and UTC_OFF of the last message. -/
  lastGood : Option Nat
  offPulse : Bool
  label : Option Nat
  unlabelled : Nat
  tod : Option TodMsg
  traceable : Bool
  utcOff : BitVec 16
  /-- The time error against it, where it was measured. -/
  theta : Option Int
  deriving DecidableEq, Repr

def Cand.reset : Cand :=
  { mode := .disabled, offset := 0, gateOk := none, since := 0, noEdge := false, lastGood := none, offPulse := false, label := none,
    unlabelled := 0, tod := none, traceable := false, utcOff := 0, theta := none }

/-- SYS DPLL states, coded as TIM_QSTAT reports them (Table 11.6). -/
inductive SysMode where
  | freeRun
  | acquire
  | locked
  | holdover
  deriving DecidableEq, Repr

/-- STATE of the oscillator model (R361, R362). -/
inductive ModelMode where
  | none
  | learning
  | valid
  | loaded
  deriving DecidableEq, Repr

/-- A record of the model's learning (R361): steering, filtered temperature, age. -/
structure ModelRec where
  steer : Int
  temp : Int
  age : Nat
  deriving DecidableEq, Repr

/-- A data set of the alternate BMCA (R366): what an Announce carried, with the receiving port's localPriority. -/
structure PtpData where
  cls : Nat
  acc : Nat
  var : Nat
  prio2 : Nat
  localPrio : Nat
  gm : BitVec 64
  steps : Nat
  sender : BitVec 80
  deriving DecidableEq, Repr

/-- portState of IEEE 1588-2019, less the transient states. -/
inductive PtpMode where
  | disabled
  | listening
  | master
  | passive
  | slave
  deriving DecidableEq, Repr

/-- One PTP port. Timestamps are on the time counter, in ns. -/
structure PtpPort where
  mode : PtpMode
  /-- The best Announce heard, and when the last one of its sender came. -/
  best : Option PtpData
  heardAt : Nat
  /-- The last Sync: sequence, its receipt time, and the master's time once it is known. -/
  syncSeq : Nat
  syncRx : Option Int
  syncTx : Option Int
  /-- The last Delay_Req sent: sequence and time. -/
  reqSeq : Nat
  reqTx : Option Int
  sentSync : Nat
  sentAnnounce : Nat
  deriving DecidableEq, Repr

def PtpPort.reset : PtpPort :=
  { mode := .disabled, best := none, heardAt := 0, syncSeq := 0, syncRx := none, syncTx := none, reqSeq := 0, reqTx := none, sentSync := 0,
    sentAnnounce := 0 }

/-- Chapter 11, less its journalled records. Steering is held in 2^-44 ppb, temperatures in 1/256 degree C, the time error in 1/972 ns (a cycle is
1,250 of them), other times in frames of the time base. -/
structure TimState where
  cands : Tab Cand
  sys : SysMode
  selected : Option Nat
  /-- The build-out target and the candidates usable at the boundary that chose it (R352, R353). -/
  target : Option Nat
  usableThen : List Nat
  forced : Bool
  /-- The candidate SYS was LOCKED to when it was forced (R350). -/
  forcedFrom : Option Nat
  commitAt : Option Nat
  wtrSince : Option Nat
  /-- The boundary evaluated last. -/
  lastEval : Option Nat
  acquireAt : Nat
  lockedAt : Nat
  holdAt : Nat
  /-- A holdover younger than 10 ms keeps the QL (R347). -/
  qlHeld : Bool
  txQl : BitVec 4
  /-- Steering and temperature of each control period spent LOCKED, newest first, kept as long as HOLD_AVG can ask (R358). -/
  hist : List (Int × Int)
  steer : Int
  temp : Int
  s0 : Int
  t0 : Int
  age0 : Nat
  coarse : Bool
  modelOn : Bool
  extrap : Bool
  /-- Oscillator age in seconds (R360), and the frame it counts from. -/
  oscFrom : Nat
  oscBase : Nat
  records : List ModelRec
  recordAt : Nat
  fitAt : Nat
  timeCand : Option Nat
  /-- Since when FN_SRC has been 0b010. -/
  timeHoldAt : Nat
  squelched : Tab Bool
  ports : Tab PtpPort
  /-- The PTP DPLL, coded as PTP_STATUS reports it; since when offsets have stayed within 100 ns; the last offset's time and value. -/
  dpll : SysMode
  goodSince : Option Nat
  offsetAt : Nat
  offset : Int
  pathDelay : Int
  deriving DecidableEq, Repr

def TimState.reset : TimState :=
  { cands := [], sys := .freeRun, selected := none, target := none, usableThen := [], forced := false, forcedFrom := none, commitAt := none,
    wtrSince := none, lastEval := none, acquireAt := 0, lockedAt := 0, holdAt := 0, qlHeld := false, txQl := 0xB, hist := [], steer := 0,
    temp := 0, s0 := 0, t0 := 0, age0 := 0, coarse := false, modelOn := false, extrap := false, oscFrom := 0, oscBase := 0,
    records := [], recordAt := 0, fitAt := 0, timeCand := none, timeHoldAt := 0,
    squelched := [], ports := [], dpll := .freeRun, goodSince := none, offsetAt := 0, offset := 0, pathDelay := 0 }

/-- HOLD_MODEL. -/
structure HoldModel where
  w0 : Word
  w1 : Word
  w2 : Word
  deriving DecidableEq, Repr

def HoldModel.reset : HoldModel := ⟨0, 0x0000_0000_0002_A300, 0x0000_0000_03C0_0000⟩

/-- The journalled records of chapter 11: TIM_SYS_CFG, TIM_IN_CFG, HOLD_MODEL, OUT_CFG, PTP_CFG, PTP_PORT, and what TIM_MON_SET and
TIM_THERM_SET set. -/
structure TimCfg where
  sys : Word
  inputs : Tab Word
  hold : HoldModel
  outs : Tab Half
  ptp0 : Word
  ptp1 : Word
  ports : Tab Word
  mon : BitVec 8
  therm : Half
  /-- STATE and the temperature range of the model, and the oscillator age journalled last (R360, R361). -/
  model : ModelMode
  tMin : Int
  tMax : Int
  age : Nat
  deriving DecidableEq, Repr

def timInReset : Word := 0x2001_0280_A000_0000
def ptpPortReset : Word := 0x0040_7FF8_0000_0000

def TimCfg.reset : TimCfg :=
  { sys := 0xFF00_12C6_85B1_2CFF, inputs := [], hold := .reset, outs := [], ptp0 := 0x1880_8700_F000_0000, ptp1 := 0, ports := [], mon := 0xFF,
    therm := 0, model := .none, tMin := 0, tMax := 0, age := 0 }

end Sys2Proof.Machine
end

