-- ==== Sys2Proof/Machine/State/Config.lean ====
section
/-!
DEFINITION. The committed configuration: every record that is journalled (R497, R501), one field per chapter.
-/
namespace Sys2Proof.Machine

/-- A pair of 64-bit record words. -/
abbrev Rec2 := Word × Word

/-- TENANT_REC words 0 and 1, port settings (R384, R412). -/
structure CmdCfg where
  tenants : Tab Rec2
  ports : Tab PortCfg
  deriving DecidableEq, Repr

/-- Tenant 0 starts ACTIVE with MAX_PRIV SUP on every port. -/
def CmdCfg.reset : CmdCfg := ⟨[(0, 0x6F00_0000_0000_0000, 0)], []⟩

/-- COUNTER_CFG, FILTER_CFG and the user slots: EN and T-ID (R481). -/
structure EvCfg where
  counters : Tab Rec2
  filters : Tab Rec2
  slots : Tab Word
  deriving DecidableEq, Repr

def EvCfg.reset : EvCfg := ⟨[], [], []⟩

/-- The whole of it. `b` changes only by bushels; `pair` is PAIR_CFG. -/
structure Cfg where
  line : LineCfg
  sdh : SdhCfg
  fram : FramCfg
  b : BCfg
  mark : MarkCfg
  pie : PieCfg
  cmd : CmdCfg
  ev : EvCfg
  tim : TimCfg
  power : PowerCfg
  pair : Word
  boot : BootCfg
  deriving DecidableEq, Repr

def Cfg.reset : Cfg :=
  { line := .reset, sdh := .reset, fram := .reset, b := .reset, mark := .reset, pie := .reset, cmd := .reset, ev := .reset,
    tim := .reset, power := .reset, pair := pairCfgReset, boot := .reset }

end Sys2Proof.Machine
end

