-- ==== Sys2Proof/Machine/State/Events.lean ====
section
/-!
DEFINITION. Event records, the EVIC, event pins, the counter hub and word tracing (14_events_counters.md).
-/
namespace Sys2Proof.Machine

/-- An event record (Table 14.1). -/
structure EvRec where
  w0 : Word
  w1 : Word
  deriving DecidableEq, Repr

/-- One EVIC target: TGT_CFG, its claim stack (source and the running priority before it), its notification and timer (R464, R465). -/
structure EvicTarget where
  cfg : Half
  stack : List (Nat × Option Nat)
  outstanding : Bool
  timer : Bool
  deriving DecidableEq, Repr

def EvicTarget.reset : EvicTarget := ⟨0, [], false, false⟩

/-- One event ring (R467). -/
structure EvRing where
  cfg : Half
  backlog : List EvRec
  lost : Nat
  ovf : Bool
  raised : Bool
  deriving DecidableEq, Repr

def EvRing.reset : EvRing := ⟨0x0064_F000, [], 0, false, false⟩

/-- An event pin (R468): PIN_CFG and the filtered level. -/
structure EvPin where
  cfg : Half
  level : Bool
  deriving DecidableEq, Repr

/-- EVT_IN0 to EVT_IN7 at indexes 0 to 7, FRZ_N at 8. -/
def EvPin.reset (n : Nat) : EvPin := ⟨if n = 8 then 0x8000_000A else 0x0000_000A, n = 8⟩

/-- A counter: live and snapshot values of 48 bits. -/
structure Counter where
  live : BitVec 48
  snap : BitVec 48
  deriving DecidableEq, Repr

def Counter.reset : Counter := ⟨0, 0⟩

/-- A trace record (Table 14.8) under its allocation index. -/
structure TraceRec where
  index : BitVec 32
  done : Bool
  mcast : Bool
  qb : Bool
  trunc : Bool
  timeout : Bool
  src : BitVec 4
  dst : BitVec 4
  fn : BitVec 48
  c0 : BitVec 17
  c7 : BitVec 17
  /-- S1 to S8, 0xFFFF_FFFF where the word did not pass. -/
  stamps : List (BitVec 32)
  cid : Option (BitVec 19)
  deriving DecidableEq, Repr

/-- Tracing on one fabric port (R478). -/
structure TracePort where
  en : Bool
  k : Nat
  lfsr : BitVec 24
  deriving DecidableEq, Repr

def TracePort.reset : TracePort := ⟨false, 8, 1⟩

/-- Chapter 14, less what is journalled in Cfg. -/
structure EvState where
  staging : List EvRec
  /-- The next record entered carries OVF. -/
  ovf : Bool
  lost : Nat
  srcCfg : Tab Half
  pend : BitVec 512
  active : BitVec 512
  targets : Tab EvicTarget
  rings : Tab EvRing
  pins : Tab EvPin
  counters : Tab Counter
  /-- High halves that 4-octet reads of low halves latched, by host port, window and offset (R472). -/
  latches : Tab (Option (BitVec 32))
  snapFn : BitVec 48
  snapSeq : BitVec 32
  snapReq : Bool
  snapRunning : Bool
  tracePorts : Tab TracePort
  traceStop : Bool
  traces : List TraceRec
  traceNext : BitVec 32
  traceFull : Bool
  deriving DecidableEq, Repr

def EvState.reset : EvState :=
  { staging := [], ovf := false, lost := 0, srcCfg := [], pend := 0, active := 0, targets := [], rings := [], pins := [],
    counters := [], latches := [], snapFn := 0, snapSeq := 0, snapReq := false, snapRunning := false, tracePorts := [], traceStop := false,
    traces := [], traceNext := 0, traceFull := false }

end Sys2Proof.Machine
end

