-- ==== Sys2Proof/Machine/State/Journal.lean ====
section
/-!
DEFINITION. The non-volatile journal (R495 to R505): what survives every reset and power loss.
-/
namespace Sys2Proof.Machine

/-- What a configuration half stands for at one record boundary: the configuration, and the accepted bushels that had not flipped. -/
structure JSnap where
  cfg : Cfg
  bushels : List Bushel
  deriving DecidableEq, Repr

/-- The image of a full synchronisation: a base image and the protection state at the same boundary (R520). -/
structure MateImage where
  snap : JSnap
  pairs : Tab Prot
  groups : Tab Prot
  deriving DecidableEq, Repr

/-- A two-phase record of the configuration log: its sequence, body length in words, and the configuration once it stands (R496, R497). -/
structure JRec where
  seq : Nat
  words : Nat
  snap : JSnap
  deriving DecidableEq, Repr

/-- An entry of the key region (R500): T-ID, slot, key and RES. -/
structure KeyEntry where
  tid : Nat
  slot : Bool
  key : Key
  res : BitVec 32
  deriving DecidableEq, Repr

/-- A power-fail record (R502). -/
structure PowerFail where
  fn : BitVec 48
  cycle : BitVec 17
  fnSrc : BitVec 3
  reason : Nat
  deriving DecidableEq, Repr

/-- The journal. -/
structure Journal where
  valid : Bool
  half : Bool
  superSeq : Nat
  base : JSnap
  baseWords : Nat
  log : List JRec
  lastSeq : Nat
  keys : List KeyEntry
  devLog : Tab EvRec
  nextIdx : BitVec 32
  oldest : Nat
  checkpoints : Tab (BitVec 48)
  checkpointFn : BitVec 48
  powerFails : List PowerFail
  powerFailCount : Nat
  compacting : Bool
  /-- The last record before the compaction that runs. -/
  compactFrom : Nat
  fullRaised : Bool
  corrupt : Bool
  /-- Mirror sequence of the last message journalled (R520). -/
  mirrorGen : Nat
  /-- What chapter 18 keeps through every reset. -/
  kept : Kept
  deriving DecidableEq, Repr

/-- The journal of a new device: no valid superblock, so it is empty (R501). -/
def Journal.fresh : Journal :=
  { valid := false, half := false, superSeq := 0, base := ⟨.reset, []⟩, baseWords := 0, log := [], lastSeq := 0, keys := [],
    devLog := [], nextIdx := 0, oldest := 0, checkpoints := [], checkpointFn := 0, powerFails := [], powerFailCount := 0,
    compacting := false, compactFrom := 0, fullRaised := false, corrupt := false, mirrorGen := 0, kept := .fresh }

end Sys2Proof.Machine
end

