-- ==== Sys2Proof/Machine/State/Memory.lean ====
section
/-!
DEFINITION. The stores, their ECC state and the refresh controller of the Gill state (15_memories_journal.md, 15.1 to 15.5).
-/
namespace Sys2Proof.Machine

/-- What the check bits of a stored word say (R486): none listed means a word written cleanly. -/
inductive Ecc where
  | clean
  | correctable
  | uncorrectable
  | poison
  deriving DecidableEq, Repr

/-- The counts of one store (R488). -/
structure StoreCounts where
  ce : Nat
  ue : Nat
  poisonReads : Nat
  poisonWrites : Nat
  qbCarried : Nat
  scrubWords : Nat
  scrubTime : Nat
  /-- CEs in the present second. -/
  ceSince : Nat
  deriving DecidableEq, Repr

def StoreCounts.reset : StoreCounts := ⟨0, 0, 0, 0, 0, 0, 0, 0⟩

/-- An armed error injection (MEM_INJECT): the store's word, the kind and the first bit. -/
structure Inject where
  store : Nat
  addr : Nat
  kind : Nat
  bit : Nat
  deriving DecidableEq, Repr

/-- A captured ECC error (MEM_ERR_LOG). -/
structure EccCapture where
  fn : BitVec 48
  info : Half
  addr : Half
  deriving DecidableEq, Repr

/-- The memories. Octets are (address, octet) pairs in canonical form; an octet nobody wrote reads 0 (log entry 5). The address of an octet
is store code * 2^32 + its offset; marks hold the words whose check bits are not clean, at store code * 2^32 + word address. -/
structure MemState where
  octets : List Host.Cell
  marks : Tab Ecc
  counts : Tab StoreCounts
  injects : List Inject
  eccInfo : Half
  eccAddr : Half
  statCe : Nat
  statUe : Nat
  statPoison : Nat
  errLog : List EccCapture
  /-- The refresh band in the Gill state, 0 up to 85 °C to 4 above 115 °C (Table 15.4). -/
  band : Nat
  hot : Bool
  deriving DecidableEq, Repr

def MemState.reset : MemState :=
  { octets := [], marks := [], counts := [], injects := [], eccInfo := 0, eccAddr := 0, statCe := 0, statUe := 0, statPoison := 0,
    errLog := [], band := 0, hot := false }

end Sys2Proof.Machine
end

