-- ==== Sys2Proof/Syntax.lean ====
section
/-!
DEFINITION. The commands of the block: one constructor of Instr for each row of the operation table, and the operands they carry.
An operand holds what comes from outside with the command; what the block already knows is in State.
-/
namespace Sys2Proof

open Sys2Proof.Machine

/-- A bus write to a 32-bit register: the master (Table 13.5), the value, and whether every byte enable is set (R417). -/
structure RegW where
  master : BitVec 3
  value : Half
  full : Bool
  deriving DecidableEq, Repr

/-- Where a bus access goes: an offset in a BAR of the master's host port, or a matrix address (13.4). -/
inductive BusAddr where
  | bar (n : Fin 6) (offset : BitVec 32)
  | matrix (target : BitVec 4) (offset : BitVec 32)
  deriving DecidableEq, Repr

/-- A bus write: octets from the lowest address up, one byte enable each; lock marks (R432); the ring or channel of a DMA master; and the program
words the write makes a channel fetch, none when the fetch fails. -/
structure BusWrite where
  master : BitVec 3
  unit : BitVec 6
  addr : BusAddr
  octets : List Byte
  enables : List Bool
  lockBegin : Bool
  lockEnd : Bool
  program : Option (List Word)
  deriving DecidableEq, Repr

/-- A ring descriptor as the device reads it (Table 13.7): words 0, 1 and 3, and the octets of its buffer where the device reads that; a read of
either failed. -/
structure DescRx where
  w0 : Word
  w1 : Word
  w3 : Word
  octets : List Byte
  failed : Bool
  deriving DecidableEq, Repr

/-- An ECC event a store reports (R487, R488): store code, word address, what was found and who read (MASTER of ECC_ERR_INFO). -/
structure EccEvent where
  store : Fin 9
  addr : BitVec 32
  found : Ecc
  master : BitVec 4
  deriving DecidableEq, Repr

/-- A stamp of a traced word (R479): the allocation index, the stage 1 to 8 it passes, cycles after S0, the cycle c there, and the destination
port, the flags seen. -/
structure TraceStamp where
  index : BitVec 32
  stage : Nat
  after : BitVec 32
  cycle : BitVec 17
  dst : BitVec 4
  mcast : Bool
  qb : Bool
  trunc : Bool
  cid : Option (BitVec 19)
  deriving DecidableEq, Repr

/-- What arrives at one endpoint in a frame. -/
structure Arrival where
  eid : BitVec 32
  octets : List Byte
  qb : Bool
  deriving DecidableEq, Repr

/-- What happens in the frame that a tick closes, as the hardware reports it: parity mismatches by fabric link (R12), stages whose
counter was not at the last cycle (R42; 0 to 13 the stage of that fabric port, any other number a stage that every word passes), cycles of the valid words each port took (R478), stamps of traced words, ECC events, traffic at
the fabric's sources, and countable events of blocks (event select, object, number). -/
structure TickIn where
  parity : List (Nat × Nat)
  stages : List Nat
  words : List (Fin 14 × List (BitVec 17))
  stamps : List TraceStamp
  ecc : List EccEvent
  traffic : List Arrival
  counts : List (Nat × Nat × Nat)
  deriving DecidableEq, Repr

/-- One HO path as a received SDH frame shows it: its EID, the 16 pointer bits of its first AU and of the further members, overhead
octets, the parity computed over the frame before, octets drifting into the ingress store, and whether a word carried QB. -/
structure HoRx where
  eid : BitVec 32
  ptr : BitVec 16
  members : List (BitVec 16)
  j1 : Byte
  b3 : Byte
  b3Calc : Byte
  c2 : Byte
  g1 : Byte
  f2 : Byte
  f3 : Byte
  h4 : Byte
  k3 : Byte
  n1 : Byte
  drift : Int
  qb : Bool
  deriving DecidableEq, Repr

/-- A received STM-N frame after descrambling (R92): the six octets where the alignment pattern is expected or found, section and line
overhead, and the parities the receiver computed. -/
structure SdhRx where
  lane : Fin 40
  pattern : BitVec 48
  j0 : Byte
  b1 : Byte
  b1Calc : Byte
  e1 : Byte
  f1 : Byte
  b2 : BitVec 1536
  b2Calc : BitVec 1536
  k1 : Byte
  k2 : Byte
  d : List Byte
  s1 : Byte
  m1 : Byte
  e2 : Byte
  paths : List HoRx
  deriving DecidableEq, Repr

/-- A received TU in one multiframe: its EID, V1 and V2, overhead octets, the BIP-2 computed, drift and QB. -/
structure TuRx where
  eid : BitVec 32
  ptr : BitVec 16
  v5 : Byte
  bip2Calc : BitVec 2
  j2 : Byte
  n2 : Byte
  k4 : Byte
  drift : Int
  qb : Bool
  deriving DecidableEq, Repr

/-- What the fabric brings to one path of an egress lane in a frame (an LO path: a multiframe): QB on every word, the overhead octets of a through
path (HO: J1 B3 C2 G1 F2 F3 H4 K3 N1; LO: V5 J2 N2 K4), the parity computed for a terminated one, octets drifting into the egress store, a new
internal pointer after a switch (R248), the FN of its source read (R289), and for a symmetry mark the cycles from STAMP to the departure of octet 0
and the device's internal delays in ns. -/
structure PathTx where
  eid : BitVec 32
  allQb : Bool
  oh : List Byte
  parity : Byte
  drift : Int
  jump : Option (BitVec 10)
  stamp : BitVec 48
  lag : BitVec 24
  dIn : BitVec 32
  dOut : BitVec 32
  deriving DecidableEq, Repr

/-- What an egress lane sends in one frame: the B1 and B2 computed, and its paths. -/
structure SdhTx where
  lane : Fin 40
  b1 : Byte
  b2 : BitVec 1536
  paths : List PathTx
  deriving DecidableEq, Repr

/-- A received C37.94 frame (R140 to R143): the bit positions at which the header stands, its phase in the system frame, pair violations in
channels 1 to N, the channel count and the yellow bit, 64 bit times without a transition, a transition in each of 16 intervals, and QB. -/
structure C37Rx where
  port : Fin 64
  heads : BitVec 256
  phase : BitVec 8
  viol : Nat
  count : BitVec 4
  yellow : Bool
  quiet : Bool
  lively : Bool
  qb : Bool
  deriving DecidableEq, Repr

/-- A received E1 frame: the E1 EID (a REFIN framer has the model's own number, refinE1), 256 bits in order of arrival from bit 255 down, the phase
of its frame start in the system frame, 4 µs without a transition on a REFIN (R125), and whether a word carried QB. -/
structure E1Rx where
  eid : BitVec 32
  bits : BitVec 256
  phase : BitVec 8
  quiet : Bool
  qb : Bool
  deriving DecidableEq, Repr

/-- A signature span of a group leg that has ended: the octets it covers (Table 9.2), and whether a word carried QB. -/
structure SigRx where
  pg : Fin 16384
  leg1 : Bool
  octets : List Byte
  qb : Bool
  deriving DecidableEq, Repr

/-- An output block of a group that has been judged (R299, R300): QB in each leg's block, the legs' block boundaries differ, and every block
of leg 1 that overlaps it was judged clean in time. -/
structure BlockIn where
  pg : Fin 16384
  qb0 : Bool
  qb1 : Bool
  skew : Bool
  covered : Bool
  deriving DecidableEq, Repr

/-- A mark message of 32 octets on a path (R289, R291): FN and cycle at which octet 0 was at the line framer, and the device's internal delays
of that path as the hardware computes them, in ns, without padding and without the Fathom's read delay (R305). -/
structure MarkRx where
  eid : BitVec 32
  octets : List Byte
  fn : BitVec 48
  cycle : BitVec 17
  dIn : BitVec 32
  dOut : BitVec 32
  deriving DecidableEq, Repr

/-- An Ethernet frame received on a lane: its octets from the destination address on without the FCS, whether the FCS was right, and the FN and
cycle at which it passed the MAC (R363). -/
structure EthRx where
  lane : Fin 40
  octets : List Byte
  fcsOk : Bool
  fn : BitVec 48
  cycle : BitVec 17
  deriving DecidableEq, Repr

/-- A frame received on CP2 (R420): its octets without the FCS, whether the FCS was right, its arrival, and host-memory octets a command of it makes
the device fetch (R235). -/
structure MgmtRx where
  octets : List Byte
  fcsOk : Bool
  fn : BitVec 48
  cycle : BitVec 17
  fetched : List Byte
  deriving DecidableEq, Repr

/-- A VCAT or LCAS control packet received on a member (R155): the frame within the MFI range that it and its place give, SQ, CTRL, GID, the MST of
members by SQ, RS-Ack, and whether its CRC was right. -/
structure VcatRx where
  group : Fin 4096
  eid : BitVec 32
  mfi : Fin 4096
  sq : Fin 64
  ctrl : BitVec 4
  gid : Bool
  mst : List (Nat × Bool)
  rsAck : Bool
  crcOk : Bool
  deriving DecidableEq, Repr

/-- What a GFP channel is given: the four octets at the octet position under test, and in a frame its payload area as received, its length from the
PLI. QB marks an octet from a word with QB. -/
structure GfpRx where
  chan : Fin 4096
  header : BitVec 32
  octets : List Byte
  qb : Bool
  deriving DecidableEq, Repr

/-- A 1PPS pulse (R363, R365): the REFIN, the time counter at it, and the time since the last good pulse by the SYS timebase, in ns. -/
structure PpsRx where
  refin : Fin 8
  fn : BitVec 48
  cycle : BitVec 17
  elapsed : Nat
  deriving DecidableEq, Repr

/-- A ToD message (Table 11.11) on TOD0_RX or TOD1_RX: its 16 octets, and when it was complete after the previous pulse, in µs. -/
structure TodRx where
  refin : Fin 2
  octets : List Byte
  after : Nat
  deriving DecidableEq, Repr

/-- Strap levels as sampled (R562). -/
structure Straps where
  boot : BitVec 3
  home : Bool
  compat : Bool
  testN : Bool
  deriving DecidableEq, Repr

/-- The board's flash at power-up: its boot configuration block, if sound, and the two image slots (R565). -/
structure Flash where
  block : Option BootBlock
  imageA : Image
  imageB : Image
  deriving DecidableEq, Repr

/-- What reading the journal shows at restore (R501): a damaged base image, the sequence of a damaged log record, key entries that fail their
tag. -/
structure Restore where
  badBase : Bool
  badLog : Option Nat
  badKeys : List (Nat × Bool)
  deriving DecidableEq, Repr

/-- The commands: host and line operations, clock and timer events, and the opcodes of the command packets (verified packets,
steps 6 to 10 of R401). -/
inductive Instr where
  /-- A host or master writes a register that has no row of its own; access codes, reserved bits, held values and privilege
  apply (R2). -/
  | registerWrite (w : BusWrite)
  /-- The frame tick opens a frame: FS is set, grain banks swap, pending flips apply and FN advances (R28). -/
  | frameTick (t : TickIn)
  /-- At cycle 97,000 the tick generator decides whether the maps flip at the next tick (R35). -/
  | flipCheck
  /-- A queued, immediate or scheduled bushel begins writing its map words into the shadow banks (R34). -/
  | loadBegin
  /-- The last map word of a bushel is written and the bushel becomes LOADED (R33). -/
  | loadDone
  /-- Copy-forward finishes copying every active word into the shadow bank and the bushel settles (R31). -/
  | copyForwardDone
  /-- The tick generator steps the frame phase and may load FN on first traceability, pair lock or an armed phase error (R41).
  -/
  | frameStep (cause : BitVec 4) (loadFn : Option (BitVec 48)) (phaseError : Nat) (short : Bool)
  /-- A write of 1 to STEP_ARM permits one step on a phase error and restarts its 80,000-frame lapse (R41). -/
  | stepArm (w : RegW)
  /-- A write to SLEW_EN enables phase correction by slewing or holds the frame phase (R41). -/
  | slewEn (w : RegW)
  /-- STEP_ARM clears after 80,000 frames without a step (R41). -/
  | stepArmLapse
  /-- A read of FN_LO returns FN[31:0] and latches FN[47:32] into FN_HI (R39). -/
  | fnLoRead (master : BitVec 3)
  /-- A read of LAST_FLIP_LO returns the low flip FN and latches its high half (R205). -/
  | lastFlipLoRead (master : BitVec 3)
  /-- A read of TICK_STATUS returns and clears SLIP_COUNT (R42). -/
  | tickStatusRead (master : BitVec 3)
  /-- Writes a lane configuration record, applying non-rate fields at once and entering CONFIG on a rate change (R57). -/
  | laneSet (c : Cmd)
  /-- Returns a lane configuration record (R86). -/
  | laneGet (c : Cmd)
  /-- Returns the lane status word (R86). -/
  | laneStatus (c : Cmd)
  /-- Sets the near or far loopback of a lane under the FORCE rule (R71). -/
  | laneLoop (c : Cmd)
  /-- Sets the lane pattern generator and checker (R69). -/
  | lanePrbs (c : Cmd)
  /-- Writes the electrical record of a mate lane (R74). -/
  | mateSet (c : Cmd)
  /-- Returns the status word of a mate lane (R86). -/
  | mateStatus (c : Cmd)
  /-- Writes a tributary port configuration record, taking a bank framer when needed (R78). -/
  | tribSet (c : Cmd)
  /-- Returns a tributary port configuration record (R86). -/
  | tribGet (c : Cmd)
  /-- Returns clock loss, framing, alignment, phase and build-out of a port (R86). -/
  | tribStatus (c : Cmd)
  /-- Sets the loopback of a tributary port under the FORCE rule (R85). -/
  | tribLoop (c : Cmd)
  /-- A lane leaves CONFIG when its CDR locks or 20 ms after the change, reporting the result (R58). -/
  | laneConfigDone (lane : Fin 40)
  /-- The signal-level detector reports no-signal or signal present against LOS_TH (R60). -/
  | signalLevelChange (lane : Fin 40) (millivolts : Nat)
  /-- The transition detector reports no-signal after 64 bit times without a transition, or clears (R61). -/
  | transitionDetectChange (lane : Fin 40) (noTrans : Bool)
  /-- The CDR of a lane gains or loses lock against the ppm window (R606). -/
  | cdrLockChange (lane : Fin 40) (inWindow : Bool)
  /-- A lane is declared active or inactive after 8 consecutive activity windows (R63). -/
  | laneActivity (lane : Fin 40) (windows : List Nat)
  /-- An Ethernet lane goes link down at once when a link condition fails (R67). -/
  | ethLinkDown (lane : Fin 40) (p : PcsCond)
  /-- An Ethernet lane goes link up after its conditions have held 10 ms (R67). -/
  | ethLinkUp (lane : Fin 40) (p : PcsCond)
  /-- A lane pattern checker gains or loses pattern lock (R70). -/
  | lanePrbsLock (lane : Fin 40) (lock : Bool) (errors : Nat)
  /-- A mate lane locks, loses lock or is re-identified, changing the mate link state (R76). -/
  | mateLaneChange (lane : Fin 4) (m : MateLane)
  /-- Clock loss is declared on a port after 2 µs without a rising edge; TXC moves to fall-back (R80). -/
  | tribClkLoss (port : Fin 64)
  /-- Clock loss clears after 1,024 good periods and TXC returns to RXC (R80). -/
  | tribClkRestore (port : Fin 64)
  /-- The transmit elastic store leaves its fill range and repeats or deletes a frame (R81). -/
  | tribTxSlip (port : Fin 64) (fill : Nat)
  /-- A frame aligner declares alignment after 64 frames within range and sets the build-out (R83). -/
  | tribAlignChange (port : Fin 64)
  /-- An aligned frame start moves more than 32 bits, the aligner re-centres and one frame is repeated or deleted (R83). -/
  | alignerSlip (port : Fin 64) (phase : BitVec 8)
  /-- A received STM-N frame is aligned, descrambled and its overhead and pointers processed (R91). -/
  | sdhFrameReceive (f : SdhRx)
  /-- No K value is accepted within 12 frames of a change, and APS inconsistency is declared (R95). -/
  | apsInconsistency (lane : Fin 40)
  /-- LOS is declared after 100 µs of raw no-signal, the framer drops to HUNT and consequent actions start (R113). -/
  | losDeclare (lane : Fin 40)
  /-- LOS clears after 250 µs of signal and the framer resumes its search (R113). -/
  | losClear (lane : Fin 40)
  /-- Each TU pointer is classified once per multiframe and its interpreter updated (R102). -/
  | tuMultiframeReceive (t : TuRx)
  /-- A BIP monitor window of W blocks ends and EXC or DEG is declared, cleared or kept (R111). -/
  | bipWindowEnd (path : Option (BitVec 32)) (lane : Fin 40) (deg : Bool)
  /-- An egress lane builds and sends one frame with its overhead, pointers and return indications (R94). -/
  | sdhFrameTransmit (t : SdhTx)
  /-- Writes the LANE_OH record of a lane (R117). -/
  | sdhOhSet (c : Cmd)
  /-- Returns the LANE_OH record of a lane (R119). -/
  | sdhOhGet (c : Cmd)
  /-- Returns the SDH lane status word (R119). -/
  | sdhStatus (c : Cmd)
  /-- Returns the captured section and line overhead bytes and J0 (R94). -/
  | sdhCapture (c : Cmd)
  /-- Writes the PATH_OH record of a path endpoint (R118). -/
  | pathOhSet (c : Cmd)
  /-- Returns the path status word and clears its justification counts (R119). -/
  | pathStatus (c : Cmd)
  /-- Captures path overhead for 8 ms and replies with it (R120). -/
  | pathCapture (c : Cmd)
  /-- Writes a trace-table entry used in J0, J1 or J2 (R101). -/
  | traceSet (c : Cmd)
  /-- Returns a trace-table entry (R119). -/
  | traceGet (c : Cmd)
  /-- Returns the W, SET and CLR values in force for a lane or path (R110). -/
  | sdhThreshGet (c : Cmd)
  /-- A received E1 frame is searched for or checked against FAS, NFAS and CRC-4 (R127). -/
  | e1FrameReceive (f : E1Rx)
  /-- No multiframe alignment is found within 8 ms and the background search or a new search starts (R130). -/
  | crc4SearchTimeout (eid : BitVec 32)
  /-- After 400 ms without multiframe alignment the framer enters fall-back (R130). -/
  | crc4Fallback (eid : BitVec 32)
  /-- The exclusion of a recently lost alignment position ends after 8 ms (R127). -/
  | e1ExclusionEnd (eid : BitVec 32)
  /-- A block of 1,000 submultiframes ends and loss of alignment is judged on errored ones (R128). -/
  | e1CrcBlockEnd (eid : BitVec 32)
  /-- An E1-EXC or E1-DEG window ends and the defect is judged (R136). -/
  | e1WindowEnd (eid : BitVec 32) (deg : Bool)
  /-- A received C37.94 frame is framed, its pairs checked and its channel count accepted (R140). -/
  | c37FrameReceive (f : C37Rx)
  /-- A GFP frame is delineated and classified, and client frames go to the PIE queue (R150). -/
  | gfpFrameReceive (f : GfpRx)
  /-- GFP-LFD is declared after 10 ms out of SYNC, or cleared after 10 ms in SYNC (R152). -/
  | gfpLfd (chan : Fin 4096)
  /-- GFP-CSF clears after 3 s without a client-signal-fail frame (R152). -/
  | gfpCsfTimeout (chan : Fin 4096)
  /-- A channel sends a client or idle frame (R153). -/
  | gfpFrameTransmit (chan : Fin 4096)
  /-- A VCAT or LCAS control packet is received and its fields applied (R155). -/
  | vcatControlPacket (p : VcatRx)
  /-- A removal completes after 1 s without RS-Ack (R160). -/
  | lcasRemoveTimeout (group : Fin 4096)
  /-- A member failure persists for HOLDOFF and MST is sent FAIL (R158). -/
  | lcasHoldoffExpiry (group : Fin 4096) (eid : BitVec 32)
  /-- A member has been clean for WTR_S and MST is sent OK (R158). -/
  | lcasWtrExpiry (group : Fin 4096) (eid : BitVec 32)
  /-- Writes the E1_CFG record of a framed E1 (R126). -/
  | e1Set (c : Cmd)
  /-- Returns an E1_CFG record (R162). -/
  | e1Get (c : Cmd)
  /-- Returns the E1 status word (R162). -/
  | e1Status (c : Cmd)
  /-- Binds or unbinds a bank framer to an asynchronous E1 (R121). -/
  | e1FramerBind (c : Cmd)
  /-- Returns the C37.94 status of a port (R162). -/
  | c37Status (c : Cmd)
  /-- Writes a GFP channel configuration record (R148). -/
  | gfpSet (c : Cmd)
  /-- Returns a GFP channel configuration record (R162). -/
  | gfpGet (c : Cmd)
  /-- Binds or unbinds a GFP channel to a carrier (R146). -/
  | gfpBind (c : Cmd)
  /-- Returns delineation state and GFP defects of a channel (R162). -/
  | gfpStatus (c : Cmd)
  /-- Writes a VCAT group configuration record (R154). -/
  | vcatSet (c : Cmd)
  /-- Returns a VCAT group configuration record (R162). -/
  | vcatGet (c : Cmd)
  /-- Adds a member to a VCAT group, through LCAS when enabled (R159). -/
  | vcatMemberAdd (c : Cmd)
  /-- Removes a member from a VCAT group and resequences the rest (R160). -/
  | vcatMemberRemove (c : Cmd)
  /-- Returns the status of a VCAT group and its members (R162). -/
  | vcatStatus (c : Cmd)
  /-- A test analyser gains or loses lock on its pattern (R198). -/
  | testAnalyserLock (inst : Fin 64) (lock : Bool) (errors : Nat)
  /-- Adds a connection record to a bushel (R189). -/
  | connAdd (c : Cmd)
  /-- Adds a change of a connection record to a bushel (R189). -/
  | connSet (c : Cmd)
  /-- Adds the deletion of a connection record to a bushel (R209). -/
  | connDel (c : Cmd)
  /-- Returns a connection record from the active maps or as it will stand (R221). -/
  | connGet (c : Cmd)
  /-- Returns the record or binding that drives a destination (R236). -/
  | connFind (c : Cmd)
  /-- Returns the through-latency bound of each direction of a record (R226). -/
  | connLatency (c : Cmd)
  /-- Adds a change of lane triple codes to a bushel (R172). -/
  | structSet (c : Cmd)
  /-- Returns a word of a lane structure record (R236). -/
  | structGet (c : Cmd)
  /-- Adds a change of a triple's TUG map to a bushel (R172). -/
  | tugSet (c : Cmd)
  /-- Returns a TUG map (R236). -/
  | tugGet (c : Cmd)
  /-- Returns words of map memory for diagnosis (R203). -/
  | mapRead (c : Cmd)
  /-- Opens a bushel and returns its ID (R206). -/
  | bushelOpen (c : Cmd)
  /-- Checks a bushel and accepts it for an immediate, queued or scheduled flip, or refuses it whole (R212). -/
  | bushelCommit (c : Cmd)
  /-- Discards an open, queued, pending or restored bushel (R216). -/
  | bushelCancel (c : Cmd)
  /-- Returns the state and flip FN of a bushel (R237). -/
  | bushelStatus (c : Cmd)
  /-- Fetches a change list from host memory, checks its digest and entries and adds them (R235). -/
  | bushelFetch (c : Cmd) (list : List Byte)
  /-- Releases a tenant's records in order until it is within quota, in one immediate bushel (R232). -/
  | shed (c : Cmd)
  /-- Returns a tenant's use of each resource (R229). -/
  | usageGet (c : Cmd)
  /-- Lists every bushel not discarded or settled (R237). -/
  | bushelList (c : Cmd)
  /-- An open bushel is abandoned after its idle time without change or commit (R211). -/
  | bushelAbandoned
  /-- Adds the definition of a path protection group to a bushel (R251). -/
  | pgAdd (c : Cmd)
  /-- Adds a change of a path protection group to a bushel (R243). -/
  | pgSet (c : Cmd)
  /-- Adds the deletion of a path protection group to a bushel (R254). -/
  | pgDel (c : Cmd)
  /-- Returns a PG_CFG record (R278). -/
  | pgGet (c : Cmd)
  /-- Gives a group an external command, evaluated at the next evaluation (R257). -/
  | pgCmd (c : Cmd)
  /-- Returns the protection status word of a group (R278). -/
  | pgStatus (c : Cmd)
  /-- Adds the definition or change of a line-protection pair to a bushel (R244). -/
  | lpSet (c : Cmd)
  /-- Adds the deletion of a line-protection pair to a bushel (R241). -/
  | lpDel (c : Cmd)
  /-- Returns an LP_CFG record (R278). -/
  | lpGet (c : Cmd)
  /-- Gives a pair an external command (R257). -/
  | lpCmd (c : Cmd)
  /-- Returns protection and APS status of a pair (R278). -/
  | lpStatus (c : Cmd)
  /-- Lists groups preferring leg 1 or with a request other than NR (R278). -/
  | pgScan (c : Cmd)
  /-- A criterion present for its whole hold-off raises its request (R258). -/
  | holdoffExpiry (group : Bool) (n : Nat) (crit : Fin 4)
  /-- The wait-to-restore of a pair or group runs out and NR selects leg 0 (R259). -/
  | wtrExpiry (group : Bool) (n : Nat)
  /-- The protection processor writes new APS bytes and hands accepted far requests to hardware (R267). -/
  | apsService (pair : Fin 20)
  /-- APS-FOP is declared or cleared after 400 consecutive frames (R269). -/
  | apsFop (pair : Fin 20)
  /-- Hardware reports that no accepted K change has been serviced for 10 ms (R275). -/
  | protFwStall
  /-- A judged quality block reaches the selector, which outputs one leg's block (R270). -/
  | mergedSelection (x : BlockIn)
  /-- A leg signature span completes and the aligner seeks, verifies or loses a lock (R288). -/
  | signatureSpan (x : SigRx)
  /-- A mark message is received and checked, used for alignment or symmetry measurement (R291). -/
  | markMessageReceive (m : MarkRx)
  /-- VERIFY lasts 2 s without confirmation or contradiction and the group locks unverified (R294). -/
  | verifyTimeout (pg : Fin 16384)
  /-- A group stays unaligned for 2 s with both legs free of SF (R298). -/
  | alignStuck (pg : Fin 16384)
  /-- Adds a change of a group's alignment record to a bushel (R310). -/
  | alignSet (c : Cmd)
  /-- Returns an ALIGN_CFG record (R311). -/
  | alignGet (c : Cmd)
  /-- Returns the alignment status word of a group (R311). -/
  | alignStatus (c : Cmd)
  /-- Returns a group to SEARCH at the next tick (R312). -/
  | alignRestart (c : Cmd)
  /-- Adds a change of a symmetric-path record to a bushel (R310). -/
  | symSet (c : Cmd)
  /-- Returns a SYM_CFG record (R311). -/
  | symGet (c : Cmd)
  /-- Returns the symmetry state, delays and padding of a record (R311). -/
  | symStatus (c : Cmd)
  /-- Makes a path a kind 0x1 mark source or stops it (R290). -/
  | markSet (c : Cmd)
  /-- Returns the last valid mark message received on a path (R311). -/
  | markCapture (c : Cmd)
  /-- Sets the DMAX of a VCAT group (R303). -/
  | vcatAlignSet (c : Cmd)
  /-- Returns the blocks of a Fathom allocation (R311). -/
  | fathomMap (c : Cmd)
  /-- A frame received on a link-up Ethernet lane is classified and delivered or discarded (R321). -/
  | ethernetFrameReceive (f : EthRx)
  /-- A queue plays the frame due at its playout FN, entering PLAY or playing an underrun (R327). -/
  | jitterBufferPlayout (q : BitVec 16)
  /-- A window of 1,024 expected packets ends and PW-EXC and PW-DEG are judged (R331). -/
  | pwWindowEnd (q : BitVec 16)
  /-- A queue sends a packet in the frame after its last frame (R317). -/
  | pwPacketSend (q : BitVec 16)
  /-- A lane transmitter starts the next frame in priority order (R325). -/
  | ethernetFrameTransmit (lane : Fin 40) (credit : List Nat)
  /-- Adds the definition of a queue to a bushel (R315). -/
  | queueAdd (c : Cmd)
  /-- Adds a change of a queue to a bushel (R315). -/
  | queueSet (c : Cmd)
  /-- Adds the deletion of a queue to a bushel (R315). -/
  | queueDel (c : Cmd)
  /-- Returns a queue record (R336). -/
  | queueGet (c : Cmd)
  /-- Returns queue state and counts, clearing those read (R336). -/
  | queueStatus (c : Cmd)
  /-- Sets the header template of a pseudowire queue (R335). -/
  | hdrSet (c : Cmd)
  /-- Returns a queue's header template (R336). -/
  | hdrGet (c : Cmd)
  /-- Writes the PSN_CFG record of a lane (R320). -/
  | psnSet (c : Cmd)
  /-- Returns a PSN_CFG record (R336). -/
  | psnGet (c : Cmd)
  /-- Writes a forwarding table entry (R320). -/
  | fwdSet (c : Cmd)
  /-- Returns a forwarding table entry (R336). -/
  | fwdGet (c : Cmd)
  /-- Returns reserved rate, free Tun cells and queues defined (R336). -/
  | pieStatus (c : Cmd)
  /-- A timing candidate becomes faulted or clears, changing its state (R342). -/
  | candidateFault (cand : Fin 113) (noEdge : Bool)
  /-- A 1 s frequency gate ends and the candidate offset is judged against FREQ_LIM (R343). -/
  | frequencyGate (cand : Fin 113) (offset : Int)
  /-- A candidate unfaulted for QUAL_TIME becomes QUALIFIED (R344). -/
  | qualificationExpiry (cand : Fin 113)
  /-- HIT_MS elapses with the fault present and the candidate is DISQUALIFIED (R344). -/
  | hitExpiry (cand : Fin 113)
  /-- At each control period boundary the selector evaluates, starts, commits or cancels a switch (R348). -/
  | selectorEvaluation (steer : Int) (temp : Int)
  /-- The SYS DPLL phase error stays within 100 ns long enough and it becomes LOCKED (R349). -/
  | dpllLock
  /-- Holdover lasts 10 ms and OWN_QL is transmitted (R347). -/
  | holdoverQlTimer
  /-- Every 10 s while locked the steering, temperature and age are recorded (R361). -/
  | modelRecord
  /-- Each hour the holdover model is fitted and journalled (R361). -/
  | modelFit
  /-- The oscillator age is journalled each hour (R360). -/
  | oscAgeJournal
  /-- A 1PPS pulse is timestamped and labelled and the time error measured (R363). -/
  | ppsPulse (p : PpsRx)
  /-- A ToD message is received and checked for the next pulse (R365). -/
  | todMessage (t : TodRx)
  /-- A PTP port sends Sync, Delay_Req or Announce at its fixed rate (R366). -/
  | ptpMessageSend (port : Fin 16) (kind : Fin 3) (cycle : BitVec 17)
  /-- Announce receipt times out on a PTP port (R366). -/
  | announceTimeout (port : Fin 16)
  /-- The PTP DPLL becomes LOCKED after 64 s within ±100 ns (R368). -/
  | ptpServoLock
  /-- No offset reaches the PTP DPLL for 2 s and it leaves LOCKED (R368). -/
  | ptpOffsetTimeout
  /-- Writes the SYS selector configuration, applied at the next boundary (R348). -/
  | timSysSet (c : Cmd)
  /-- Returns TIM_SYS_CFG (R373). -/
  | timSysGet (c : Cmd)
  /-- Writes a candidate configuration record (R341). -/
  | timInSet (c : Cmd)
  /-- Returns a candidate configuration record (R373). -/
  | timInGet (c : Cmd)
  /-- Returns the state, QL, fault and offset of a candidate (R373). -/
  | timInStatus (c : Cmd)
  /-- Returns timing quick-status, holdover frequency and model range (R373). -/
  | timStatus (c : Cmd)
  /-- Forces or releases SYS holdover at the next boundary (R350). -/
  | timHoldover (c : Cmd)
  /-- Loads holdover model coefficients and stops learning (R362). -/
  | timModelSet (c : Cmd)
  /-- Returns the holdover model (R373). -/
  | timModelGet (c : Cmd)
  /-- Clears the records and restarts learning (R362). -/
  | timModelLearn (c : Cmd)
  /-- Writes a clock output configuration (R370). -/
  | timOutSet (c : Cmd)
  /-- Returns a clock output configuration (R373). -/
  | timOutGet (c : Cmd)
  /-- Points the MON DPLL at a candidate (R373). -/
  | timMonSet (c : Cmd)
  /-- Gives the time of day for the next pulse of a TYPE 0x2 REFIN (R365). -/
  | todSet (c : Cmd)
  /-- Writes the PTP clock configuration (R373). -/
  | ptpSet (c : Cmd)
  /-- Writes a PTP port configuration (R373). -/
  | ptpPortSet (c : Cmd)
  /-- Returns PTP port, DPLL and parent status (R373). -/
  | ptpStatus (c : Cmd)
  /-- Sets the thermistor B constant and resistance (R360). -/
  | timThermSet (c : Cmd)
  /-- Returns device identity, firmware version and commissioning state (R411). -/
  | devInfo (c : Cmd)
  /-- Returns H of the stream and RES of the verifying slot (R399). -/
  | seqSync (c : Cmd)
  /-- Returns the data words as received (R411). -/
  | echo (c : Cmd)
  /-- Returns FN, FN_SRC and cycle when handled (R411). -/
  | fnGet (c : Cmd)
  /-- Enables or disables a command port, ends quiet and sets the lockout limits (R412). -/
  | cmdPortSet (c : Cmd)
  /-- Returns the counts and state of a command port (R411). -/
  | cmdPortStatus (c : Cmd)
  /-- Writes a tenant record (R386). -/
  | tenantSet (c : Cmd)
  /-- Returns a tenant record, key slots and reserves (R413). -/
  | tenantGet (c : Cmd)
  /-- Frees a tenant and clears its keys (R387). -/
  | tenantDel (c : Cmd)
  /-- Lists tenants not FREE (R413). -/
  | tenantList (c : Cmd)
  /-- Unwraps and loads a key into an empty slot (R392). -/
  | keyLoad (c : Cmd)
  /-- Empties a key slot after the reply (R393). -/
  | keyRetire (c : Cmd)
  /-- Returns the last 16 authentication failures and refusals (R413). -/
  | authLogGet (c : Cmd)
  /-- The quiet state of a port ends after QUIET_S seconds (R402). -/
  | portQuietEnd (port : Fin 4)
  /-- A command waiting on its barrier is handled once every earlier command of its stream has replied (R404). -/
  | barrierRelease (port : Fin 4) (fetched : List Byte)
  /-- A command whose reply follows a tick, boundary, capture, copy or write sends its reply and frees its deferred slot (R405).
  -/
  | deferredReply (port : Fin 4) (seq : BitVec 32)
  /-- FLR, PERST#, hot reset, link down or D3hot on a host port stops its rings and channels (R419). -/
  | hostPortReset (portB : Bool) (flr : Bool)
  /-- A frame received on CP2 is classified as a command packet, PTP or discard (R420). -/
  | mgmtFrameReceive (f : MgmtRx)
  /-- An SPI WRITE delivers a command packet to CP3, judged when CS_N rises (R423). -/
  | craftWrite (n : BitVec 16) (data fetched : List Byte)
  /-- An SPI STATUS returns the craft port status octet (R423). -/
  | craftStatus
  /-- An SPI READ returns the reply and releases it when fully clocked (R423). -/
  | craftRead (clocked : Nat)
  /-- An optical craft frame is received, checked and delivered to CP3 or discarded (R425). -/
  | opticalFrameReceive (chars : List Byte) (gap : Bool) (fetched : List Byte)
  /-- FLOOD or NOISE is declared on the optical receiver, which turns quiet (R427). -/
  | opticalLineFault (noise : Bool)
  /-- After 40 bit times of dark the optical receiver listens again (R427). -/
  | opticalQuietEnd
  /-- A reply is sent on the optical path two character times after the command's flag (R428). -/
  | opticalReplySend
  /-- A lock lasting LOCK_CEIL cycles is broken and the target released (R433). -/
  | matrixLockBroken (target : Fin 7)
  /-- The first write after reset sets and locks host privileges and decode mode (R435). -/
  | matrixCtrlWrite (w : RegW)
  /-- A write of 1 to VALID clears the matrix error capture and arms the next (R436). -/
  | matrixErrClear (w : RegW)
  /-- A read returns and clears the matrix error count (R436). -/
  | matrixErrCountRead (master : BitVec 3)
  /-- A doorbell write hands descriptors to a ring up to TAIL (R450). -/
  | doorbell (ring : Fin 64) (w : RegW)
  /-- The scheduled poll of a ring reads its descriptors (R439). -/
  | ringPoll (ring : Fin 64)
  /-- The device processes a device-owned descriptor and writes it back (R440). -/
  | ringDescriptor (ring : Fin 64) (d : DescRx) (replyFree : Nat) (fetched : List Byte)
  /-- Setting EN starts a ring at HEAD 0 (R448). -/
  | ringEnable (ring : Fin 64) (w : RegW)
  /-- Clearing EN stops a ring after the descriptor in progress (R448). -/
  | ringDisable (ring : Fin 64) (w : RegW)
  /-- A disabled ring completes its last descriptor and IDLE is set (R448). -/
  | ringIdle (ring : Fin 64)
  /-- A frame of a host queue is written whole into receive descriptors or dropped (R444). -/
  | hostReceiveFrame (ring : Fin 64) (ds : List DescRx)
  /-- A block of BLK frames of analyser grains is written to a capture ring (R446). -/
  | grainCaptureBlock (ring : Fin 64) (d : DescRx) (fn : BitVec 48) (grains : List Byte) (qb : Bool)
  /-- A block of BLK frames of grains is taken from a playback ring for a generator (R447). -/
  | grainPlaybackBlock (ring : Fin 64) (d : DescRx) (fn : BitVec 48)
  /-- A read returns and clears the drop count of a ring (R444). -/
  | ringDropsRead (ring : Fin 64) (master : BitVec 3)
  /-- START fetches and checks a program and runs it on a host channel (R452). -/
  | chStart (ch : Fin 8) (w : RegW) (program : Option (List Word))
  /-- ABORT stops a channel after the word in progress and ends it ABORTED (R455). -/
  | chAbort (ch : Fin 8) (w : RegW)
  /-- Sets one pending doorbell for a WAIT on a channel (R454). -/
  | chDoorbell (ch : Fin 8) (w : RegW)
  /-- A MOVE instruction copies words, plainly or reshuffled (R454). -/
  | pdmaMove (ch : Fin 8) (words : Nat) (source : List Word)
  /-- A LOOP instruction runs its body with address strides (R454). -/
  | pdmaLoop (ch : Fin 8)
  /-- A WAIT instruction suspends the channel until its condition (R454). -/
  | pdmaWait (ch : Fin 8)
  /-- The condition of a WAIT is met and the channel resumes (R454). -/
  | pdmaWaitEnd (ch : Fin 8)
  /-- A SIGNAL instruction writes, raises an event or ends the program (R454). -/
  | pdmaSignal (ch : Fin 8)
  /-- A staged event record is written into the device log (R466). -/
  | eventStagingDrain
  /-- FLUSH_US passes and an event ring descriptor is completed (R467). -/
  | eventRingFlush (ering : Fin 8)
  /-- A read returns and clears the lost count of an event ring (R467). -/
  | eringStatRead (ering : Fin 8) (master : BitVec 3)
  /-- A write to a source configuration moves or clears its pending state (R463). -/
  | evicSrcWrite (src : Fin 512) (w : RegW)
  /-- A claim read takes the highest claimable source and pushes it on the target stack (R464). -/
  | tgtClaim (t : Fin 4) (master : BitVec 3)
  /-- An end of interrupt pops the target stack (R464). -/
  | tgtEoi (t : Fin 4) (w : RegW)
  /-- A write raises a software interrupt source (R462). -/
  | evicSoft (w : RegW)
  /-- A target's moderation timer expires and a waiting notification is sent (R465). -/
  | moderationExpiry (t : Fin 4)
  /-- An accepted edge on an event pin raises its event (R468). -/
  | extEvent (pin : Fin 8) (level : Bool)
  /-- An accepted edge on FRZ_N requests a snapshot (R468). -/
  | frzNEdge (level : Bool)
  /-- A write of 1 requests a counter snapshot (R476). -/
  | snapReq (w : RegW)
  /-- The snapshot copy ends (R476). -/
  | snapshotDone
  /-- A counter read returns one sample and a low-half read latches the high half (R472). -/
  | counterHubRead (portB user : Bool) (offset : BitVec 16) (octets : Nat)
  /-- At each FN multiple of 8,000 checkpointed counters are journalled (R475). -/
  | counterCheckpoint
  /-- A trace record not done 2^24 cycles after S0 is closed (R479). -/
  | traceTimeout (index : BitVec 32)
  /-- Configures a counter (R469). -/
  | counterSet (c : Cmd)
  /-- Returns a counter's configuration and values (R481). -/
  | counterGet (c : Cmd)
  /-- Returns live or snapshot values of counters (R481). -/
  | counterRead (c : Cmd)
  /-- Clears counters (R481). -/
  | counterClear (c : Cmd)
  /-- Requests a snapshot and replies when its copy ends (R476). -/
  | snapshot (c : Cmd)
  /-- Writes the snapshot bank to host memory through program DMA (R481). -/
  | counterDump (c : Cmd)
  /-- Configures a control-traffic filter (R471). -/
  | filterSet (c : Cmd)
  /-- Returns a filter configuration (R481). -/
  | filterGet (c : Cmd)
  /-- Binds a BAR2 user slot to a tenant (R477). -/
  | userSlotSet (c : Cmd)
  /-- Enables word tracing on a fabric port with K and mode (R478). -/
  | wordTraceSet (c : Cmd)
  /-- Returns trace records (R481). -/
  | traceRead (c : Cmd)
  /-- Frees every trace record (R480). -/
  | traceClear (c : Cmd)
  /-- Returns records from the device log (R482). -/
  | eventRead (c : Cmd)
  /-- Returns log indices and staging losses (R482). -/
  | eventLogStatus (c : Cmd)
  /-- Reads EVIC registers by command (R482). -/
  | evicRegRead (c : Cmd)
  /-- Writes an EVIC register by command (R482). -/
  | evicRegWrite (c : Cmd)
  /-- A bad active map word is rebuilt and written into both halves (R491). -/
  | mapRepair (addr : BitVec 32) (bothBad : Bool)
  /-- Every 1 ms in Gill the refresh controller reads temperature and picks its band (R493). -/
  | refreshBandCheck (temp : Option Int)
  /-- The daily journal read-verify pass runs and rewrites correctable words (R490). -/
  | journalVerify (found : List EccEvent)
  /-- Compaction starts when the active log passes 75 % of its half (R498). -/
  | journalCompactionStart
  /-- Compaction writes the other superblock and that half becomes active (R498). -/
  | journalCompacted
  /-- PFW_N low for 2 µs starts the power-fail checkpoint of counters, events and a power-fail record (R502). -/
  | pfwCheckpoint
  /-- PFW_N high for 1 ms lets the device take commands again (R503). -/
  | pfwReturn
  /-- A write of 1 to VALID clears the ECC capture and arms the next (R488). -/
  | eccErrClear (w : RegW)
  /-- A read returns and clears the ECC counts (R488). -/
  | memEccStatRead (master : BitVec 3)
  /-- Returns the error counts and scrub pass of a store (R505). -/
  | memStatus (c : Cmd)
  /-- Returns the last 16 ECC captures (R488). -/
  | memErrLog (c : Cmd)
  /-- Returns journal state, sequences and counts (R505). -/
  | journalStatus (c : Cmd)
  /-- Starts a compaction and replies after the superblock is written (R498). -/
  | journalCompact (c : Cmd)
  /-- Returns journal words, with zeros in the key region (R505). -/
  | journalRead (c : Cmd)
  /-- Makes a counter checkpoint and replies once journalled (R505). -/
  | ckptNow (c : Cmd)
  /-- Arranges an ECC error on the next write of a word (R505). -/
  | memInject (c : Cmd)
  /-- After T_FREE of high ACT_CLAIM a unit drives the line low to claim the token (R510). -/
  | tokenClaim
  /-- 10 µs after driving, the claimant reads the line back and becomes active or raises a claim fault (R510). -/
  | claimReadback (high : Bool)
  /-- A unit drives ACT_OUT low and releases ACT_CLAIM, in hardware on a fatal fault (R511). -/
  | tokenRelease
  /-- A partner status block arrives and pair states, acknowledgements and handover codes are updated (R514). -/
  | statusBlockReceive (words : List Word)
  /-- A mirror message arrives, is journalled and applied by the standby (R515). -/
  | mirrorMessageReceive (words : List Word) (image : Option MateImage)
  /-- A mirror acknowledgement is missing for 10 ms and the standby is marked stale (R519). -/
  | mirrorTimeout
  /-- The standby enters or leaves step (R516). -/
  | pairStep (err : Int) (frames : Nat)
  /-- The home unit's hand-back wait runs out and it proposes a handover (R523). -/
  | handbackWtrExpiry
  /-- At the ticks around FN H the token moves between the units (R522). -/
  | handoverTick
  /-- The mate link does not come up within BOOT_WAIT and the home unit claims (R513). -/
  | bootWaitExpiry
  /-- Writes the pairing configuration (R527). -/
  | pairSet (c : Cmd)
  /-- Returns the pairing configuration (R527). -/
  | pairGet (c : Cmd)
  /-- Returns pair state, phase and mirror progress (R527). -/
  | pairStatus (c : Cmd)
  /-- Proposes a planned switchover and replies after its tick (R522). -/
  | pairSwitch (c : Cmd)
  /-- Holds hand-back or locks the unit as standby (R523). -/
  | pairHold (c : Cmd)
  /-- Makes the standby discard its mirror state and resynchronise (R520). -/
  | pairResync (c : Cmd)
  /-- Takes or releases the token regardless of ACT_CLAIM (R526). -/
  | pairForce (c : Cmd)
  /-- Moves the device to Run, Firkin or Gill (R531). -/
  | pwrState (c : Cmd)
  /-- The entry window ends at the point of no return and the domains power down (R544). -/
  | gillEntryComplete
  /-- A Gill entry lasting 20 ms is abandoned (R545). -/
  | gillEntryTimeout
  /-- An armed wake source qualifies and the wake sequence starts or an entry is abandoned (R547). -/
  | wakeSource (src : BitVec 4) (obj : BitVec 8) (active : Bool)
  /-- A step of the wake sequence becomes ready and the next step begins (R550). -/
  | wakeStepReady (time ticks : Nat)
  /-- A wake step fails or times out and the raised domains power down (R551). -/
  | wakeStepTimeout (code : BitVec 4) (time : Nat)
  /-- After RETRY_MS the wake sequence is retried (R551). -/
  | wakeRetry
  /-- The Gill timebase source stops and counting moves to the next source (R555). -/
  | gillTimebaseSwitch (ticks : Nat)
  /-- Each 1 s gate calibrates the timebase sources against OSCIN (R555). -/
  | timebaseCalibration (xtal : Option Nat) (rc : Nat)
  /-- A core voltage request completes with VDone and the monitor in range (R537). -/
  | avsRequestDone (mv : BitVec 10)
  /-- A core voltage request has not completed 1 ms after its write (R537). -/
  | avsTimeout
  /-- The adaptive controller makes at most one 5 mV step per 1 ms (R538). -/
  | avsAdjust (up : Bool)
  /-- The oscillator load switch latches off on a failed start or current limit (R540). -/
  | voscLatchOff
  /-- After RETRY_MS a latched oscillator switch is restarted (R541). -/
  | voscRetry
  /-- OSCIN stops for 1 µs and clocks move to the internal RC (R542). -/
  | oscinLoss
  /-- 10 ms after OSCIN returns the clocks move back to it (R542). -/
  | oscinReturn (inFrame : Bool)
  /-- Writes the power configuration (R560). -/
  | pwrSet (c : Cmd)
  /-- Returns the power configuration (R560). -/
  | pwrGet (c : Cmd)
  /-- Writes the wake source configuration (R547). -/
  | wakeSet (c : Cmd)
  /-- Returns the wake source configuration (R560). -/
  | wakeGet (c : Cmd)
  /-- Returns power, wake, current and temperature status (R560). -/
  | pwrStatus (c : Cmd)
  /-- Returns the log of the last 16 wakes (R558). -/
  | wakeLog (c : Cmd)
  /-- Returns the last sleep-gap record (R557). -/
  | sleepGapGet (c : Cmd)
  /-- Clears the oscillator switch latch and restarts it (R541). -/
  | voscCtrl (c : Cmd)
  /-- Reports what the essential set keeps on and what it leaves out (R532). -/
  | firkinCheck (c : Cmd)
  /-- Sends the burst code once on a lane, CP2 or mate lane (R548). -/
  | wakeSend (c : Cmd)
  /-- Supplies in range for 2 ms release power-on reset, sample straps and start boot (R590). -/
  | powerOnReset (straps : Straps) (flash : Flash) (tampers : BitVec 4) (claimHigh : Bool)
  /-- VDD_CORE below 0.68 V for 10 µs resets the device (R562). -/
  | brownOutReset
  /-- A processor misses its kick for a period and the device resets (R571). -/
  | watchdogExpiry
  /-- Boot ends, configuration is restored and pairing proceeds (R570). -/
  | bootComplete (ms : BitVec 16) (r : Restore)
  /-- Boot stops on a failure and holds its code (R570). -/
  | bootFail (hardware : Bool)
  /-- Setting GO makes the ROM fetch and check a host-boot image (R569). -/
  | bootGo (w : RegW) (octets : List Byte)
  /-- GO is not set within 30 s and host boot stops (R569). -/
  | bootGoTimeout
  /-- After 24 h without a watchdog reset SVN_MIN is raised to the running SVN (R567). -/
  | svnAdvance
  /-- A recovery STATUS operation returns the recovery status block (R573). -/
  | recStatus (arg : Half) (crcOk : Bool)
  /-- Arms one recovery operation for 10 ms (R573). -/
  | arm (arg : Half) (crcOk : Bool)
  /-- Stops or releases both processors, DMA and command ports (R575). -/
  | freeze (arg : Half) (crcOk : Bool) (since : Nat)
  /-- Returns records of the device log through the recovery port (R573). -/
  | journalTail (arg : Half) (crcOk : Bool)
  /-- Releases the token and holds the unit from claiming, or ends the hold (R576). -/
  | forceStandby (arg : Half) (crcOk : Bool) (since : Nat)
  /-- Resets the device warm or full when CS_N rises after the response (R573). -/
  | hardReset (arg : Half) (crcOk : Bool) (since : Nat) (straps : Straps)
  /-- Returns words of the Gill store through the recovery port (R573). -/
  | gillRead (arg : Half) (crcOk : Bool)
  /-- Returns words of the recovery mailbox (R573). -/
  | mboxRead (arg : Half) (crcOk : Bool)
  /-- Writes words of the recovery mailbox (R573). -/
  | mboxWrite (arg : Half) (data : List Word) (crcOk : Bool) (since : Nat)
  /-- A tamper input becomes active or inactive, is logged and takes its actions (R577). -/
  | tamper (input : Fin 4) (active : Bool)
  /-- Replies and resets the device 10 ms later (R584). -/
  | sysReset (c : Cmd)
  /-- Returns the last 16 reset records (R584). -/
  | resetLog (c : Cmd)
  /-- Sets the watchdog period (R571). -/
  | wdtSet (c : Cmd)
  /-- Writes a tamper input configuration (R577). -/
  | tamperSet (c : Cmd)
  /-- Returns a tamper input configuration and state (R584). -/
  | tamperGet (c : Cmd)
  /-- Ends the locks set by tamper inputs (R578). -/
  | tamperClear (c : Cmd)
  /-- Returns tamper-log entries and the monotonic counter (R581). -/
  | tamperLog (c : Cmd)
  /-- Writes a field-return capture and optionally erases every key (R583). -/
  | returnCapture (c : Cmd)
  /-- Returns the last capture sequence, tamper counter and FN (R584). -/
  | captureStatus (c : Cmd)
  /-- Sets the recovery port lock level (R574). -/
  | recSet (c : Cmd)
  /-- Fetches, checks and writes a firmware image into the idle slot (R585). -/
  | fwStage (c : Cmd) (image : List Byte)
  /-- A read of CMD_SEC returns and clears AUTH_FAILS (R2). -/
  | cmdSecRead (master : BitVec 3)
  /-- A host port returns to D0 and link up after a loss, raising HOST_LINK again and starting the 30 s host-boot wait (R419).
  -/
  | hostPortLinkUp (portB : Bool) (msix : Bool)
  /-- The management Ethernet port CP2 goes link up after 10 ms of its conditions or link down at once, updating CP2_LINK (R65).
  -/
  | cp2LinkChange (up : Bool)
  /-- A framed E1 or C37.94 port transmits one frame with its sourced TS0, Si, E, A, Sa or yellow bits and its channel count
  (R137). -/
  | e1FrameTransmit (eid : BitVec 32) (grains : List Byte)
  /-- A processor kicks the watchdog, arming it on the first kick and restarting its period (R571). -/
  | watchdogKick (proc : Bool)
  /-- A run of 60 s after BOOT_COMPLETE without a watchdog reset clears the short-run count of the boot slot (R568). -/
  | shortRunCountClear
  /-- The shared ACT_CLAIM line changes level as sampled every 1 µs, restarting or starting a unit's T_FREE wait, abandoning a
  claim, or starting the 1 s claim-fault timing of a line held low (R510). -/
  | actClaimChange (high : Bool)
  /-- An AVSBus transaction ends without acknowledgement or with ACK 0b01, and is retried after 10 µs or counted towards an AVS
  fault (R537). -/
  | avsNack (again : Bool)
  /-- The on-die monitor reads VDD_CORE outside 0.68 to 0.84 V for 10 µs and an AVS fault is declared (R539). -/
  | vcoreOutOfRange (mv : BitVec 10)
  /-- VDD_NV leaves its range while VDD_AON stays, and the journal engine stops before the next word (R592). -/
  | vddNvLoss
  deriving DecidableEq, Repr

end Sys2Proof
end

