-- ==== Sys2Proof/Config.lean ====
section
/-!
DEFINITION. What the spec leaves open. The functions here have no body: nothing proves a value of them.
-/
namespace Sys2Proof

/-- The n-th value the spec leaves undefined or to the implementation (log entry 1). -/
opaque Config.freeValue : Nat → BitVec 64

/-- The words a base image takes for the configuration that stands at a record sequence: the storage format is the firmware's own
(R497; log entry 7). -/
opaque Config.baseWords : Nat → Nat

/-- CODE of an event whose causes the spec names without numbers, by source and the cause's place in the spec's list (log entry 19). -/
opaque Config.causeCode : Nat → Nat → BitVec 8

/-- The quality level sent for a selected candidate that has none, by QL_OPT: R347 gives no code for it (log entry 40). -/
opaque Config.noneQl : Bool → BitVec 4

/-- The logarithmic ageing term of R359 in 2^-44 ppb, from A, TAU, a0 and the time in ms: its number form is not stated (log entry 42). -/
opaque Config.ageLog : Int → Nat → Nat → Nat → Int

/-- The PTP servo's filter, in ns: bandwidth code, last output, new offset (log entry 43). -/
opaque Config.servo : Nat → Int → Int → Int

/-- The keystream of keys on the mate link, by tenant and slot: R395 has them wrapped and does not say how (log entry 46). -/
opaque Config.mateStream : Nat → BitVec 256

/-- The segment of Fathom memory a block lies in: R535 cuts every bank's rows in 16 and says no block number (log entry 136). -/
opaque Config.fathomSegment : Nat → Fin 16

/-- The device's PCIe Device Serial Number, its die identity (R415; log entry 54). -/
opaque Config.serialNumber : BitVec 64

/-- The profile of the partner unit, coded as PROFILE: no status block says it (R521; log entry 54). -/
opaque Config.mateProfile : BitVec 2

end Sys2Proof
end

