-- ==== Sys2Proof/Machine/Eid.lean ====
section
/-!
DEFINITION. Endpoint identifiers (R177 to R181): their fields, their form and the positions they name.
-/
namespace Sys2Proof.Machine

/-- An endpoint identifier: port [31:24], level [23:22], index [21:0]. -/
abbrev Eid := BitVec 32

def eidPort (e : Eid) : Nat := fld e 31 24
def eidLevel (e : Eid) : Nat := fld e 23 22
def eidIndex (e : Eid) : Nat := fld e 21 0

/-- An EID from its parts. -/
def mkEid (port level index : Nat) : Eid := mkBits 32 [(31, 24, port), (23, 22, level), (21, 0, index)]

/-- What the port field names (Table 6.3). -/
inductive EidKind where
  | line
  | mate
  | trib
  | queue
  | test
  | null
  | held
  deriving DecidableEq, Repr

def eidKind (e : Eid) : EidKind :=
  let p := eidPort e
  if p ≤ 0x27 then .line else if p ≤ 0x2B then .mate else if 0x40 ≤ p ∧ p ≤ 0x7F then .trib
  else if 0x80 ≤ p ∧ p ≤ 0x8F then .queue else if p = 0xF0 then .test else if p = 0xFF then .null else .held

def eidNull (e : Eid) : Bool := decide (eidKind e = .null)

/-- HO index fields (Table 6.4). -/
def hoType (e : Eid) : Nat := fld e 11 8
def hoUnit (e : Eid) : Nat := fld e 7 0

/-- The units an HO TYPE takes (R169). -/
def typeUnits (t : Nat) : Nat :=
  if t = 0 then 3 else if t = 1 then 1 else if t = 2 then 12 else if t = 3 then 48 else if t = 4 then 192 else 0

/-- The form of an HO index (R178). -/
def hoForm (e : Eid) : Bool :=
  let t := hoType e
  let u := hoUnit e
  decide (fld e 21 12 = 0) && decide (t ≤ 4) && decide (u ≤ 191) &&
    (if t = 1 then true else if t = 4 then decide (u = 0) else decide (u % typeUnits t = 0))

/-- LO index fields (Table 6.5). -/
def loTut (e : Eid) : Nat := fld e 16 16
def loK (e : Eid) : Nat := fld e 15 14
def loL (e : Eid) : Nat := fld e 13 11
def loM (e : Eid) : Nat := fld e 10 8
def loUnit (e : Eid) : Nat := fld e 7 0

/-- The form of the K, L, M and U fields of an LO index with a given TUT (R179). -/
def loFieldsForm (e : Eid) (tut : Nat) : Bool :=
  decide (1 ≤ loL e) && decide (1 ≤ loM e) && decide (loM e ≤ (if tut = 0 then 3 else 4)) && decide (loUnit e ≤ 191) &&
    (decide (loK e = 0) || decide (loUnit e % 3 = 0))

/-- Grain index fields (Table 6.6). -/
def gTs (e : Eid) : Nat := fld e 21 17
def gMap (e : Eid) : Nat := fld e 16 16
def gTriple (e : Eid) : Nat := fld e 17 12
def gGrain (e : Eid) : Nat := fld e 10 0
def gPortK (e : Eid) : Nat := fld e 4 0
def gQueueK (e : Eid) : Nat := fld e 21 17

/-- Test index fields (Table 6.7). -/
def testPat (e : Eid) : Nat := fld e 21 20
def testOct (e : Eid) : Nat := fld e 19 12
def testShape (e : Eid) : Nat := fld e 11 8
def testInst (e : Eid) : Nat := fld e 5 0

/-- The Q-ID of a queue EID (R179, R180). -/
def eidQid (e : Eid) : Nat := 4096 * (eidPort e - 0x80) + fld e 11 0

/-- The tributary port number of a tributary EID. -/
def eidTrib (e : Eid) : Nat := eidPort e - 0x40

/-- The LO EID of the VC-12 that carries a line grain; TUT is 0 (Table 6.6). -/
def grainVc (e : Eid) : Eid := mkEid (eidPort e) 1 (fld e 15 0)

/-- The form of an EID under R177 to R181. -/
def eidForm (e : Eid) : Bool :=
  match eidKind e with
  | .held => false
  | .null => decide (eidIndex e = 0)
  | .line =>
    if eidLevel e = 0 then hoForm e
    else if eidLevel e = 1 then decide (fld e 21 17 = 0) && loFieldsForm e (loTut e)
    else if eidLevel e = 2 then loFieldsForm e 0
    else false
  | .mate =>
    if eidLevel e = 0 then hoForm e
    else if eidLevel e = 1 then decide (fld e 21 17 = 0) && loFieldsForm e (loTut e)
    else if eidLevel e = 2 then decide (fld e 21 18 = 0) && decide (fld e 11 11 = 0)
    else false
  | .trib =>
    if eidLevel e = 1 then decide (eidIndex e = 0)
    else if eidLevel e = 2 then decide (fld e 21 5 = 0)
    else false
  | .queue =>
    if eidLevel e = 1 then decide (fld e 21 12 = 0)
    else if eidLevel e = 2 then decide (fld e 16 12 = 0)
    else false
  | .test =>
    decide (eidLevel e ≤ 2) && decide (fld e 7 6 = 0) && (decide (testPat e = 3) || decide (testOct e = 0)) &&
      (if eidLevel e = 0 then decide (testShape e ≤ 4) else if eidLevel e = 1 then decide (testShape e ≤ 1)
       else decide (testShape e = 0))

/-- The connection record's fields. -/
def Conn.a (c : Conn) : Eid := BitVec.ofNat 32 (fld c.w0 63 32)
def Conn.z (c : Conn) : Eid := BitVec.ofNat 32 (fld c.w0 31 0)
def Conn.width (c : Conn) : Nat := fld c.w1 63 58
def Conn.owner (c : Conn) : Nat := fld c.w1 57 46
def Conn.pg (c : Conn) : Nat := fld c.w1 45 32
def Conn.pgEn (c : Conn) : Bool := flag c.w1 31
def Conn.bidir (c : Conn) : Bool := flag c.w1 30
def Conn.sym (c : Conn) : Bool := flag c.w1 29
def Conn.short (c : Conn) : Bool := flag c.w1 28
def Conn.essential (c : Conn) : Bool := flag c.w1 27
def Conn.shedPrio (c : Conn) : Nat := fld c.w1 23 16
def Conn.latMax (c : Conn) : Nat := fld c.w1 15 0
def Conn.isFree (c : Conn) : Bool := eidNull c.a && eidNull c.z

/-- The level of a record: that of its end that is not null (R183). -/
def Conn.level (c : Conn) : Nat := if eidNull c.a then eidLevel c.z else eidLevel c.a

/-- The level field of an EID, 0 for a null EID. -/
def eidLevelN (e : Eid) : Nat := if eidNull e then 0 else eidLevel e

/-- A number for each position an EID names at its level, over a span of `w` grains: unit, TU, grain or instance (R187).
Positions of different kinds never share a number. -/
def eidPositions (e : Eid) (w : Nat) : List Nat :=
  let base := eidPort e * 2 ^ 32
  match eidKind e with
  | .null => []
  | .held => []
  | .test => [base + testInst e]
  | .trib => if eidLevel e = 1 then [base + 2 ^ 24] else (List.range w).map fun i => base + gPortK e + i
  | .queue =>
    if eidLevel e = 1 then [base + 2 ^ 24 + fld e 11 0]
    else (List.range w).map fun i => base + fld e 11 0 * 32 + gQueueK e + i
  | .mate =>
    if eidLevel e = 0 then (List.range (typeUnits (hoType e))).map fun i => base + hoUnit e + i
    else if eidLevel e = 1 then [base + 2 ^ 24 + fld e 16 0]
    else (List.range w).map fun i => base + 2 ^ 25 + gTriple e * 2048 + gGrain e + i
  | .line =>
    if eidLevel e = 0 then (List.range (typeUnits (hoType e))).map fun i => base + hoUnit e + i
    else if eidLevel e = 1 then [base + 2 ^ 24 + fld e 16 0]
    else (List.range w).map fun i => base + 2 ^ 26 + fld e 15 0 * 32 + gTs e + i

end Sys2Proof.Machine
end

