-- ==== Sys2Proof/Machine/Hmac.lean ====
section
/-!
DEFINITION. HMAC-SHA-256, which R389 takes from FIPS 180-4 and RFC 2104: the tag of a command and of a reply. PRESUMED: the two standards'
own constants and padding (log entry 3); the spec names them and does not print them.
-/
namespace Sys2Proof.Machine

/-- The round constants of SHA-256 (FIPS 180-4, section 4.2.2). -/
def shaK : List Half :=
  [0x428a2f98, 0x71374491, 0xb5c0fbcf, 0xe9b5dba5, 0x3956c25b, 0x59f111f1, 0x923f82a4, 0xab1c5ed5,
   0xd807aa98, 0x12835b01, 0x243185be, 0x550c7dc3, 0x72be5d74, 0x80deb1fe, 0x9bdc06a7, 0xc19bf174] ++
  [0xe49b69c1, 0xefbe4786, 0x0fc19dc6, 0x240ca1cc, 0x2de92c6f, 0x4a7484aa, 0x5cb0a9dc, 0x76f988da,
   0x983e5152, 0xa831c66d, 0xb00327c8, 0xbf597fc7, 0xc6e00bf3, 0xd5a79147, 0x06ca6351, 0x14292967] ++
  [0x27b70a85, 0x2e1b2138, 0x4d2c6dfc, 0x53380d13, 0x650a7354, 0x766a0abb, 0x81c2c92e, 0x92722c85,
   0xa2bfe8a1, 0xa81a664b, 0xc24b8b70, 0xc76c51a3, 0xd192e819, 0xd6990624, 0xf40e3585, 0x106aa070] ++
  [0x19a4c116, 0x1e376c08, 0x2748774c, 0x34b0bcb5, 0x391c0cb3, 0x4ed8aa4a, 0x5b9cca4f, 0x682e6ff3,
   0x748f82ee, 0x78a5636f, 0x84c87814, 0x8cc70208, 0x90befffa, 0xa4506ceb, 0xbef9a3f7, 0xc67178f2]

/-- The eight chaining words of SHA-256. -/
structure ShaState where
  a : Half
  b : Half
  c : Half
  d : Half
  e : Half
  f : Half
  g : Half
  h : Half
  deriving DecidableEq, Repr

/-- The initial chaining words (FIPS 180-4, section 5.3.3). -/
def shaInit : ShaState :=
  ⟨0x6a09e667, 0xbb67ae85, 0x3c6ef372, 0xa54ff53a, 0x510e527f, 0x9b05688c, 0x1f83d9ab, 0x5be0cd19⟩

/-- One round. -/
def shaRound (v : ShaState) (kw : Half) : ShaState :=
  let s1 := v.e.rotateRight 6 ^^^ v.e.rotateRight 11 ^^^ v.e.rotateRight 25
  let ch := (v.e &&& v.f) ^^^ (~~~v.e &&& v.g)
  let t1 := v.h + s1 + ch + kw
  let s0 := v.a.rotateRight 2 ^^^ v.a.rotateRight 13 ^^^ v.a.rotateRight 22
  let mj := (v.a &&& v.b) ^^^ (v.a &&& v.c) ^^^ (v.b &&& v.c)
  ⟨t1 + (s0 + mj), v.a, v.b, v.c, v.d + t1, v.e, v.f, v.g⟩

/-- The message schedule: `n` further words after a window of 16, newest last. -/
def shaExpand : Nat → List Half → List Half
  | 0, _ => []
  | n + 1, w =>
    let w1 := nth 0 w 1
    let w14 := nth 0 w 14
    let s0 := w1.rotateRight 7 ^^^ w1.rotateRight 18 ^^^ (w1 >>> 3)
    let s1 := w14.rotateRight 17 ^^^ w14.rotateRight 19 ^^^ (w14 >>> 10)
    let x := nth 0 w 0 + s0 + nth 0 w 9 + s1
    x :: shaExpand n (w.drop 1 ++ [x])

/-- The n 32-bit words at the head of a list of octets. -/
def takeHalves : Nat → List Byte → List Half
  | 0, _ => []
  | n + 1, l => BitVec.ofNat 32 (natOfOctets (l.take 4)) :: takeHalves n (l.drop 4)

/-- The compression of one 64-octet block. -/
def shaBlock (v : ShaState) (blk : List Byte) : ShaState :=
  let w0 := takeHalves 16 blk
  let w := w0 ++ shaExpand 48 w0
  let r := (w.zip shaK).foldl (fun v p => shaRound v (p.1 + p.2)) v
  ⟨v.a + r.a, v.b + r.b, v.c + r.c, v.d + r.d, v.e + r.e, v.f + r.f, v.g + r.g, v.h + r.h⟩

/-- The blocks of a padded message, `n` of them. -/
def shaBlocks : Nat → ShaState → List Byte → ShaState
  | 0, v, _ => v
  | n + 1, v, l => shaBlocks n (shaBlock v (l.take 64)) (l.drop 64)

/-- The padding: a 1 bit, zeros, and the length in bits as 64 bits. -/
def shaPad (l : List Byte) : List Byte :=
  let z := (119 - l.length % 64) % 64
  l ++ (0x80 :: List.replicate z 0) ++ octetsOf 8 (8 * l.length)

/-- SHA-256 of octets: 32 octets. -/
def sha256 (l : List Byte) : List Byte :=
  let p := shaPad l
  let v := shaBlocks (p.length / 64) shaInit p
  [v.a, v.b, v.c, v.d, v.e, v.f, v.g, v.h].flatMap fun x => octetsOf 4 x.toNat

/-- A key as 32 octets, the first in [255:248]. -/
def keyOctets (k : Key) : List Byte := octetsOf 32 k.toNat

/-- HMAC-SHA-256 with a 32-octet key (RFC 2104). -/
def hmac (k : Key) (msg : List Byte) : List Byte :=
  let k0 := keyOctets k ++ List.replicate 32 0
  let inner := sha256 (k0.map (· ^^^ 0x36) ++ msg)
  sha256 (k0.map (· ^^^ 0x5c) ++ inner)

/-- A tag: the first 16 octets of the HMAC (R389). -/
def tagOf (k : Key) (msg : List Byte) : BitVec 128 := BitVec.ofNat 128 (natOfOctets ((hmac k msg).take 16))

end Sys2Proof.Machine
end

