-- ==== Sys2Proof/Machine/State/Host.lean ====
section
/-!
DEFINITION. The host ports, the management Ethernet, the craft port, the control matrix and the two DMA engines
(13_host_ports_dma.md).
-/
namespace Sys2Proof.Machine

/-- One PCIe host port (R415 to R419). -/
structure HostPort where
  linkUp : Bool
  msixEn : Bool
  /-- The MSI-X table: 32 entries of address, data and mask. -/
  vecAddr : Tab Word
  vecData : Tab Half
  vecMasked : BitVec 32
  pba : BitVec 32
  deriving DecidableEq, Repr

def HostPort.reset : HostPort := ⟨false, false, [], [], BitVec.allOnes 32, 0⟩

/-- State of the optical receiver and transmitter, coded as OPT_STATE. -/
inductive OptState where
  | idle
  | receiving
  | transmitting
  | quietFlood
  | quietNoise
  deriving DecidableEq, Repr

/-- CP2 and CP3. -/
structure CraftState where
  mgmtMac : BitVec 48
  mgmtVid : BitVec 12
  cp2Link : Bool
  craftCfg : Half
  /-- Path of the packet CP3 holds, true optical (R422). -/
  held : Option Bool
  /-- A reply ready on the SPI path, and one to be sent on the optical path (octets). -/
  spiReply : Option (List Byte)
  optReply : Option (List Byte)
  spiDiscard : Bool
  optState : OptState
  /-- Counts of discards and of episodes. -/
  cp2Vlan : Nat
  cp2Other : Nat
  cp2Mac : Nat
  spiDiscards : Nat
  optDiscards : Nat
  floods : Nat
  noises : Nat
  /-- Frame of the last CRAFT_LINE plus 1. -/
  lineEvent : Nat
  deriving DecidableEq, Repr

def CraftState.reset : CraftState :=
  ⟨0, 0xFFF, false, 0x0000_0003, none, none, none, false, .idle, 0, 0, 0, 0, 0, 0, 0, 0⟩

/-- A lock on a matrix target (R432). -/
structure MatrixLock where
  target : Nat
  master : Nat
  deriving DecidableEq, Repr

/-- A lock the ceiling broke, until its holder sends the lock-end; whether an access of the sequence has been told (R433). -/
structure BrokenLock where
  target : Nat
  master : Nat
  told : Bool
  deriving DecidableEq, Repr

/-- The control matrix registers (R434 to R436). -/
structure MatrixState where
  ctrl : Half
  ctrlLocked : Bool
  lockCeil : BitVec 16
  locks : List MatrixLock
  broken : List BrokenLock
  /-- Writes that wait for a locked target, oldest first, and the master served last (R431, R432). -/
  waiting : List BusWrite
  lastServed : Nat
  errInfo : Half
  errAddr : Half
  errCount : Nat
  /-- Masters stalled by a decode error in hang mode (R434). -/
  stalled : BitVec 8
  deriving DecidableEq, Repr

def MatrixState.reset : MatrixState := ⟨0x0000_0028, false, 0x0400, [], [], [], 0, 0, 0, 0, 0⟩

/-- A descriptor held open by a ring: its address, buffer address, length, IRQ bit and what has been placed. -/
structure OpenDesc where
  at_ : Word
  buf : Word
  len : Nat
  irq : Bool
  placed : List Word
  deriving DecidableEq, Repr

/-- One DMA ring (R437 to R450). -/
structure Ring where
  base : Word
  cfg : Half
  bind : Half
  head : Nat
  idle : Bool
  waiting : Bool
  lastStatus : BitVec 8
  drops : Nat
  tail : BitVec 16
  /-- A doorbell or poll asks for the ring to be read. -/
  rung : Bool
  /-- Frame of the last RING_FAULT and RING_DROP plus 1. -/
  faultEvent : Nat
  dropEvent : Nat
  /-- Reply descriptors reserved by fetched commands (R442). -/
  reserved : Nat
  /-- Descriptors of a transmit frame so far: descriptor address, octets (R445). -/
  frame : List (Word × List Byte × Bool)
  open_ : Option OpenDesc
  /-- A read failed in the transmit frame in progress, so it will not be sent (log entry 51). -/
  spoilt : Bool
  /-- Stalled by a decode error in hang mode (R434). -/
  stalled : Bool
  deriving DecidableEq, Repr

/-- A ring's reset state with its RING_CFG reset value. -/
def Ring.of (cfg : Half) : Ring := ⟨0, cfg, 0, 0, true, false, 0, 0, 0, false, 0, 0, 0, [], none, false, false⟩

/-- The reset values of the general rings; rings 0 to 3 have fixed kinds and ports (RING_CFG). -/
def Ring.reset (n : Nat) : Ring :=
  Ring.of (if n = 0 then 0x1000_0000 else if n = 1 then 0x2000_0000 else if n = 2 then 0x1400_0000
    else if n = 3 then 0x2400_0000 else 0)

/-- An instruction of program DMA: its three words. -/
structure DmaInstr where
  w0 : Word
  w1 : Word
  w2 : Word
  deriving DecidableEq, Repr

/-- A loop running: index of its LOOP, index after its body, iterations left. -/
structure DmaLoop where
  at_ : Nat
  stop : Nat
  left : Nat
  deriving DecidableEq, Repr

/-- STATE of CH_STAT. -/
inductive ChanMode where
  | idle
  | running
  | waiting
  deriving DecidableEq, Repr

/-- One program DMA channel (R451 to R455). -/
structure Chan where
  prog : Word
  done : Word
  cfg : Half
  mode : ChanMode
  lastStatus : BitVec 8
  index : Nat
  doorbell : Bool
  abort : Bool
  code : List DmaInstr
  pc : Nat
  loops : List DmaLoop
  moved : Nat
  /-- Words of the MOVE in progress already copied. -/
  done_ : Nat
  /-- SNAP_SEQ when a WAIT for a snapshot began. -/
  waitFor : Nat
  /-- Stalled by a decode error in hang mode (R434). -/
  stalled : Bool
  deriving DecidableEq, Repr

def Chan.reset : Chan := ⟨0, 0, 0x0000_0100, .idle, 0, 0, false, false, [], 0, [], 0, 0, 0, false⟩

/-- Chapter 13. -/
structure HostState where
  ports : Tab HostPort
  craft : CraftState
  matrix : MatrixState
  rings : Tab Ring
  chans : Tab Chan
  /-- Replies of CP0 and CP1 waiting for a reply descriptor, oldest first: port and octets, with SEQ. -/
  replies : List (Nat × BitVec 32 × List Byte)
  deriving DecidableEq, Repr

def HostState.reset : HostState :=
  { ports := [], craft := CraftState.reset, matrix := MatrixState.reset,
    rings := [(0, Ring.reset 0), (1, Ring.reset 1), (2, Ring.reset 2), (3, Ring.reset 3)], chans := [], replies := [] }

end Sys2Proof.Machine
end

