-- ==== Sys2Proof/Machine/State/Out.lean ====
section
/-!
DEFINITION. What leaves the block: replies, host writes, interrupts, frames, pin levels. The model records it in order (log entry 6).
-/
namespace Sys2Proof.Machine

/-- Output pins whose level a rule drives. -/
inductive Pin where
  | craftAtn
  | intA
  | intB
  | actOut
  | actClaim
  | ppsOut
  | voscOut
  | coreEn
  | rstOut
  deriving DecidableEq, Repr

/-- One thing the block sends. -/
inductive Out where
  | reply (r : Reply)
  | hostWrite (portB : Bool) (addr : Word) (octets : List Byte)
  | hostRead (portB : Bool) (octets : List Byte)
  | completerAbort (portB : Bool)
  | msix (portB : Bool) (vector : Nat)
  | procIrq (target : Nat)
  | busError (master : Nat)
  | regRead (value : Word)
  | pin (p : Pin) (level : Bool)
  | cp2Frame (octets : List Byte)
  | optical (octets : List Byte)
  | spi (octets : List Byte)
  | sdhFrame (lane : Nat) (overhead : List Byte) (paths : List (BitVec 32 × BitVec 16 × List Byte))
  | e1Frame (eid : BitVec 32) (octets : List Byte)
  | gfpFrame (channel : Nat) (octets : List Byte)
  | ethFrame (lane : Nat) (octets : List Byte)
  | traffic (eid : BitVec 32) (octets : List Byte) (qb : Bool)
  | vcatPacket (eid : BitVec 32) (mfi sq : Nat) (ctrl : BitVec 4) (gid : Bool) (mst : List Bool) (rsAck : Bool)
  | ptp (port : Nat) (kind : Nat) (octets : List Byte)
  | mate (kind : Nat) (words : List Word)
  | wakeBurst (target : Nat) (code : Nat)
  | recovery (octets : List Byte)
  | avs (millivolts : Nat)
  deriving DecidableEq, Repr

end Sys2Proof.Machine
end

