-- ==== Sys2Proof/Machine/State/Tick.lean ====
section
/-!
DEFINITION. Identity, straps and profile (01_device_overview.md) and the frame tick (02_frame_tick.md).
-/
namespace Sys2Proof.Machine

/-- The resource profile (R18, DEV_CONFIG PROFILE). -/
inductive Profile where
  | broad
  | deep
  | packet
  deriving DecidableEq, Repr

/-- Straps and profile as DEV_CONFIG shows them (R19, R582). -/
structure Identity where
  strapBoot : BitVec 3
  strapHome : Bool
  strapCompat : Bool
  strapTestN : Bool
  profile : Profile
  profileValid : Bool
  /-- Per fabric link: parity mismatches counted (R12). -/
  linkParity : Tab Nat
  /-- The vendor key hash that the fuses hold (R567); State.reset gives it 0 (log entry 129). -/
  keyHash : BitVec 256
  deriving DecidableEq, Repr

def Identity.reset : Identity :=
  ⟨0, false, false, true, .broad, false, [], 0⟩

/-- A step the tick generator already knows of (R35, R41): its cause code (Table 2.4), the FN it loads, if any, and whether it makes the frame
shorter than 97,199 cycles (R45). -/
structure StepReq where
  cause : Nat
  loadFn : Option (BitVec 48)
  short : Bool
  deriving DecidableEq, Repr

/-- The tick generator (chapter 2). -/
structure TickState where
  fn : BitVec 48
  /-- FN counts from 0 at the first tick after reset: no tick has come yet (R38). -/
  started : Bool
  fnHi : BitVec 16
  fnSrc : BitVec 3
  /-- Cycle c as sampled last in this frame; it only rises within a frame. -/
  cycle : BitVec 17
  slipCount : Nat
  lastSlip : BitVec 4
  stepArm : Bool
  stepArmEnd : Nat
  slewEn : Bool
  slewedLast : Bool
  /-- Frames of copy-forward still to run, 0 to 9 (R31, R45). -/
  copyLeft : Nat
  /-- Bushel now loading, and frames of its load still to run (R33). -/
  loading : Option Nat
  loadLeft : Nat
  /-- Bushel the last flip check passed (R35). -/
  flipBushel : Option Nat
  flipPassed : Bool
  /-- Slip causes seen in the present frame (R42). -/
  slipCauses : List (BitVec 4)
  stepKnown : Option StepReq
  /-- Stages that disagreed, reset at the next tick; they set QB until then (R44). -/
  badStages : List Nat
  /-- Which half of every map bank is active; all banks change together (R37). -/
  mapHalf : Bool
  /-- Which bank of the grain interchange is written (R28). -/
  grainBank : Bool
  /-- The row the refresh controller refreshes next (R30). -/
  refreshRow : BitVec 10
  lastFlip : BitVec 48
  lastFlipHi : BitVec 16
  deriving DecidableEq, Repr

def TickState.reset : TickState :=
  { fn := 0, started := false, fnHi := 0, fnSrc := 0, cycle := 0, slipCount := 0, lastSlip := 0, stepArm := false,
    stepArmEnd := 0, slewEn := true, slewedLast := false, copyLeft := 0, loading := none, loadLeft := 0,
    flipBushel := none, flipPassed := false, slipCauses := [], stepKnown := none, badStages := [], mapHalf := false,
    grainBank := false, refreshRow := 0, lastFlip := 0, lastFlipHi := 0 }

end Sys2Proof.Machine
end

