-- ==== Sys2Proof/Machine/State.lean ====
section
/-!
DEFINITION. The state of the block, the reasons a step can stop, and the state right after reset.
-/
namespace Sys2Proof.Machine

/-- Why a step faults. -/
inductive Fault where
  /-- A command operand that no hardware could present: a packet whose parameter area disagrees with its PLEN (R376 refuses it before it
  becomes a command). Raised by every command-packet meaning. Safe: the machine stops where nothing can arrive. -/
  | illFormed
  deriving DecidableEq, Repr

/-- Why a step is refused. -/
inductive Refusal where
  /-- The command has no meaning yet. Raised by exec's arms alone. Safe. -/
  | notModelled (mnemonic : String)
  deriving DecidableEq, Repr

/-- The whole block. -/
structure State where
  /-- Commands waiting, first in, first out. -/
  pending : List Instr
  /-- What the block has sent, oldest first: the model's own record of its outputs. -/
  outs : List Out
  /-- Free values taken so far: the model's own index into Config.freeValue. -/
  freeIdx : Nat
  /-- Frames since reset: the model's own time base for timers of whole frames. -/
  now : Nat
  ident : Identity
  tick : TickState
  line : LineState
  sdh : SdhState
  fab : FabState
  cmd : CmdState
  host : HostState
  ev : EvState
  mem : MemState
  fram : FramState
  bush : BushelState
  prot : ProtState
  align : AlignState
  pie : PieState
  tim : TimState
  pwr : PowerState
  pair : PairState
  boot : BootState
  cfg : Cfg
  jr : Journal
  deriving DecidableEq, Repr

/-- The block right after reset, with nothing in its queue. -/
def State.reset : State :=
  { pending := [], outs := [], freeIdx := 0, now := 0, ident := .reset, tick := .reset, line := .reset, sdh := .reset,
    fab := .reset, cmd := .reset, host := .reset, ev := .reset, mem := .reset,
    fram := .reset, bush := .reset, prot := .reset, align := .reset, pie := .reset, tim := .reset, pwr := .reset, pair := .reset, boot := .reset, cfg := .reset, jr := .fresh }

end Sys2Proof.Machine
end

