-- ==== Sys2Proof/WellFormed.lean ====
section
/-!
DEFINITION. Which operands can stand in a command: the length rules of a packet (R376).
-/
namespace Sys2Proof

open Sys2Proof.Machine

/-- The octets of the parameter area for a PLEN: max(16, 8 * ceil(PLEN / 8)) (R376). -/
def paramOctets (plen : Nat) : Nat := Nat.max 16 (8 * ceilDiv plen 8)

/-- A verified packet's parameter area agrees with its PLEN, and PLEN is at most 4,064 (R376, Table 12.1). -/
def Machine.Cmd.wf (c : Cmd) : Bool := decide (c.plen ≤ 4064) && decide (8 * c.words.length = paramOctets c.plen)

/-- The packet of a command that an opcode carries; none for a command of the host, the lines or the clock. -/
def Instr.packet : Instr → Option Cmd
  | .registerWrite _ => none
  | .frameTick _ => none
  | .flipCheck => none
  | .loadBegin => none
  | .loadDone => none
  | .copyForwardDone => none
  | .frameStep _ _ _ _ => none
  | .stepArm _ => none
  | .slewEn _ => none
  | .stepArmLapse => none
  | .fnLoRead _ => none
  | .lastFlipLoRead _ => none
  | .tickStatusRead _ => none
  | .laneSet c => some c
  | .laneGet c => some c
  | .laneStatus c => some c
  | .laneLoop c => some c
  | .lanePrbs c => some c
  | .mateSet c => some c
  | .mateStatus c => some c
  | .tribSet c => some c
  | .tribGet c => some c
  | .tribStatus c => some c
  | .tribLoop c => some c
  | .laneConfigDone _ => none
  | .signalLevelChange _ _ => none
  | .transitionDetectChange _ _ => none
  | .cdrLockChange _ _ => none
  | .laneActivity _ _ => none
  | .ethLinkDown _ _ => none
  | .ethLinkUp _ _ => none
  | .lanePrbsLock _ _ _ => none
  | .mateLaneChange _ _ => none
  | .tribClkLoss _ => none
  | .tribClkRestore _ => none
  | .tribTxSlip _ _ => none
  | .tribAlignChange _ => none
  | .alignerSlip _ _ => none
  | .sdhFrameReceive _ => none
  | .apsInconsistency _ => none
  | .losDeclare _ => none
  | .losClear _ => none
  | .tuMultiframeReceive _ => none
  | .bipWindowEnd _ _ _ => none
  | .sdhFrameTransmit _ => none
  | .sdhOhSet c => some c
  | .sdhOhGet c => some c
  | .sdhStatus c => some c
  | .sdhCapture c => some c
  | .pathOhSet c => some c
  | .pathStatus c => some c
  | .pathCapture c => some c
  | .traceSet c => some c
  | .traceGet c => some c
  | .sdhThreshGet c => some c
  | .e1FrameReceive _ => none
  | .crc4SearchTimeout _ => none
  | .crc4Fallback _ => none
  | .e1ExclusionEnd _ => none
  | .e1CrcBlockEnd _ => none
  | .e1WindowEnd _ _ => none
  | .c37FrameReceive _ => none
  | .gfpFrameReceive _ => none
  | .gfpLfd _ => none
  | .gfpCsfTimeout _ => none
  | .gfpFrameTransmit _ => none
  | .vcatControlPacket _ => none
  | .lcasRemoveTimeout _ => none
  | .lcasHoldoffExpiry _ _ => none
  | .lcasWtrExpiry _ _ => none
  | .e1Set c => some c
  | .e1Get c => some c
  | .e1Status c => some c
  | .e1FramerBind c => some c
  | .c37Status c => some c
  | .gfpSet c => some c
  | .gfpGet c => some c
  | .gfpBind c => some c
  | .gfpStatus c => some c
  | .vcatSet c => some c
  | .vcatGet c => some c
  | .vcatMemberAdd c => some c
  | .vcatMemberRemove c => some c
  | .vcatStatus c => some c
  | .testAnalyserLock _ _ _ => none
  | .connAdd c => some c
  | .connSet c => some c
  | .connDel c => some c
  | .connGet c => some c
  | .connFind c => some c
  | .connLatency c => some c
  | .structSet c => some c
  | .structGet c => some c
  | .tugSet c => some c
  | .tugGet c => some c
  | .mapRead c => some c
  | .bushelOpen c => some c
  | .bushelCommit c => some c
  | .bushelCancel c => some c
  | .bushelStatus c => some c
  | .bushelFetch c _ => some c
  | .shed c => some c
  | .usageGet c => some c
  | .bushelList c => some c
  | .bushelAbandoned => none
  | .pgAdd c => some c
  | .pgSet c => some c
  | .pgDel c => some c
  | .pgGet c => some c
  | .pgCmd c => some c
  | .pgStatus c => some c
  | .lpSet c => some c
  | .lpDel c => some c
  | .lpGet c => some c
  | .lpCmd c => some c
  | .lpStatus c => some c
  | .pgScan c => some c
  | .holdoffExpiry _ _ _ => none
  | .wtrExpiry _ _ => none
  | .apsService _ => none
  | .apsFop _ => none
  | .protFwStall => none
  | .mergedSelection _ => none
  | .signatureSpan _ => none
  | .markMessageReceive _ => none
  | .verifyTimeout _ => none
  | .alignStuck _ => none
  | .alignSet c => some c
  | .alignGet c => some c
  | .alignStatus c => some c
  | .alignRestart c => some c
  | .symSet c => some c
  | .symGet c => some c
  | .symStatus c => some c
  | .markSet c => some c
  | .markCapture c => some c
  | .vcatAlignSet c => some c
  | .fathomMap c => some c
  | .ethernetFrameReceive _ => none
  | .jitterBufferPlayout _ => none
  | .pwWindowEnd _ => none
  | .pwPacketSend _ => none
  | .ethernetFrameTransmit _ _ => none
  | .queueAdd c => some c
  | .queueSet c => some c
  | .queueDel c => some c
  | .queueGet c => some c
  | .queueStatus c => some c
  | .hdrSet c => some c
  | .hdrGet c => some c
  | .psnSet c => some c
  | .psnGet c => some c
  | .fwdSet c => some c
  | .fwdGet c => some c
  | .pieStatus c => some c
  | .candidateFault _ _ => none
  | .frequencyGate _ _ => none
  | .qualificationExpiry _ => none
  | .hitExpiry _ => none
  | .selectorEvaluation _ _ => none
  | .dpllLock => none
  | .holdoverQlTimer => none
  | .modelRecord => none
  | .modelFit => none
  | .oscAgeJournal => none
  | .ppsPulse _ => none
  | .todMessage _ => none
  | .ptpMessageSend _ _ _ => none
  | .announceTimeout _ => none
  | .ptpServoLock => none
  | .ptpOffsetTimeout => none
  | .timSysSet c => some c
  | .timSysGet c => some c
  | .timInSet c => some c
  | .timInGet c => some c
  | .timInStatus c => some c
  | .timStatus c => some c
  | .timHoldover c => some c
  | .timModelSet c => some c
  | .timModelGet c => some c
  | .timModelLearn c => some c
  | .timOutSet c => some c
  | .timOutGet c => some c
  | .timMonSet c => some c
  | .todSet c => some c
  | .ptpSet c => some c
  | .ptpPortSet c => some c
  | .ptpStatus c => some c
  | .timThermSet c => some c
  | .devInfo c => some c
  | .seqSync c => some c
  | .echo c => some c
  | .fnGet c => some c
  | .cmdPortSet c => some c
  | .cmdPortStatus c => some c
  | .tenantSet c => some c
  | .tenantGet c => some c
  | .tenantDel c => some c
  | .tenantList c => some c
  | .keyLoad c => some c
  | .keyRetire c => some c
  | .authLogGet c => some c
  | .portQuietEnd _ => none
  | .barrierRelease _ _ => none
  | .deferredReply _ _ => none
  | .hostPortReset _ _ => none
  | .mgmtFrameReceive _ => none
  | .craftWrite _ _ _ => none
  | .craftStatus => none
  | .craftRead _ => none
  | .opticalFrameReceive _ _ _ => none
  | .opticalLineFault _ => none
  | .opticalQuietEnd => none
  | .opticalReplySend => none
  | .matrixLockBroken _ => none
  | .matrixCtrlWrite _ => none
  | .matrixErrClear _ => none
  | .matrixErrCountRead _ => none
  | .doorbell _ _ => none
  | .ringPoll _ => none
  | .ringDescriptor _ _ _ _ => none
  | .ringEnable _ _ => none
  | .ringDisable _ _ => none
  | .ringIdle _ => none
  | .hostReceiveFrame _ _ => none
  | .grainCaptureBlock _ _ _ _ _ => none
  | .grainPlaybackBlock _ _ _ => none
  | .ringDropsRead _ _ => none
  | .chStart _ _ _ => none
  | .chAbort _ _ => none
  | .chDoorbell _ _ => none
  | .pdmaMove _ _ _ => none
  | .pdmaLoop _ => none
  | .pdmaWait _ => none
  | .pdmaWaitEnd _ => none
  | .pdmaSignal _ => none
  | .eventStagingDrain => none
  | .eventRingFlush _ => none
  | .eringStatRead _ _ => none
  | .evicSrcWrite _ _ => none
  | .tgtClaim _ _ => none
  | .tgtEoi _ _ => none
  | .evicSoft _ => none
  | .moderationExpiry _ => none
  | .extEvent _ _ => none
  | .frzNEdge _ => none
  | .snapReq _ => none
  | .snapshotDone => none
  | .counterHubRead _ _ _ _ => none
  | .counterCheckpoint => none
  | .traceTimeout _ => none
  | .counterSet c => some c
  | .counterGet c => some c
  | .counterRead c => some c
  | .counterClear c => some c
  | .snapshot c => some c
  | .counterDump c => some c
  | .filterSet c => some c
  | .filterGet c => some c
  | .userSlotSet c => some c
  | .wordTraceSet c => some c
  | .traceRead c => some c
  | .traceClear c => some c
  | .eventRead c => some c
  | .eventLogStatus c => some c
  | .evicRegRead c => some c
  | .evicRegWrite c => some c
  | .mapRepair _ _ => none
  | .refreshBandCheck _ => none
  | .journalVerify _ => none
  | .journalCompactionStart => none
  | .journalCompacted => none
  | .pfwCheckpoint => none
  | .pfwReturn => none
  | .eccErrClear _ => none
  | .memEccStatRead _ => none
  | .memStatus c => some c
  | .memErrLog c => some c
  | .journalStatus c => some c
  | .journalCompact c => some c
  | .journalRead c => some c
  | .ckptNow c => some c
  | .memInject c => some c
  | .tokenClaim => none
  | .claimReadback _ => none
  | .tokenRelease => none
  | .statusBlockReceive _ => none
  | .mirrorMessageReceive _ _ => none
  | .mirrorTimeout => none
  | .pairStep _ _ => none
  | .handbackWtrExpiry => none
  | .handoverTick => none
  | .bootWaitExpiry => none
  | .pairSet c => some c
  | .pairGet c => some c
  | .pairStatus c => some c
  | .pairSwitch c => some c
  | .pairHold c => some c
  | .pairResync c => some c
  | .pairForce c => some c
  | .pwrState c => some c
  | .gillEntryComplete => none
  | .gillEntryTimeout => none
  | .wakeSource _ _ _ => none
  | .wakeStepReady _ _ => none
  | .wakeStepTimeout _ _ => none
  | .wakeRetry => none
  | .gillTimebaseSwitch _ => none
  | .timebaseCalibration _ _ => none
  | .avsRequestDone _ => none
  | .avsTimeout => none
  | .avsAdjust _ => none
  | .voscLatchOff => none
  | .voscRetry => none
  | .oscinLoss => none
  | .oscinReturn _ => none
  | .pwrSet c => some c
  | .pwrGet c => some c
  | .wakeSet c => some c
  | .wakeGet c => some c
  | .pwrStatus c => some c
  | .wakeLog c => some c
  | .sleepGapGet c => some c
  | .voscCtrl c => some c
  | .firkinCheck c => some c
  | .wakeSend c => some c
  | .powerOnReset _ _ _ _ => none
  | .brownOutReset => none
  | .watchdogExpiry => none
  | .bootComplete _ _ => none
  | .bootFail _ => none
  | .bootGo _ _ => none
  | .bootGoTimeout => none
  | .svnAdvance => none
  | .recStatus _ _ => none
  | .arm _ _ => none
  | .freeze _ _ _ => none
  | .journalTail _ _ => none
  | .forceStandby _ _ _ => none
  | .hardReset _ _ _ _ => none
  | .gillRead _ _ => none
  | .mboxRead _ _ => none
  | .mboxWrite _ _ _ _ => none
  | .tamper _ _ => none
  | .sysReset c => some c
  | .resetLog c => some c
  | .wdtSet c => some c
  | .tamperSet c => some c
  | .tamperGet c => some c
  | .tamperClear c => some c
  | .tamperLog c => some c
  | .returnCapture c => some c
  | .captureStatus c => some c
  | .recSet c => some c
  | .fwStage c _ => some c
  | .cmdSecRead _ => none
  | .hostPortLinkUp _ _ => none
  | .cp2LinkChange _ => none
  | .e1FrameTransmit _ _ => none
  | .watchdogKick _ => none
  | .shortRunCountClear => none
  | .actClaimChange _ => none
  | .avsNack _ => none
  | .vcoreOutOfRange _ => none
  | .vddNvLoss => none

/-- A command as it can arrive: its packet, if it has one, is well formed. -/
def Instr.wf (i : Instr) : Bool := i.packet.all Cmd.wf

end Sys2Proof
end

