-- ==== Sys2Proof/Machine/Ops.lean ====
section
/-!
DEFINITION. The shared operations: outputs, free values, the journal, events and the EVIC, counters.
-/
namespace Sys2Proof.Machine

/-- One more output. -/
def State.emit (s : State) (o : Out) : State := { s with outs := s.outs ++ [o] }

/-- The next free value, and the state with the index moved on (log entry 1). -/
def State.takeFree (s : State) : Word × State := (Config.freeValue s.freeIdx, { s with freeIdx := s.freeIdx + 1 })

/-- The present second of the model's time base (8,000 frames). -/
def State.second (s : State) : Nat := s.now / 8000

/-- A second (8,000 frames) has passed since the last report of an event that is raised at most once per second; `last` is that report's frame + 1,
and 0 before the first (log entry 135). -/
def State.mayReport (s : State) (last : Nat) : Bool := decide (last = 0 ∨ last + 8000 ≤ s.now + 1)

/-- An event's source and its fields (Table 14.1). -/
structure Event where
  src : Nat
  clr : Bool := false
  fnForm : Bool := false
  code : Nat := 0
  aux : Nat := 0
  obj : Nat := 0
  deriving DecidableEq, Repr

/-- EVIC_SRC of a source (R462). -/
def State.srcCfg (s : State) (src : Nat) : Half := s.ev.srcCfg.look 0x000F_0000 src

/-- The record of an event raised now. -/
def State.record (s : State) (e : Event) : EvRec :=
  { w0 := mkWord [(63, 55, e.src), (53, 53, e.clr.toNat), (52, 52, e.fnForm.toNat), (51, 48, fld (s.srcCfg e.src) 27 24),
      (47, 0, s.tick.fn.toNat)],
    w1 := mkWord [(63, 56, e.code), (55, 32, e.aux), (31, 0, e.obj)] }

/-- A record enters staging, or is lost and counted when 16 wait (R466). -/
def State.stage (s : State) (r : EvRec) : State :=
  if 16 ≤ s.ev.staging.length then { s with ev.lost := s.ev.lost + 1, ev.ovf := true }
  else { s with ev.staging := s.ev.staging ++ [{ r with w0 := setFlag r.w0 54 s.ev.ovf }], ev.ovf := false }

/-- A host port's state. -/
def State.hostPort (s : State) (portB : Bool) : HostPort := s.host.ports.look HostPort.reset portB.toNat

def State.setHostPort (s : State) (portB : Bool) (p : HostPort) : State :=
  { s with host.ports := s.host.ports.put HostPort.reset portB.toNat p }

/-- An MSI-X vector is sent, or set pending while it is masked (R465). -/
def State.sendVector (s : State) (portB : Bool) (v : Nat) : State :=
  let p := s.hostPort portB
  if p.vecMasked.getLsbD v then s.setHostPort portB { p with pba := setFlag p.pba v true } else s.emit (.msix portB v)

/-- An EVIC target. -/
def State.target (s : State) (t : Nat) : EvicTarget := s.ev.targets.look EvicTarget.reset t

def State.setTarget (s : State) (t : Nat) (x : EvicTarget) : State :=
  { s with ev.targets := s.ev.targets.put EvicTarget.reset t x }

/-- The fields of EVIC_SRC. -/
def srcTarget (c : Half) : Nat := fld c 29 28
def srcPrio (c : Half) : Nat := fld c 27 24

/-- The running priority of a target: the PRIO of the source on top of its stack (R464). -/
def State.running (s : State) (t : Nat) : Option Nat :=
  match (s.target t).stack with
  | [] => none
  | (src, _) :: _ => some (srcPrio (s.srcCfg src))

/-- A source is claimable by a target (R464). -/
def State.claimable (s : State) (t src : Nat) : Bool :=
  let c := s.srcCfg src
  s.ev.pend.getLsbD src && decide (srcTarget c = t) && decide (fld (s.target t).cfg 3 0 ≤ srcPrio c) &&
    (match s.running t with | none => true | some r => decide (r < srcPrio c))

/-- The sources a target could claim. Only sources whose EVIC_SRC was written can be pending. -/
def State.claimables (s : State) (t : Nat) : List Nat := (s.ev.srcCfg.map (·.1)).filter (s.claimable t)

/-- The claimable source of highest PRIO, lowest number among equals (R464). -/
def State.bestClaim (s : State) (t : Nat) : Option Nat :=
  (s.claimables t).foldl (fun b src =>
    match b with
    | none => some src
    | some x => if srcPrio (s.srcCfg x) < srcPrio (s.srcCfg src) then some src else some x) none

/-- The interrupt pin of a host target. -/
def intPin (t : Nat) : Pin := if t = 0 then .intA else .intB

/-- One target's notification, when it is due (R465). -/
def State.notifyOne (s : State) (t : Nat) : State :=
  let x := s.target t
  match s.bestClaim t with
  | none => s
  | some src =>
    let idle := x.stack.isEmpty && !x.outstanding
    if x.outstanding || !(idle || !x.timer) then s
    else
      let s := s.setTarget t { x with outstanding := true, timer := decide (fld x.cfg 31 16 ≠ 0) }
      if 2 ≤ t then s.emit (.procIrq t)
      else if (s.hostPort (t = 1)).msixEn then s.sendVector (t = 1) (srcPrio (s.srcCfg src))
      else s.emit (.pin (intPin t) false)

/-- Every target's notification. -/
def State.notify (s : State) : State := (((s.notifyOne 0).notifyOne 1).notifyOne 2).notifyOne 3

/-- A source fires: pending with IE, or a direct vector (R463, R465). -/
def State.fire (s : State) (src : Nat) : State :=
  let c := s.srcCfg src
  if !flag c 31 then s
  else if flag c 30 && decide (srcTarget c < 2) && (s.hostPort (srcTarget c = 1)).msixEn then
    s.sendVector (srcTarget c = 1) (16 + fld c 23 20)
  else State.notify { s with ev.pend := setFlag s.ev.pend src true }

/-- An event is raised: its record is staged and its source fires (R460, R463, R466). -/
def State.raise (s : State) (e : Event) : State := (s.stage (s.record e)).fire e.src

/-- Raise or not. -/
def State.raiseIf (s : State) (b : Bool) (e : Event) : State := if b then s.raise e else s

/-- An accepted bushel that has not flipped (R214). -/
def Bushel.live (b : Bushel) : Bool :=
  match b.mode with
  | .queued => true
  | .pending => true
  | .restored => true
  | .loading => true
  | .loaded => true
  | _ => false

/-- A two-phase record of the configuration is written: header, body, CRC and commit word (R496, R497). -/
def State.journal (s : State) (body : Nat) : State :=
  let seq := s.jr.lastSeq + 1
  { s with jr.log := s.jr.log ++ [⟨seq, body + 3, ⟨s.cfg, s.bush.list.filter Bushel.live⟩⟩], jr.lastSeq := seq, jr.valid := true }

/-- The words of one configuration half: 144 KiB (Table 15.6). -/
def halfWords : Nat := 18432

/-- The words in use in the active half. -/
def State.logFill (s : State) : Nat := s.jr.baseWords + (s.jr.log.map (·.words)).sum

/-- A record cannot be appended: the log is full and a compaction would leave the base image above 75 % (R499). -/
def State.journalFull (s : State) (body : Nat) : Bool :=
  decide (halfWords < s.logFill + body + 3) && decide (halfWords * 75 < Config.baseWords s.jr.lastSeq * 100)

/-- A counter holds 48 bits. -/
def counterWrap : Nat := 2 ^ 48

/-- COUNTER_CFG words of a counter. -/
def State.counterCfg (s : State) (i : Nat) : Rec2 := s.cfg.ev.counters.look (0, 0) i

def State.counter (s : State) (i : Nat) : Counter := s.ev.counters.look Counter.reset i

def State.setCounter (s : State) (i : Nat) (c : Counter) : State :=
  { s with ev.counters := s.ev.counters.put Counter.reset i c }

/-- A counter adds n: it saturates or wraps, a wrap carries into a chained counter above it, and WRAP_EVT raises COUNTER_WRAP at a wrap and when
saturation is reached (R469, R474; log entry 138). The carry of an odd counter goes nowhere. -/
def State.addCounter (s : State) (i n : Nat) : State :=
  let w := (s.counterCfg i).1
  let wHi := (s.counterCfg (i + 1)).1
  let c := s.counter i
  let v := c.live.toNat + n
  let chained := decide (i % 2 = 0) && flag wHi 46 && flag wHi 47
  let sat := flag w 43
  let full : BitVec 48 := BitVec.allOnes 48
  if chained then
    let hi := s.counter (i + 1)
    let h := hi.live.toNat + v / counterWrap
    if sat && decide (counterWrap * counterWrap ≤ h * counterWrap + v % counterWrap + 1) then
      let news := decide (c.live ≠ full ∨ hi.live ≠ full)
      (((s.setCounter i { c with live := full }).setCounter (i + 1) { hi with live := full }).raiseIf
        (news && flag w 42) { src := 0x002, obj := i }).raiseIf (news && flag wHi 42) { src := 0x002, obj := i + 1 }
    else
      (((s.setCounter i { c with live := BitVec.ofNat 48 v }).setCounter (i + 1) { hi with live := BitVec.ofNat 48 h }).raiseIf
        (decide (counterWrap ≤ v) && flag w 42) { src := 0x002, obj := i }).raiseIf
        (decide (counterWrap ≤ h) && flag wHi 42) { src := 0x002, obj := i + 1 }
  else if sat then
    (s.setCounter i { c with live := if v < counterWrap then BitVec.ofNat 48 v else full }).raiseIf
      (decide (counterWrap ≤ v + 1) && decide (c.live ≠ full) && flag w 42) { src := 0x002, obj := i }
  else (s.setCounter i { c with live := BitVec.ofNat 48 v }).raiseIf (decide (counterWrap ≤ v) && flag w 42) { src := 0x002, obj := i }

/-- The E1 of a counted object has a framer of the bank bound to it. -/
def State.bankFramer (s : State) (obj : Nat) : Bool := s.cfg.fram.bank.any fun x => decide (x.2 = some (BitVec.ofNat 32 obj))

/-- The home of a counter counts the group of a select (Table 14.5). -/
def homeCounts (i sel : Nat) : Bool :=
  let b := i / 16
  let g := sel / 256
  if b < 32 then decide (1 ≤ g ∧ g ≤ 3) else if b < 34 then decide (g = 1 ∨ g = 2) else if b < 38 then decide (g = 3)
  else if b < 40 then decide (g = 4) else if b < 46 then decide (g = 5 ∨ g = 6) else if b < 50 then decide (g = 3)
  else if b < 52 then decide (g = 7) else if b < 54 then decide (g = 8) else if b < 62 then decide (g = 9) else decide (g = 10)

/-- The home of a counter holds an object of a select (Table 14.5; log entry 52). -/
def State.homeHolds (s : State) (i sel obj : Nat) : Bool :=
  let b := i / 16
  let g := sel / 256
  let e : Eid := BitVec.ofNat 32 obj
  homeCounts i sel &&
    (if b < 32 then
      (if g = 1 then decide (obj / 5 = b / 4)
       else decide (eidKind e = .line) && decide (eidPort e / 5 = b / 4) && !(decide (g = 3) && s.bankFramer obj))
     else if b < 34 then (if g = 1 then decide (40 ≤ obj) else decide (eidKind e = .mate))
     else if b < 38 then decide (eidKind e = .line ∨ eidKind e = .mate) && !s.bankFramer obj
     else if 46 ≤ b ∧ b < 50 then decide (eidKind e = .trib) || s.bankFramer obj
     else true)

/-- The power domain of a counter's home is on (Table 14.5, R470). -/
def State.homeOn (s : State) (i : Nat) : Bool :=
  let b := i / 16
  if b < 32 then s.pwr.lineOn.getLsbD (b / 4) else if b < 34 then s.pwr.mateOn else if b < 40 then s.pwr.fabOn else if b < 46 then s.pwr.pktOn
  else if b < 50 then s.pwr.tribOn else if 54 ≤ b ∧ b < 62 then decide (s.pwr.mode ≠ .gill) else s.pwr.fabOn

/-- A counter counts an event of this select and object (R470): enabled, its home on, not chained to the one below, the same object, or with ALL any its home
holds. -/
def State.counts (s : State) (i : Nat) (w : Rec2) (sel obj : Nat) : Bool :=
  flag w.1 47 && s.homeOn i && !(flag w.1 46 && decide (i % 2 = 1)) && decide (fld w.1 63 48 = sel) &&
    (if flag w.1 40 then s.homeHolds i sel obj else decide (fld w.2 31 0 = obj))

/-- Countable events are counted: n of a select for an object. -/
def State.count (s : State) (sel obj n : Nat) : State :=
  if n = 0 then s else
  s.cfg.ev.counters.foldl (fun s e => if s.counts e.1 e.2 sel obj then s.addCounter e.1 n else s) s

/-- The time limit of a timer of whole frames has come. -/
def State.due (s : State) (t : Nat) : Bool := decide (t ≤ s.now)

/-- The frame the maps, words and events now belong to. -/
def State.fnNat (s : State) : Nat := s.tick.fn.toNat

/-- FN plus a number of frames, modulo 2^48 (R38). -/
def fnAdd (f : BitVec 48) (n : Nat) : BitVec 48 := f + BitVec.ofNat 48 n

/-- The cycle c at which something is sampled: later in the frame than any sample before it, and otherwise open (R27; log entry 1). -/
def State.sampleCycle (s : State) : BitVec 17 × State :=
  let f := s.takeFree
  let c := BitVec.ofNat 17 (s.tick.cycle.toNat + f.1.toNat % (97200 - s.tick.cycle.toNat))
  (c, { f.2 with tick.cycle := c })

/-- Frames from one FN on to another, modulo 2^48 (R38). -/
def fnAhead (a b : BitVec 48) : Nat := (b - a).toNat

end Sys2Proof.Machine
end

