-- ==== Sys2Proof/Machine/Command.lean ====
section
/-!
DEFINITION. Commands and their replies (12_commands.md): status codes, steps 6 to 10 of R401, replies, the reply cache, deferred replies.
-/
namespace Sys2Proof.Machine

/-- Status codes (Table 12.8). -/
def stOk : Nat := 0x00
def stPending : Nat := 0x01
def stBadLength : Nat := 0x10
def stBadOpcode : Nat := 0x11
def stBadParam : Nat := 0x12
def stAuthFail : Nat := 0x13
def stReplay : Nat := 0x14
def stNotPermitted : Nat := 0x15
def stLocked : Nat := 0x16
def stQuota : Nat := 0x17
def stBusy : Nat := 0x18
def stContract : Nat := 0x19
def stNoResource : Nat := 0x1A
def stBlocked : Nat := 0x1B
def stState : Nat := 0x1C
def stInternal : Nat := 0x20

/-- Privileges (Table 12.5). -/
def TEN : Nat := 0
def OPR : Nat := 1
def SUP : Nat := 2

/-- What a command's handling answers. -/
inductive Answer where
  /-- Done: the new state and the reply data. -/
  | ok (s : State) (data : List Word)
  /-- ACCEPTED_PENDING. -/
  | pend (s : State) (data : List Word)
  /-- Refused with a status and DETAIL; the state holds the effects the rule attaches to the refusal itself (R409). -/
  | no (status detail : Nat) (s : State) (data : List Word)
  /-- The reply follows later (R405). -/
  | later (s : State) (w : Waits)

/-- A refusal with no effect. -/
def refuse (status detail : Nat) (s : State) : Answer := .no status detail s []

/-- BAD_PARAM of a parameter word. -/
def badParam (i : Nat) (s : State) : Answer := refuse stBadParam i s

/-- The first check that fails, as (failed, status, detail). -/
def firstFail (cs : List (Bool × Nat × Nat)) : Option (Nat × Nat) := (cs.find? (·.1)).map (·.2)

/-- Go on when no check fails. -/
def unlessFail (s : State) (cs : List (Bool × Nat × Nat)) (k : Answer) : Answer :=
  match firstFail cs with
  | some (st, d) => refuse st d s
  | none => k

/-- Parameter word i of a command; absent words read 0. -/
def Cmd.word (c : Cmd) (i : Nat) : Word := nth 0 c.words i

/-- The claimed privilege as a number. -/
def Cmd.rank (c : Cmd) : Nat := c.priv.toNat

/-- The sender's T-ID as a number. -/
def Cmd.t (c : Cmd) : Nat := c.tid.toNat

/-- An object's owner fits the sender: ownership limits only TEN senders (R384). -/
def Cmd.owns (c : Cmd) (owner : Nat) : Bool := decide (c.rank ≠ TEN) || decide (owner = c.t)

/-- TENANT_REC of a tenant. -/
def State.tenant (s : State) (t : Nat) : Rec2 := s.cfg.cmd.tenants.look (0, 0) t

def tenState (r : Rec2) : Nat := fld r.1 63 62
def tenMaxPriv (r : Rec2) : Nat := fld r.1 61 60
def tenPorts (r : Rec2) : Nat := fld r.1 59 56

def State.tenantKeys (s : State) (t : Nat) : TenantKeys := s.cmd.keys.look TenantKeys.reset t

def State.setTenantKeys (s : State) (t : Nat) (k : TenantKeys) : State :=
  { s with cmd.keys := s.cmd.keys.put TenantKeys.reset t k }

/-- The key of a slot. -/
def TenantKeys.key (k : TenantKeys) (slot : Bool) : Option Key := if slot then k.key1 else k.key0
def TenantKeys.res (k : TenantKeys) (slot : Bool) : BitVec 32 := if slot then k.res1 else k.res0
def TenantKeys.low (k : TenantKeys) (slot : Bool) : Bool := if slot then k.low1 else k.low0
def TenantKeys.setKey (k : TenantKeys) (slot : Bool) (v : Option Key) : TenantKeys :=
  if slot then { k with key1 := v } else { k with key0 := v }
def TenantKeys.setRes (k : TenantKeys) (slot : Bool) (v : BitVec 32) : TenantKeys :=
  if slot then { k with res1 := v } else { k with res0 := v }
def TenantKeys.setLow (k : TenantKeys) (slot : Bool) (v : Bool) : TenantKeys :=
  if slot then { k with low1 := v } else { k with low0 := v }

/-- Tenant 0 has no ACTIVE slot (R394). -/
def State.commissioning (s : State) : Bool :=
  let k := s.tenantKeys 0
  k.key0.isNone && k.key1.isNone

/-- The key region's entry for a slot is written or taken out (R500). -/
def State.journalKey (s : State) (t : Nat) (slot : Bool) (e : Option KeyEntry) : State :=
  let rest := s.jr.keys.filter fun x => !(decide (x.tid = t) && x.slot == slot)
  { s with jr.keys := rest ++ e.toList, jr.lastSeq := s.jr.lastSeq + 1 }

/-- RES after a command of a slot with an accepted SEQ: it is raised when SEQ has come within 4,096 of it (R399). -/
def reserveOf (res : BitVec 32) (seq : Nat) : BitVec 32 :=
  if res.toNat < seq + 4096 then BitVec.ofNat 32 (Nat.min (seq + 65536) 0xFFFF_FFFF) else res

/-- RES of a slot is written to the journal. -/
def State.reserve (s : State) (t : Nat) (slot : Bool) (key : Key) (r : BitVec 32) : State :=
  (s.setTenantKeys t ((s.tenantKeys t).setRes slot r)).journalKey t slot (some ⟨t, slot, key, r⟩)

/-- A command port. -/
def State.port (s : State) (n : Nat) : CmdPort := s.cmd.ports.look CmdPort.reset n

def State.setPort (s : State) (n : Nat) (p : CmdPort) : State :=
  { s with cmd.ports := s.cmd.ports.put CmdPort.reset n p }

def State.portCfg (s : State) (n : Nat) : PortCfg := s.cfg.cmd.ports.look PortCfg.reset n

/-- A port with its one-second window brought up to the present second (R402). -/
def CmdPort.atSecond (p : CmdPort) (sec : Nat) : CmdPort :=
  if p.window = sec then p else { p with window := sec, authFails := 0, zeroReplies := 0 }

/-- Saturation of the port counts (Table 12.10). -/
def sat32 (a b : Nat) : Nat := satAdd 32 a b

/-- A silent discard is counted on the port. -/
def State.silent (s : State) (n : Nat) : State :=
  let p := s.port n
  (s.setPort n { p with nSilent := sat32 p.nSilent 1 }).count 0x0901 n 1

/-- The header and data octets of a reply (Table 12.2). -/
def Reply.body (r : Reply) : List Byte :=
  octetsOf 2 0xDA49 ++ octetsOf 2 (32 + 8 * r.data.length) ++ octetsOf 1 r.cls ++ octetsOf 1 r.op ++
    octetsOf 2 (r.tid.toNat * 16 + r.priv.toNat * 4 + r.flags.toNat) ++ octetsOf 4 r.seq.toNat ++ octetsOf 1 r.status.toNat ++
    octetsOf 1 r.detail ++ octetsOf 2 (8 * r.data.length) ++ wordsOctets r.data

/-- The octets of a reply with its tag, all zero where no key verified (R390). -/
def Reply.encode (r : Reply) : List Byte :=
  r.body ++ (match r.key with | some k => octetsOf 16 (tagOf k r.body).toNat | none => List.replicate 16 0)

/-- A reply frame on CP2 (R421): addresses, the command's VLAN tag, EtherType 0x88B5, the reply padded to 46 octets. -/
def cp2Reply (src dst : BitVec 48) (vlan : Option (BitVec 16)) (body : List Byte) : List Byte :=
  octetsOf 6 dst.toNat ++ octetsOf 6 src.toNat ++
    (match vlan with | some t => octetsOf 2 0x8100 ++ octetsOf 2 t.toNat | none => []) ++
    octetsOf 2 0x88B5 ++ body ++ List.replicate (46 - body.length) 0

/-- The reply ring of CP0 is 1, of CP1 is 3. -/
def replyRing (port : Nat) : Nat := if port = 0 then 1 else 3

def State.ring (s : State) (n : Nat) : Ring := s.host.rings.look (Ring.reset 4) n

def State.setRing (s : State) (n : Nat) (r : Ring) : State :=
  { s with host.rings := s.host.rings.put (Ring.reset 4) n r }

/-- A reply descriptor reserved for a command of a port is not needed any more (R442). -/
def State.unreserve (s : State) (n : Nat) : State :=
  let g := s.ring (replyRing n)
  s.setRing (replyRing n) { g with reserved := g.reserved - 1 }

/-- A packet of a port is done without a reply: CP3 lets go of it (R422), a reply descriptor is released (R442). -/
def State.releaseTo (s : State) (port : Nat) (ret : RetPath) : State :=
  match ret with
  | .ring => s.unreserve port
  | .eth _ _ => s
  | .craft _ => { s with host.craft.held := none }

/-- A reply is handed to its port (Table 12.4): to the reply ring unless that is disabled (R419), in a frame on CP2, or on the path of
CP3 the command came in on. -/
def State.deliver (s : State) (r : Reply) : State :=
  match r.ret with
  | .ring =>
    if flag (s.ring (replyRing r.port.val)).cfg 27 then
      { s with host.replies := s.host.replies ++ [(r.port.val, r.seq, r.encode)] }
    else s.unreserve r.port.val
  | .eth mac vlan => s.emit (.cp2Frame (cp2Reply s.host.craft.mgmtMac mac vlan r.encode))
  | .craft opt =>
    if opt then { s with host.craft.optReply := some r.encode }
    else State.emit { s with host.craft.spiReply := some r.encode } (.pin .craftAtn false)

/-- A reply goes out: at most 16 all-zero tags per port and second (R402). -/
def State.send (s : State) (r : Reply) : State :=
  let n := r.port.val
  let p := (s.port n).atSecond s.second
  match r.key with
  | some _ => (s.emit (.reply r)).deliver r
  | none =>
    if 16 ≤ p.zeroReplies then ((s.setPort n p).silent n).releaseTo n r.ret
    else ((s.setPort n { p with zeroReplies := p.zeroReplies + 1 }).emit (.reply r)).deliver r

/-- A command's packet is done without a reply. -/
def State.release (s : State) (c : Cmd) : State := s.releaseTo c.port.val c.ret

/-- An outcome is entered in the authentication log: the last 16 are kept (R413). -/
def State.logAuth (s : State) (port : Fin 4) (status : Nat) (seq : BitVec 32) (tid : BitVec 12) (priv : BitVec 2) : State :=
  { s with cmd.authLog := lastN 16 (s.cmd.authLog ++ [⟨s.tick.fn, port, BitVec.ofNat 8 status, seq, tid, priv⟩]) }

/-- The reply of a command (Table 12.2). -/
def Cmd.reply (c : Cmd) (cls op status detail : Nat) (data : List Word) : Reply :=
  { port := c.port, ret := c.ret, cls := cls, op := op, tid := c.tid, priv := c.priv,
    flags := BitVec.ofNat 2 (2 * c.barrier.toNat + c.quiet.toNat), seq := c.seq, status := BitVec.ofNat 8 status, detail := detail,
    data := data, key := c.key }

/-- A reply is cached: the last 64 of the port; more than 256 octets of data are cached as the header alone (R398). A packet of the
commissioning state, and one with SEQ 0, is not in the cache (log entry 55). -/
def State.cache (s : State) (c : Cmd) (r : Reply) : State :=
  if c.key.isNone || decide (c.seq = 0) then s else
  let n := c.port.val
  let p := s.port n
  let kept := if 32 < r.data.length then { r with data := [], detail := 1 } else r
  let e : CacheEntry := ⟨c.tid, c.slot, c.seq, c.tag, c.quiet && decide (r.status = 0), true, kept⟩
  s.setPort n { p with cache := lastN 64 (p.cache ++ [e]) }

/-- An opcode's place and form: class, opcode, lowest privilege, the mask of defined bits of each parameter word it reads (their number is
W), whether it is a change command (R377, R379, R401). -/
structure OpSpec where
  cls : Nat
  op : Nat
  priv : Nat
  masks : List Word
  change : Bool := false
  /-- The opcode reads as many words as PLEN gives (ECHO). -/
  anyWords : Bool := false
  /-- Words of the record it journals, 0 for none (R496, R497; log entry 13). -/
  jrn : Nat := 0
  /-- Type of its mirror message, 0 for none (Table 16.5). -/
  mirror : Nat := 0
  /-- What it does reaches the standby otherwise, so a standby refuses it (R520). -/
  active : Bool := false

/-- DETAIL of a parameter word (Table 12.3). -/
def wordDetail (i : Nat) : Nat := if i ≤ 252 then i else 0xFD

/-- Step 6: the claim (R401). -/
def State.claimFail (s : State) (c : Cmd) : Option (Nat × Nat) :=
  let r := s.tenant c.t
  firstFail [(decide (c.rank = 3), stNotPermitted, 0x01), (decide (tenMaxPriv r < c.rank), stNotPermitted, 0x02),
    (decide ((tenPorts r >>> c.port.val) % 2 = 0), stNotPermitted, 0x03), (decide (tenState r = 2), stNotPermitted, 0x04),
    (s.cmd.locked.getLsbD c.port.val && decide (c.rank ≠ SUP), stNotPermitted, 0x07)]

/-- The first word of a list with an index at or past `from` that is not zero. -/
def firstNonZero : Nat → List Word → Option Nat
  | _, [] => none
  | i, w :: ws => if w ≠ 0 then some i else firstNonZero (i + 1) ws

/-- The padding of the word PLEN ends in, as its value (R376). -/
def Cmd.padding (c : Cmd) : Nat := if c.plen % 8 = 0 then 0 else (c.word (c.plen / 8)).toNat % 2 ^ (64 - 8 * (c.plen % 8))

/-- Steps 8 and 9: privilege, BUSHEL, PLEN, padding, words beyond W (R401). -/
def Cmd.formFail (c : Cmd) (o : OpSpec) : Option (Nat × Nat) :=
  let used := ceilDiv c.plen 8
  let w := if o.anyWords then used else o.masks.length
  let pad := if c.padding ≠ 0 then some (c.plen / 8) else firstNonZero used (c.words.drop used)
  let beyond := firstNonZero w (c.words.drop w)
  firstFail [(decide (c.rank < o.priv), stNotPermitted, 0x05), (!o.change && decide (c.bushel ≠ 0), stBadParam, 0xFE),
    (decide (c.plen < 8 * o.masks.length), stBadLength, wordDetail (c.plen / 8)), (pad.isSome, stBadParam, wordDetail (pad.getD 0)),
    (beyond.isSome, stBadParam, wordDetail (beyond.getD 0))]

/-- The first parameter word at or past `from` with a reserved bit set (R4). -/
def Cmd.reservedFrom (c : Cmd) (masks : List Word) (start : Nat) : Option Nat :=
  (List.range masks.length).find? fun i => decide (start ≤ i) && decide (c.word i &&& ~~~(nth 0 masks i) ≠ 0)

/-- Every deferred slot of a port is taken (R405). -/
def State.slotsFull (s : State) (port : Fin 4) : Bool :=
  decide (32 ≤ (s.cmd.deferred.filter fun d => d.cmd.port = port).length)

/-- The least of two optional indexes. -/
def leastOf : Option Nat → Option Nat → Option Nat
  | none, b => b
  | a, none => a
  | some a, some b => some (Nat.min a b)

/-- The first parameter word at fault at or past `from`: a reserved bit set, or a value fault the opcode names as (failed, word). -/
def Cmd.faultFrom (c : Cmd) (masks : List Word) (bad : List (Bool × Nat)) (start : Nat) : Option Nat :=
  (bad.filter fun b => b.1 && decide (start ≤ b.2)).foldl (fun m b => leastOf m (some b.2)) (c.reservedFrom masks start)

/-- Pairing is enabled. -/
def State.paired (s : State) : Bool := flag s.cfg.pair 63

/-- The active sends changes to the standby: to one that is stale only while a synchronisation is under way (R519, R520). -/
def State.mirroring (s : State) : Bool :=
  s.paired && s.pair.token && s.pair.mateUp && (!s.pair.stale || s.pair.syncSeq.isSome) &&
    (s.pair.mode = .active || s.pair.mode = .handover)

/-- CRC-32 under R605 over words, most significant octet first. -/
def crc32 (ws : List Word) : Nat := crcOver 32 0x04C1_1DB7 0xFFFF_FFFF (wordsOctets ws)

/-- Types of mirror messages that are journalled (R519, R520): bushels, settings, tenants, timing, the image. -/
def mirrorKept (type : Nat) : Bool := [1, 2, 4, 5, 0x0A].contains type

/-- A mirror message is sent with the next sequence (R515); one that is journalled is the mirror generation (R520). -/
def State.mirror (s : State) (type : Nat) (body : List Word) : State :=
  let seq := (s.pair.mirrorSent + 1) % 2 ^ 40
  let head := mkWord [(63, 56, type), (55, 40, body.length), (39, 0, seq)]
  let ws := head :: body
  State.emit { s with pair.mirrorSent := seq, jr.mirrorGen := if mirrorKept type then seq else s.jr.mirrorGen } (.mate type (ws ++ [BitVec.ofNat 64 (crc32 ws)]))

/-- A wrapped key as it crosses the mate link (R395; log entry 46). -/
def mateWrap (t : Nat) (slot : Bool) (k : Key) : List Word :=
  takeWords 4 (octetsOf 32 (k ^^^ Config.mateStream (2 * t + slot.toNat)).toNat)

/-- A tenant's record, reserves and wrapped keys, as words (type 0x04 of Table 16.5; log entry 46). -/
def State.tenantBody (s : State) (t : Nat) : List Word :=
  let k := s.tenantKeys t
  let r := s.tenant t
  let wrap (slot : Bool) : List Word := match k.key slot with | some x => mateWrap t slot x | none => [0, 0, 0, 0]
  [mkWord [(17, 17, k.key1.isSome.toNat), (16, 16, k.key0.isSome.toNat), (11, 0, t)], r.1, r.2,
    mkWord [(63, 32, k.res0.toNat), (31, 0, k.res1.toNat)]] ++ wrap false ++ wrap true

/-- A reply waits for the standby to acknowledge the message sent last, 10 ms at most (R519). -/
def State.awaitMate (s : State) (c : Cmd) (cls op status detail : Nat) (data : List Word) : State :=
  { s with pair.waits := s.pair.waits ++ [⟨s.pair.mirrorSent, c, cls, op, status, detail, data, s.now + 80⟩] }

/-- The reserve of the slot a command verified with must be raised before the reply: the key and the new RES (R399). -/
def State.reserveDue (s : State) (c : Cmd) : Option (Key × BitVec 32) :=
  let k := s.tenantKeys c.t
  let r := reserveOf (k.res c.slot) c.seq.toNat
  match c.key with
  | none => none
  | some x => if k.key c.slot = some x ∧ c.seq ≠ 0 ∧ r ≠ k.res c.slot then some (x, r) else none

/-- A packet is answered BAD_LENGTH (Table 12.10). -/
def State.countBadLength (s : State) (n : Nat) : State :=
  (s.setPort n { s.port n with nBadLength := sat32 (s.port n).nBadLength 1 }).count 0x0903 n 1

/-- A command is answered: counts, log, cache, and the reply unless QUIET holds it back (R378, R398, R409). -/
def State.respond (s : State) (c : Cmd) (cls op status detail : Nat) (data : List Word) : State :=
  let r := c.reply cls op status detail data
  let s := if status = stBadLength then s.countBadLength c.port.val else s
  let s := if status = stNotPermitted then s.logAuth c.port status c.seq c.tid c.priv else s
  let s := if status = stInternal then s.raise { src := 0x0C5 } else s
  let s := s.cache c r
  if c.quiet && decide (status = stOk) then s.release c else s.send r

/-- A command is answered once its slot's reserve stands (R399); in a pair the standby holds the new reserve first (R519). -/
def State.answer (s : State) (c : Cmd) (cls op status detail : Nat) (data : List Word) : State :=
  match s.reserveDue c with
  | none => s.respond c cls op status detail data
  | some x =>
    let s := s.reserve c.t c.slot x.1 x.2
    if s.mirroring then
      let s := s.mirror 4 (s.tenantBody c.t)
      if s.pair.stale then s.respond c cls op status detail data else s.awaitMate c cls op status detail data
    else s.respond c cls op status detail data

/-- The form of a command that writes a setting, which is journalled as the words it carries and mirrored with a type (log entry 13). -/
def setting (cls op priv : Nat) (masks : List Word) (type : Nat := 2) : OpSpec :=
  { cls := cls, op := op, priv := priv, masks := masks, jrn := masks.length, mirror := type }

/-- The form of a command that only reads, or changes nothing that is kept. -/
def plainOp (cls op priv : Nat) (masks : List Word) : OpSpec := { cls := cls, op := op, priv := priv, masks := masks }

/-- The bushel accepted last, as words: its ID and scheduling data, then its changes (type 0x01 of Table 16.5; log entry 16). -/
def State.lastBushelWords (s : State) : List Word :=
  match s.bush.list.getLast? with
  | none => []
  | some b =>
    mkWord [(63, 48, b.id), (47, 0, b.s.toNat)] :: mkWord [(63, 63, b.scheduled.toNat), (62, 62, b.shed.toNat), (51, 48, b.l), (47, 0, b.c.toNat)] ::
      mkWord [(12, 12, b.direct.toNat), (11, 0, b.owner)] ::
      b.changes.flatMap fun c => mkWord [(63, 56, c.cls), (55, 48, c.op), (47, 40, c.words.length), (31, 0, c.obj)] :: c.words

/-- The body of the mirror message of a command that succeeded. -/
def State.mirrorBody (s : State) (c : Cmd) (o : OpSpec) : List Word :=
  if o.mirror = 1 then s.lastBushelWords else if o.mirror = 4 then s.tenantBody (fld (c.word 0) 11 0)
  else mkWord [(63, 56, o.cls), (55, 48, o.op)] :: c.words

/-- The unit is a standby, which refuses what is journalled or mirrored (R520). -/
def State.isStandby (s : State) : Bool :=
  s.paired && !s.pair.token && (s.pair.mode = .standby || s.pair.mode = .syncing)

/-- What paired operation says of a command that would be mirrored (R520, R522). -/
def State.pairFail (s : State) (o : OpSpec) : Option (Nat × Nat) :=
  if o.cls = 0x0C ∨ (o.mirror = 0 ∧ o.jrn = 0 ∧ !o.change ∧ !o.active) then none
  else if s.isStandby then some (stState, 0)
  else if (o.mirror ≠ 0 ∨ o.active) ∧ s.paired ∧ s.pair.mode = .handover then some (stBusy, 0)
  else none

/-- A command that succeeded is journalled, mirrored and answered; the reply of a mirrored one waits for the standby, 10 ms at most (R519). -/
def State.finish (s : State) (c : Cmd) (o : OpSpec) (status : Nat) (data : List Word) : State :=
  let s := if o.jrn = 0 then s else s.journal o.jrn
  if o.mirror ≠ 0 ∧ s.mirroring then
    let s := s.mirror o.mirror (s.mirrorBody c o)
    if s.pair.stale then s.answer c o.cls o.op status 0 data else s.awaitMate c o.cls o.op status 0 data
  else s.answer c o.cls o.op status 0 data

/-- What a command's handling answered is carried out: its record and reply, its refusal, or a deferred slot. Without room in the journal for its
record, or without a free slot, nothing is done (R405, R499). -/
def State.settle (s : State) (c : Cmd) (o : OpSpec) : Answer → State
  | .ok t data => if decide (o.jrn ≠ 0) && s.journalFull o.jrn then s.answer c o.cls o.op stNoResource 0xFF [] else t.finish c o stOk data
  | .pend t data => t.finish c o stPending data
  | .no st d t data => t.answer c o.cls o.op st d data
  | .later t w =>
    if s.slotsFull c.port then s.answer c o.cls o.op stBusy 0 []
    else { t with cmd.deferred := t.cmd.deferred ++ [⟨c, o.cls, o.op, w, none⟩] }

/-- A command is handled: steps 6 to 10 of R401 and its reply. `bad` lists the value faults of its words; `own` is the ownership check of its
class, judged once word 0 names an object (log entry 8); `h` is the rest of step 10 and the effect. -/
def State.runOp (s : State) (c : Cmd) (o : OpSpec) (bad : List (Bool × Nat)) (own : Option (Nat × Nat)) (h : State → Answer) :
    State :=
  match s.claimFail c with
  | some (st, d) => s.answer c o.cls o.op st d []
  | none =>
    match c.formFail o with
    | some (st, d) => s.answer c o.cls o.op st d []
    | none =>
      if c.faultFrom [] bad 0 = some 0 then s.answer c o.cls o.op stBadParam 0 []
      else
        match own with
        | some (st, d) => s.answer c o.cls o.op st d []
        | none =>
          match c.faultFrom o.masks bad 0 with
          | some i => s.answer c o.cls o.op stBadParam (wordDetail i) []
          | none =>
            match s.pairFail o with
            | some (st, d) => s.answer c o.cls o.op st d []
            | none => s.settle c o (h s)

/-- The answer of the deferred commands that wait for w is fixed (R405). -/
def State.fix (s : State) (w : Waits) (status : Nat) (data : List Word) : State :=
  { s with cmd.deferred := s.cmd.deferred.map fun d =>
      if d.waits = w ∧ d.answer = none then { d with answer := some (BitVec.ofNat 8 status, data) } else d }

/-- A meaning of a command packet: it runs on a well-formed packet (R376). -/
def packet (c : Cmd) (s : State) (f : State → State) : Host.Outcome State Fault Refusal :=
  if c.wf then .next (f s) else .fault .illFormed

end Sys2Proof.Machine
end

