-- ==== Sys2Proof/Machine/Lookup.lean ====
section
/-!
DEFINITION. Reading the configuration: lanes, ports, structure, what exists, what holds a lane or a position, what is powered.
-/
namespace Sys2Proof.Machine

/-! Lanes and ports -/

def State.lane (s : State) (n : Nat) : Lane := s.line.lanes.look Lane.reset n
def State.setLane (s : State) (n : Nat) (l : Lane) : State := { s with line.lanes := s.line.lanes.put Lane.reset n l }
def State.mate (s : State) (n : Nat) : MateLane := s.line.mates.look MateLane.reset n
def State.setMate (s : State) (n : Nat) (m : MateLane) : State := { s with line.mates := s.line.mates.put MateLane.reset n m }
def State.trib (s : State) (n : Nat) : TribPort := s.line.tribs.look TribPort.reset n
def State.setTrib (s : State) (n : Nat) (t : TribPort) : State := { s with line.tribs := s.line.tribs.put TribPort.reset n t }
def State.laneCfg (s : State) (n : Nat) : Word := s.cfg.line.lane.look laneCfgReset n
def State.mateCfg (s : State) (n : Nat) : Word := s.cfg.line.mate.look laneCfgReset n
def State.tribCfg (s : State) (n : Nat) : Half := s.cfg.line.trib.look tribCfgReset n

def rateOf (w : Word) : Nat := fld w 3 0
def sonetOf (w : Word) : Bool := flag w 16
def State.laneRate (s : State) (n : Nat) : Nat := rateOf (s.laneCfg n)
def State.laneSonet (s : State) (n : Nat) : Bool := sonetOf (s.laneCfg n)

/-- Rates 0x1 to 0x4 are SDH or SONET, 0x5 and 0x6 Ethernet (Table 3.2). -/
def rateSdh (r : Nat) : Bool := decide (1 ≤ r ∧ r ≤ 4)
def rateEth (r : Nat) : Bool := decide (r = 5 ∨ r = 6)
def State.laneSdh (s : State) (n : Nat) : Bool := rateSdh (s.laneRate n)
def State.laneEth (s : State) (n : Nat) : Bool := rateEth (s.laneRate n)

/-- N of STM-N for a rate code; 0 for the others. -/
def rateN (r : Nat) : Nat := if r = 1 then 1 else if r = 2 then 4 else if r = 3 then 16 else if r = 4 then 64 else 0

/-- MODE, N and TIMING of a tributary port. -/
def tribModeOf (w : Half) : Nat := fld w 2 0
def tribNOf (w : Half) : Nat := fld w 23 20
def tribTimingOf (w : Half) : Nat := fld w 11 10
def State.tribMode (s : State) (n : Nat) : Nat := tribModeOf (s.tribCfg n)
def State.tribN (s : State) (n : Nat) : Nat := tribNOf (s.tribCfg n)
def State.tribTiming (s : State) (n : Nat) : Nat := tribTimingOf (s.tribCfg n)

/-! Power (Table 17.1, R532 to R534) -/

/-- The device runs in Firkin, entered its entry window from there, or wakes into it. -/
def State.inFirkin (s : State) : Bool :=
  match s.pwr.mode with
  | .firkin => true
  | .entry => s.pwr.fromFirkin
  | .waking _ => decide (fld s.cfg.power.power 61 60 = 1)
  | _ => false

/-- Domains that only Gill turns off are on. -/
def State.awake (s : State) : Bool :=
  match s.pwr.mode with
  | .run => true
  | .firkin => true
  | .entry => true
  | .gill => false
  | .waking n => decide (n = 5)

/-- A line lane is powered: its quintet's domain is on, and in Firkin it is essential. -/
def State.laneOn (s : State) (n : Nat) : Bool :=
  s.awake && s.pwr.lineOn.getLsbD (n / 5) && (!s.inFirkin || s.pwr.ess.lanes.getLsbD n)

/-- A tributary port is powered. -/
def State.tribOn (s : State) (n : Nat) : Bool :=
  s.awake && s.pwr.tribOn && (!s.inFirkin || s.pwr.ess.ports.getLsbD n)

/-- A mate lane or channel is powered. -/
def State.mateOn (s : State) : Bool := s.awake && s.pwr.mateOn

/-- A queue runs (R326, R533). -/
def State.queueOn (s : State) (q : Nat) : Bool :=
  s.awake && s.pwr.pktOn && (!s.inFirkin || s.pwr.ess.queues.contains q)

/-! Structure (R171) -/

/-- The triple code of a lane or mate channel (index 40 to 43). -/
def BCfg.tcode (b : BCfg) (obj t : Nat) : Nat := fld (b.fab.struct.look 0 obj) (4 * t + 3) (4 * t)

def BCfg.tug (b : BCfg) (obj t : Nat) : BitVec 21 := b.fab.tug.look 0 (obj * 64 + t)

/-- The structure object of a line or mate EID. -/
def eidObj (e : Eid) : Nat := eidPort e

/-- Units of an object's image: 3N of a lane, 192 of a mate channel (R167, R170). -/
def State.units (s : State) (obj : Nat) : Nat := if obj < 40 then 3 * rateN (s.laneRate obj) else 192

def State.objSonet (s : State) (obj : Nat) : Bool := decide (obj < 40) && s.laneSonet obj

/-- An HO TYPE agrees with a triple code; `path` also admits the terminated paths of LO-structured triples (log entry 11). -/
def typeFits (typ code : Nat) (sonet path : Bool) : Bool :=
  if typ = 0 then decide (code = 1) || (decide (code = 0) && !sonet) || (path && decide (code = 3))
  else if typ = 1 then decide (code = 2) || (decide (code = 0) && sonet) || (path && decide (code = 4))
  else decide (code = typ + 3)

/-- The triples an HO EID covers. -/
def hoTriples (e : Eid) : List Nat :=
  (List.range (Nat.max 1 (typeUnits (hoType e) / 3))).map fun i => hoUnit e / 3 + i

/-- An HO EID exists on its object (R182). -/
def State.hoExists (s : State) (b : BCfg) (e : Eid) (path : Bool) : Bool :=
  let obj := eidObj e
  decide (hoUnit e + typeUnits (hoType e) ≤ s.units obj) &&
    (hoTriples e).all fun t => typeFits (hoType e) (b.tcode obj t) (s.objSonet obj) path

/-- The place g of a TU's TUG-2 in its triple (TUG_MAP), if the triple is LO-structured for it (R173, R179). -/
def BCfg.tugPlace (b : BCfg) (e : Eid) : Option Nat :=
  let code := b.tcode (eidObj e) (loUnit e / 3)
  if code = 3 then
    if loUnit e % 3 = 0 ∧ 1 ≤ loK e then some (7 * (loK e - 1) + (loL e - 1)) else none
  else if code = 4 then
    if loK e = 0 then some (7 * (loUnit e % 3) + (loL e - 1)) else none
  else none

/-- A TU exists on its object with a TU type (R182). -/
def State.tuExists (s : State) (b : BCfg) (e : Eid) (tut : Nat) : Bool :=
  decide (loUnit e < s.units (eidObj e)) &&
    (match b.tugPlace e with
     | none => false
     | some g => decide ((b.tug (eidObj e) (loUnit e / 3)).getLsbD g = decide (tut = 1)))

/-- QUEUE_REC of a queue and its fields. -/
def BCfg.queue (b : BCfg) (q : Nat) : QueueRec := b.queues.look QueueRec.reset q
def QueueRec.kind (r : QueueRec) : Nat := fld r.w0 63 60
def QueueRec.owner (r : QueueRec) : Nat := fld r.w0 59 48
def QueueRec.lane (r : QueueRec) : Nat := fld r.w0 47 42
def QueueRec.encap (r : QueueRec) : Bool := flag r.w0 41
def QueueRec.essential (r : QueueRec) : Bool := flag r.w0 40
def QueueRec.chan (r : QueueRec) : Nat := fld r.w0 39 28
def QueueRec.src (r : QueueRec) : Bool := flag r.w0 27
def QueueRec.width (r : QueueRec) : Nat := fld r.w1 63 58
def QueueRec.pkt (r : QueueRec) : Nat := fld r.w1 57 50
def QueueRec.pd (r : QueueRec) : Nat := fld r.w1 49 40
def QueueRec.jbMax (r : QueueRec) : Nat := fld r.w1 39 29
def QueueRec.fill (r : QueueRec) : Nat := fld r.w1 28 27
def QueueRec.fillOct (r : QueueRec) : Nat := fld r.w1 26 19
def QueueRec.rate (r : QueueRec) : Nat := fld r.w2 47 32
def QueueRec.cells (r : QueueRec) : Nat := fld r.w2 16 0

/-- A pseudowire queue (Table 10.1). -/
def QueueRec.pw (r : QueueRec) : Bool := decide (r.kind = 1 ∨ r.kind = 2)

/-- Octets per frame of a pseudowire queue: WIDTH, or 32 of a SAToP (R317). -/
def QueueRec.octets (r : QueueRec) : Nat := if r.kind = 1 then r.width else 32

/-- The channel the queue names (R315). -/
def QueueRec.usesChan (r : QueueRec) : Bool := decide (r.kind = 3) || (decide (r.kind = 4) && r.src)

/-! Bank framers and carriers (R121, R146, R154) -/

/-- An E1 EID has a bank framer bound by E1_FRAMER_BIND. -/
def State.framerBound (s : State) (e : Eid) : Bool := s.cfg.fram.bank.any fun x => decide (x.2 = some e)

/-- Framers of the bank in use: bound ones, and one per port in MODE 0b001 (R121). -/
def State.framersUsed (s : State) : Nat :=
  s.cfg.fram.bank.length + (s.cfg.line.trib.filter fun x => decide (tribModeOf x.2 = 1)).length

/-- A path EID is a GFP carrier, or a VCAT member. -/
def State.isCarrier (s : State) (e : Eid) : Bool :=
  s.cfg.fram.gfpBind.any fun x => decide (x.2 = some (.path e))
def State.isMember (s : State) (e : Eid) : Bool := s.cfg.fram.members.any fun x => x.2.contains e

/-- EIDs bound to the PIE by GFP_BIND or as VCAT members (R185). -/
def State.boundEids (s : State) : List Eid :=
  (s.cfg.fram.gfpBind.filterMap fun x => match x.2 with | some (.path e) => some e | _ => none) ++
    s.cfg.fram.members.flatMap (·.2)

/-! Existence of an EID (R182) -/

/-- The grain span of `w` at an EID exists as far as R182 goes: mode, structure, queue width (R314). -/
def State.eidExists (s : State) (b : BCfg) (e : Eid) (w : Nat) (path : Bool) : Bool :=
  match eidKind e with
  | .null => true
  | .test => true
  | .held => false
  | .trib =>
    let m := s.tribMode (eidTrib e)
    if eidLevel e = 1 then decide (m = 2) else decide (m = 1 ∨ m = 3)
  | .queue =>
    let r := b.queue (eidQid e)
    if eidLevel e = 1 then decide (r.kind = 2) else decide (r.kind = 1) && decide (gQueueK e + w ≤ r.width)
  | .mate =>
    if eidLevel e = 0 then s.hoExists b e path
    else if eidLevel e = 1 then s.tuExists b e (loTut e)
    else decide (b.tcode (eidObj e) (gTriple e) = 8)
  | .line =>
    if eidLevel e = 0 then s.hoExists b e path
    else if eidLevel e = 1 then s.tuExists b e (loTut e)
    else s.tuExists b e 0 && (decide (gMap e = 0) || s.framerBound (grainVc e))

/-- The span conditions that depend on the configuration: TS0 of a framed E1, C37.94 channels 1 to N (R124, R139, R184). -/
def State.spanOk (s : State) (e : Eid) (w : Nat) : Bool :=
  if eidLevelN e ≠ 2 then true else
  match eidKind e with
  | .line => decide (gTs e ≠ 0)
  | .trib =>
    let m := s.tribMode (eidTrib e)
    if m = 1 then decide (gPortK e ≠ 0)
    else if m = 3 then decide (1 ≤ gPortK e) && decide (gPortK e + w ≤ s.tribN (eidTrib e) + 1) else true
  | _ => true

/-- The span conditions that are form: timeslots to 31, port grains to 31, grains to 2,047 of a block (R184). -/
def spanForm (e : Eid) (w : Nat) : Bool :=
  if eidLevelN e ≠ 2 then true else
  match eidKind e with
  | .line => decide (gTs e + w ≤ 32)
  | .trib => decide (gPortK e + w ≤ 32)
  | .mate => decide (gGrain e + w ≤ 2048)
  | _ => true

/-! Records, pairs and groups -/

def BCfg.connAt (b : BCfg) (cid : Nat) : Conn := b.fab.conn.look Conn.free cid
def BCfg.conns (b : BCfg) : List (Nat × Conn) := b.fab.conn

/-- PG_CFG's fields. -/
def PgRec.leg0 (r : PgRec) : Eid := BitVec.ofNat 32 (fld r.w0 63 32)
def PgRec.leg1 (r : PgRec) : Eid := BitVec.ofNat 32 (fld r.w0 31 0)
def PgRec.leg (r : PgRec) (one : Bool) : Eid := if one then r.leg1 else r.leg0
def PgRec.owner (r : PgRec) : Nat := fld r.w1 63 52
def PgRec.width (r : PgRec) : Nat := fld r.w1 51 46
def PgRec.twoWay (r : PgRec) : Bool := flag r.w1 45
def PgRec.merge (r : PgRec) : Bool := flag r.w1 44
def PgRec.mon (r : PgRec) : Bool := flag r.w1 43
def PgRec.revert (r : PgRec) : Bool := flag r.w1 41
def PgRec.wtr (r : PgRec) : Nat := fld r.w1 39 28
def PgRec.holdoff (r : PgRec) : Nat := fld r.w1 27 18

def BCfg.pg (b : BCfg) (n : Nat) : Option PgRec := b.prot.pg.look none n
def BCfg.lp (b : BCfg) (n : Nat) : Option Word := b.prot.lp.look none n
def BCfg.pgs (b : BCfg) : List (Nat × PgRec) := b.prot.pg.filterMap fun x => x.2.map fun r => (x.1, r)
def BCfg.lps (b : BCfg) : List (Nat × Word) := b.prot.lp.filterMap fun x => x.2.map fun r => (x.1, r)

/-- LP_CFG's fields. -/
def lpWork (w : Word) : Nat := fld w 57 52
def lpProt (w : Word) : Nat := fld w 51 46
def lpArch (w : Word) : Bool := flag w 45
def lpBidir (w : Word) : Bool := flag w 44
def lpRevert (w : Word) : Bool := flag w 43
def lpSdEn (w : Word) : Bool := flag w 42
def lpWtr (w : Word) : Nat := fld w 39 28
def lpHoldoff (w : Word) : Nat := fld w 27 18

/-- The pair a lane belongs to. -/
def BCfg.pairOf (b : BCfg) (lane : Nat) : Option (Nat × Word) :=
  b.lps.find? fun x => decide (lpWork x.2 = lane ∨ lpProt x.2 = lane)

/-- The pair a lane is the protection lane of. -/
def BCfg.protOf (b : BCfg) (lane : Nat) : Option (Nat × Word) := b.lps.find? fun x => decide (lpProt x.2 = lane)

/-- The pair a lane is the working lane of. -/
def BCfg.workOf (b : BCfg) (lane : Nat) : Option (Nat × Word) := b.lps.find? fun x => decide (lpWork x.2 = lane)

/-- An EID lies on a line lane. -/
def eidOnLane (e : Eid) (lane : Nat) : Bool := decide (eidKind e = .line) && decide (eidPort e = lane)

/-- An EID lies on a tributary port. -/
def eidOnTrib (e : Eid) (p : Nat) : Bool := decide (eidKind e = .trib) && decide (eidTrib e = p)

/-- Some record satisfies a test at either end. -/
def BCfg.someEnd (b : BCfg) (f : Eid → Bool) : Bool := b.conns.any fun x => f x.2.a || f x.2.z

/-- Some group leg satisfies a test. -/
def BCfg.someLeg (b : BCfg) (f : Eid → Bool) : Bool := b.pgs.any fun x => f x.2.leg0 || f x.2.leg1

/-- The accepted configuration as R57, R71 and R78 read it: a lane or port is an endpoint of a connection record in the active configuration or
in that after accepted bushels (log entry 12). -/
def laneInRecord (b : BCfg) (lane : Nat) : Bool := b.someEnd fun e => eidOnLane e lane

def tribInRecord (b : BCfg) (p : Nat) : Bool := b.someEnd fun e => eidOnTrib e p

/-- A lane carries a GFP carrier or VCAT member (R57). -/
def State.laneBound (s : State) (lane : Nat) : Bool := s.boundEids.any fun e => eidOnLane e lane

/-- The E1 EID of a grain: the LO EID of its VC-12, or its port with K 0 (R126). -/
def e1EidOf (e : Eid) : Eid :=
  match eidKind e with
  | .line => grainVc e
  | .trib => setFld e 4 0 0
  | _ => e

/-- The FPn of a port value: quintets FP0 to FP7, mate FP8, PIE FP11, tributary FP12, test FP13 (Table 6.1). -/
def eidFp (e : Eid) : Nat :=
  match eidKind e with
  | .line => eidPort e / 5
  | .mate => 8
  | .queue => 11
  | .trib => 12
  | _ => 13

/-- PATH_OH of a path. -/
def State.pathOh (s : State) (e : Eid) : Word := s.cfg.sdh.pathOh.look pathOhReset e.toNat

def markPosOf (w : Word) : Nat := fld w 31 30

/-- The path whose marks a leg takes: itself, or the VC-12 that carries its grains (R293). -/
def markPath (e : Eid) : Eid := if eidLevelN e = 2 then grainVc e else e

/-- A leg is a mark leg: on a line lane, its path with MARK_POS set (R304). -/
def State.markLeg (s : State) (e : Eid) : Bool :=
  decide (eidKind e = .line) && decide (markPosOf (s.pathOh (markPath e)) ≠ 0)

/-- Limits of the profile in force (Tables 1.6, 1.7, 6.10). -/
def State.fathomBlocks (s : State) : Nat :=
  match s.ident.profile with | .broad => 32768 | .deep => 40960 | .packet => 24576
def State.tunCells (s : State) : Nat :=
  match s.ident.profile with | .broad => 131072 | .deep => 81920 | .packet => 196608
def State.loContexts (s : State) : Nat :=
  match s.ident.profile with | .broad => 1024 | .deep => 512 | .packet => 1024

end Sys2Proof.Machine
end

