-- ==== Sys2Proof/Machine/Change.lean ====
section
/-!
DEFINITION. What a change does to the configuration (R209, R220), the form of its records (R171, R183 to R186, R251), and which destinations a
configuration drives (R187, R188).
-/
namespace Sys2Proof.Machine

def Change.word (c : Change) (i : Nat) : Word := nth 0 c.words i

/-- The connection record a CONN_ADD or CONN_SET carries. -/
def Change.conn (c : Change) : Conn := ⟨c.word 1, c.word 2⟩
def Change.pgRec (c : Change) : PgRec := ⟨c.word 1, c.word 2⟩
def Change.queueRec (c : Change) : QueueRec := ⟨c.word 1, c.word 2, c.word 3⟩

/-- The protection lane of every pair takes the working lane's structure (R245). -/
def BCfg.copyProt (b : BCfg) : BCfg :=
  b.lps.foldl (fun b x =>
    let w := lpWork x.2
    let p := lpProt x.2
    { b with fab.struct := b.fab.struct.put 0 p (b.fab.struct.look 0 w),
             fab.tug := (List.range 64).foldl (fun t i => t.put 0 (p * 64 + i) (b.fab.tug.look 0 (w * 64 + i))) b.fab.tug }) b

/-- One change applied (R209): a class 0x03, 0x05, 0x06 or 0x07 change command (Table 12.9), or what SHED releases. A change of a queue or
group whose allocation SHED released builds it again (R323; log entry 17). -/
def BCfg.apply (b : BCfg) (c : Change) : BCfg :=
  if c.cls = 4 then
    (if c.op = 6 then { b with dormant := c.obj :: b.dormant.erase c.obj } else { b with bare := c.obj :: b.bare.erase c.obj })
  else if c.cls = 3 then
    if c.op = 1 ∨ c.op = 2 then { b with fab.conn := b.fab.conn.put Conn.free c.obj c.conn }
    else if c.op = 3 then
      { b with fab.conn := b.fab.conn.put Conn.free c.obj Conn.free, align.sym := b.align.sym.put symCfgReset c.obj symCfgReset }
    else if c.op = 7 then
      let lane := c.obj % 64
      let n := c.obj / 64
      { b with fab.struct := b.fab.struct.put 0 lane (setFld (b.fab.struct.look 0 lane) (64 * n + 63) (64 * n) (c.word 1).toNat) }
    else { b with fab.tug := b.fab.tug.put 0 c.obj (BitVec.ofNat 21 (c.word 1).toNat) }
  else if c.cls = 5 then
    if c.op = 1 ∨ c.op = 2 then { b with prot.pg := b.prot.pg.put none c.obj (some c.pgRec), bare := b.bare.erase c.obj }
    else if c.op = 3 then
      { b with bare := b.bare.erase c.obj, prot.pg := b.prot.pg.put none c.obj none, align.align := b.align.align.put alignCfgReset c.obj alignCfgReset }
    else if c.op = 7 then { b with prot.lp := b.prot.lp.put none c.obj (some (c.word 1)) }
    else { b with prot.lp := b.prot.lp.put none c.obj none }
  else if c.cls = 6 then
    if c.op = 1 then { b with align.align := b.align.align.put alignCfgReset c.obj (c.word 1) }
    else { b with align.sym := b.align.sym.put symCfgReset c.obj (c.word 1) }
  else
    if c.op = 3 then { b with queues := b.queues.put QueueRec.reset c.obj QueueRec.reset, dormant := b.dormant.erase c.obj }
    else { b with queues := b.queues.put QueueRec.reset c.obj c.queueRec, dormant := b.dormant.erase c.obj }

/-- A bushel's changes applied in order, then the copy of R245. -/
def BCfg.applyAll (b : BCfg) (cs : List Change) : BCfg := (cs.foldl BCfg.apply b).copyProt

/-- The configuration as it will stand after every accepted bushel that has not flipped (R221). -/
def State.view (s : State) : BCfg := (s.bush.list.filter Bushel.live).foldl (fun b x => b.applyAll x.changes) s.cfg.b

/-- The configuration a VIEW bit asks for. -/
def State.viewOf (s : State) (v : Bool) : BCfg := if v then s.view else s.cfg.b

/-! Form of records (R183 to R186, R251) -/

/-- What a line, mate or test end is at LO level: its TUT. -/
def loTutOf (e : Eid) : Nat := if eidKind e = .test then testShape e else loTut e

def hoTypeOf (e : Eid) : Nat := if eidKind e = .test then testShape e else hoType e

/-- An end that only a VC-12 mapping or a whole-E1 record has. -/
def wholeE1End (e : Eid) : Bool := decide (eidKind e = .trib ∨ eidKind e = .queue)

/-- The pairing of Table 6.8, for ends of one level neither of which is null. -/
def pairing (a z : Eid) : Bool :=
  if eidLevel a = 0 then decide (hoTypeOf a = hoTypeOf z)
  else if eidLevel a = 1 then
    if wholeE1End a || wholeE1End z then
      decide (eidKind a ≠ .test) && (wholeE1End a || decide (loTut a = 0)) &&
        (wholeE1End z || decide (eidKind z = .test) || decide (loTut z = 0))
    else decide (loTutOf a = loTutOf z)
  else true

/-- A connection record's form: R177 to R183, the form conditions of R184, R186, R209. -/
def Conn.formOk (r : Conn) : Bool :=
  let a := r.a
  let z := r.z
  let nullA := eidNull a
  let nullZ := eidNull z
  eidForm a && eidForm z && !(nullA && nullZ) && decide (1 ≤ r.width) && decide (r.width ≤ 32) &&
    (nullA || nullZ || (decide (eidLevel a = eidLevel z) && pairing a z)) &&
    (decide (r.level = 2) || decide (r.width = 1)) && spanForm a r.width && spanForm z r.width &&
    (!r.bidir || (!nullA && !nullZ && decide (eidKind a ≠ .test) && decide (eidKind z ≠ .test))) &&
    (!r.sym || r.bidir)

/-- The word of a connection command a form fault lies in: WIDTH, BIDIR and SYM in word 2, the rest in word 1. -/
def Conn.widthBad (r : Conn) : Bool := decide (r.width = 0 ∨ 32 < r.width)

/-- A group's form (R251). -/
def PgRec.legsOk (r : PgRec) : Bool :=
  let a := r.leg0
  let b := r.leg1
  eidForm a && eidForm b && !eidNull a && !eidNull b && decide (eidKind a ≠ .test) && decide (eidKind b ≠ .test) &&
    decide (a ≠ b) && decide (eidLevel a = eidLevel b) &&
    (if eidLevel a = 0 then decide (hoType a = hoType b)
     else if eidLevel a = 1 then (wholeE1End a && wholeE1End b) || (!wholeE1End a && !wholeE1End b && decide (loTut a = loTut b))
     else decide (r.width = 0 ∨ 32 < r.width) || (spanForm a r.width && spanForm b r.width))

def PgRec.widthOk (r : PgRec) : Bool :=
  decide (1 ≤ r.width) && decide (r.width ≤ 32) && (decide (eidLevel r.leg0 = 2) || decide (r.width = 1))

/-- Fields of a group that hold values the table rejects. -/
def PgRec.timersOk (r : PgRec) : Bool := decide (10 ≤ r.wtr) && decide (r.wtr ≤ 3600) && decide (r.holdoff ≤ 1000)

/-- LP_CFG's own form (R244). -/
def lpForm (w : Word) : Bool :=
  decide (lpWork w ≤ 39) && decide (lpProt w ≤ 39) && decide (lpWork w ≠ lpProt w) && !(lpArch w && !lpBidir w) &&
    decide (10 ≤ lpWtr w) && decide (lpWtr w ≤ 3600) && decide (lpHoldoff w ≤ 1000)

/-- A TCODE word's own form on an object: no held code, members of a VC-4-4c in fours and of a larger one in the whole word, and a code 0x7 only at
STM-64 or OC-192 (Table 6.2; log entry 141). -/
def State.tcodeForm (s : State) (obj : Nat) (w : Word) : Bool :=
  let code (m : Nat) : Nat := fld w (4 * m + 3) (4 * m)
  (List.range 16).all fun m =>
    decide (code m ≤ 8) && (decide (code m ≠ 8) || decide (40 ≤ obj)) && (decide (code m ≠ 3) || !s.objSonet obj) &&
      (decide (code m ≠ 5) || (List.range 4).all fun i => decide (code (4 * (m / 4) + i) = 5)) &&
      (decide (code m ≠ 6) || (List.range 16).all fun i => decide (code i = 6)) &&
      (decide (code m ≠ 7) || ((List.range 16).all (fun i => decide (code i = 7)) && decide (s.units obj = 192)))

/-- The conditions of Table 6.2 on a whole record: code 0x3 not on SONET; code 0x7 on all 64 triples, at STM-64 or OC-192. -/
def State.structOk (s : State) (b : BCfg) (obj : Nat) : Bool :=
  (List.range 64).all fun t =>
    let code := b.tcode obj t
    (decide (code ≠ 3) || !s.objSonet obj) &&
      (decide (code ≠ 7) || ((List.range 64).all (fun i => decide (b.tcode obj i = 7)) && decide (s.units obj = 192)))

/-- Words of a queue record, by kind (Table 10.1, QUEUE_REC): each word's fault. -/
def QueueRec.w0Bad (r : QueueRec) : Bool :=
  decide (r.kind = 0 ∨ 5 ≤ r.kind) ||
    (if r.lane = 63 then !(decide (r.kind = 4) && r.src) else decide (40 ≤ r.lane)) ||
    (r.encap && !r.pw) || (r.src && decide (r.kind ≠ 4)) || (decide (r.chan ≠ 0) && !r.usesChan)
def QueueRec.w1Bad (r : QueueRec) : Bool :=
  if r.pw then
    decide (r.width = 0 ∨ 32 < r.width) || (decide (r.kind = 2) && decide (r.width ≠ 1)) || decide (r.pkt = 0 ∨ 64 < r.pkt) ||
      decide (r.pd < 2 ∨ 1000 < r.pd) || decide (r.jbMax < 4 ∨ 1024 < r.jbMax) || decide (r.jbMax < r.pd + r.pkt) ||
      decide (r.fill = 3)
  else decide (r.w1 ≠ QueueRec.reset.w1)
def QueueRec.w2Bad (r : QueueRec) : Bool :=
  if r.kind = 3 ∨ r.kind = 4 then
    decide (r.cells = 0 ∨ 65536 < r.cells) || decide (10000 < r.rate) || (decide (r.kind = 4) && decide (r.rate ≠ 0))
  else decide (r.w2 ≠ QueueRec.reset.w2)

/-! Driven destinations (R185 to R188) -/

/-- An end of a record as a destination: the positions it drives. -/
def endPositions (e : Eid) (w : Nat) : List Nat := eidPositions e w

/-- The destinations one record drives: Z; with BIDIR the A, or both legs of a two-way group (R187, R253). -/
def Conn.driven (r : Conn) (b : BCfg) : List Nat :=
  endPositions r.z r.width ++
    (if !r.bidir then [] else
     match (if r.pgEn then b.pg r.pg else none) with
     | some g => if g.twoWay then endPositions g.leg0 r.width ++ endPositions g.leg1 r.width else endPositions r.a r.width
     | none => endPositions r.a r.width)

/-- The ends of a record; those of a protected one are both legs of its group and Z. -/
def Conn.ends (r : Conn) (b : BCfg) : List Eid :=
  match (if r.pgEn then b.pg r.pg else none) with
  | some g => [g.leg0, g.leg1, r.z]
  | none => [r.a, r.z]

/-- The VC-12s that carry a record's line grains (R185). -/
def Conn.grainVcs (r : Conn) (b : BCfg) : List Eid :=
  ((r.ends b).filter fun e => decide (eidKind e = .line) && decide (eidLevelN e = 2)).map grainVc

/-- The VC-12s the LO engine terminates for a record: those of its line grains, and the line or mate ends of VC-12 mappings (R185, Table 6.10). -/
def Conn.terminates (r : Conn) (b : BCfg) : List Eid :=
  r.grainVcs b ++
    (if (r.ends b).any wholeE1End then
      (r.ends b).filter fun e => decide (eidKind e = .line ∨ eidKind e = .mate) && decide (eidLevelN e = 1)
    else [])

/-- Egress positions held by grain terminations and by bindings (R185): no LO or HO record may be driven there. -/
def State.bindingPositions (s : State) (b : BCfg) : List Nat :=
  ((b.conns.flatMap fun x => x.2.grainVcs b).eraseDups ++ s.boundEids).flatMap fun e => eidPositions e 1

/-- A record would drive a position that another record or a binding drives (R187). -/
def State.drivenTwice (s : State) (b : BCfg) (cid : Nat) (r : Conn) : Bool :=
  let mine := r.driven b
  let terms := (r.grainVcs b).flatMap fun e => eidPositions e 1
  (b.conns.any fun x => (x.2.driven b).any terms.contains) ||
    (s.boundEids.any fun e => (eidPositions e 1).any terms.contains) ||
    (b.conns.any fun x => decide (x.1 ≠ cid) && (x.2.driven b).any mine.contains) ||
    (s.bindingPositions b).any mine.contains ||
    decide (mine.eraseDups.length < mine.length)

/-- A Z-null record holds its A for its owner (R188). -/
def heldClash (b : BCfg) (cid : Nat) (r : Conn) : Bool :=
  let pos (c : Conn) : List Nat := eidPositions c.a c.width
  b.conns.any fun x =>
    decide (x.1 ≠ cid) && decide (x.2.owner ≠ r.owner) &&
      ((eidNull x.2.z && ((pos r).any (pos x.2).contains || (r.bidir && (r.driven b).any (pos x.2).contains))) ||
       (eidNull r.z && ((pos x.2).any (pos r).contains || (x.2.driven b).any (pos r).contains)))

end Sys2Proof.Machine
end

