-- ==== Sys2Proof/Machine/Latency.lean ====
section
/-!
DEFINITION. Through-latency (R199, R200, R223) in quarters of a nanosecond, which makes every table value exact; allocations (R281, R322) and
tenants' use (R227 to R229).
-/
namespace Sys2Proof.Machine

/-- Nanoseconds in quarters. -/
def q4 (ns : Nat) : Int := 4 * (ns : Int)

/-- Ingress build-out of an end (Table 6.12). -/
def State.buildOut (s : State) (b : BCfg) (e : Eid) : Int :=
  match eidKind e with
  | .line =>
    if eidLevel e = 0 then q4 3780
    else if eidLevel e = 1 then (if loTut e = 0 then q4 32350 else q4 42240)
    else if gMap e = 0 then q4 64350 else q4 72160
  | .mate => q4 2000
  | .trib =>
    if eidLevel e = 1 then q4 28340
    else if s.tribTiming (eidTrib e) = 0 then q4 141140 else q4 4910
  | .queue => q4 ((b.queue (eidQid e)).pd * 125000 + 2000)
  | _ => 0

/-- Egress figure of an end (Table 6.12). -/
def State.egressFig (s : State) (b : BCfg) (e : Eid) : Int :=
  match eidKind e with
  | .line => s.buildOut b e
  | .mate => q4 2000
  | .trib =>
    if eidLevel e = 1 then (if s.tribTiming (eidTrib e) = 0 then q4 28340 else q4 247090)
    else if s.tribTiming (eidTrib e) = 0 then q4 1000 else q4 219750
  | .queue => q4 ((b.queue (eidQid e)).pkt * 125000 + 2000)
  | _ => 0

/-- Position of a grain span's first grain; a test end has none (R200). -/
def grainPos (e : Eid) : Option Nat :=
  match eidKind e with
  | .line => some (gTs e)
  | .trib => some (gPortK e)
  | .queue => some (gQueueK e)
  | .mate => some (gGrain e % 32)
  | _ => none

/-- Fabric term from a source end to a destination end (Table 6.13). -/
def fabricTerm (short : Bool) (a z : Eid) : Int :=
  if eidLevelN a = 0 then q4 4080
  else if eidLevelN a = 1 then
    if wholeE1End a && wholeE1End z then q4 4080
    else if wholeE1End a || wholeE1End z then q4 43890
    else if loTutOf (if eidKind a = .test then z else a) = 0 then q4 30000 else q4 38640
  else
    let d : Int := match grainPos a, grainPos z with
      | some ka, some kz => ((kz : Int) - (ka : Int)) * 15625
      | _, _ => 0
    q4 ((if short then 1 else 2) * 125000 + 8160) + d

/-- The hold J of a group leg by level: HO 2, LO 8, grains 16 frames (Table 9.1). -/
def holdJ (level : Nat) : Nat := if level = 0 then 2 else if level = 1 then 8 else 16

def BCfg.dmax (b : BCfg) (pg : Nat) : Nat := fld (b.align.align.look alignCfgReset pg) 15 8
def BCfg.alignModeOf (b : BCfg) (pg : Nat) : Nat := fld (b.align.align.look alignCfgReset pg) 1 0
def BCfg.symTag (b : BCfg) (cid : Nat) : Nat := fld (b.align.sym.look symCfgReset cid) 63 48
def BCfg.padMax (b : BCfg) (cid : Nat) : Nat := fld (b.align.sym.look symCfgReset cid) 47 40

/-- Fathom depth of a group (R285). -/
def BCfg.depth (b : BCfg) (pg : Nat) (level : Nat) : Int := q4 ((b.dmax pg + holdJ level) * 125000)

/-- An end of a symmetric record is its local end (R304). -/
def localEnd (e : Eid) : Bool := decide (eidKind e = .trib ∨ eidKind e = .queue)

/-- The larger of two terms. -/
def maxI (a b : Int) : Int := if a < b then b else a

/-- T of both directions of a record, before the max of SYM (R223, R308). -/
def State.rawT (s : State) (b : BCfg) (cid : Nat) (r : Conn) : Int × Int :=
  let g := if r.pgEn then b.pg r.pg else none
  let pad (dest : Eid) : Int := if r.sym && localEnd dest then q4 (b.padMax cid * 125000) else 0
  let leg (a : Eid) : Int := s.buildOut b a + fabricTerm r.short a r.z
  let az := match g with
    | some g => maxI (leg g.leg0) (leg g.leg1) + b.depth r.pg r.level + s.egressFig b r.z + pad r.z
    | none => leg r.a + s.egressFig b r.z + pad r.z
  let back (z : Eid) : Int := fabricTerm r.short r.z z + s.egressFig b z
  let za := match g with
    | some g => s.buildOut b r.z + (if g.twoWay then maxI (back g.leg0) (back g.leg1) else back r.a) + pad r.a
    | none => s.buildOut b r.z + back r.a + pad r.a
  (az, za)

/-- T of a record's two directions (R223). -/
def State.latency (s : State) (b : BCfg) (cid : Nat) (r : Conn) : Int × Int :=
  let t := s.rawT b cid r
  if r.sym then (maxI t.1 t.2, maxI t.1 t.2) else t

/-- T as the replies give it, in ns, rounded up (log entry 14). -/
def tNs (t : Int) : Nat := ((t + 3) / 4).toNat

/-- The direction of a record that breaks its contract: 0 A to Z, 1 Z to A, with T (R223). -/
def State.brokenDir (s : State) (b : BCfg) (cid : Nat) (r : Conn) : Option (Nat × Int) :=
  if r.latMax = 0 ∨ r.isFree ∨ eidNull r.a ∨ eidNull r.z then none
  else
    let t := s.latency b cid r
    let lim : Int := q4 (r.latMax * 1000)
    if lim < t.1 then some (0, t.1) else if r.bidir ∧ lim < t.2 then some (1, t.2) else none

/-! Allocations -/

/-- Octets per frame that a ring stores for a leg (Table 9.1). -/
def storedRate (e : Eid) (w : Nat) : Nat :=
  if eidLevelN e = 0 then
    let t := hoTypeOf e
    if t = 1 then 765 else 2349 * (typeUnits t / 3)
  else if eidLevelN e = 1 then (if decide (eidKind e = .line ∨ eidKind e = .mate ∨ eidKind e = .test) && decide (loTutOf e = 1) then 26
    else 35)
  else w

/-- Blocks of a ring of some frames, at least one (R281). -/
def ringBlocks (rate frames : Nat) : Nat := Nat.max 1 (ceilDiv (rate * frames) 512)

/-- Blocks of one ring of a group. -/
def BCfg.pgRing (b : BCfg) (pg : Nat) (r : PgRec) : Nat :=
  ringBlocks (storedRate r.leg0 r.width) (b.dmax pg + holdJ (eidLevelN r.leg0))

/-- Blocks of a record's pad allocation (R281). -/
def BCfg.padBlocks (b : BCfg) (cid : Nat) (r : Conn) : Nat :=
  if r.sym then ringBlocks (storedRate (if eidNull r.a then r.z else r.a) r.width) (b.padMax cid) else 0

/-- Tun cells of a queue (Table 10.4). -/
def QueueRec.tun (r : QueueRec) : Nat :=
  if r.pw then 1 + ceilDiv (2 * r.pkt * r.octets) 64 + ceilDiv (r.jbMax * r.octets) 64
  else if r.kind = 3 ∨ r.kind = 4 then 2 * r.cells else 0

/-- Bandwidth units of a record (R227, Table 7.4). -/
def Conn.cost (r : Conn) : Nat :=
  if eidNull r.a ∨ eidNull r.z then 0 else
  let one :=
    if r.level = 0 then
      let t := hoTypeOf (if eidKind r.a = .test then r.z else r.a)
      if t = 1 then 765 else 2349 * (typeUnits t / 3)
    else if r.level = 1 then
      if wholeE1End r.a || wholeE1End r.z then 34
      else if loTutOf (if eidKind r.a = .test then r.z else r.a) = 1 then 26 else 34
    else r.width
  if r.bidir then 2 * one else one

/-- The indexes two tables list. -/
def bothKeys {α β : Type} (x : List (Nat × α)) (y : List (Nat × β)) : List Nat := ((x.map (·.1)) ++ (y.map (·.1))).eraseDups

/-- The use of one tenant, charged for what accepted bushels add and still for what they release (R229): bandwidth, Fathom blocks, Tun
cells, records. `a` is the configuration as the active maps carry it, `v` that after the accepted bushels. -/
structure Use where
  band : Nat
  fathom : Nat
  tun : Nat
  recs : Nat
  deriving DecidableEq, Repr

def ifOwner (t owner n : Nat) : Nat := if owner = t then n else 0

/-- Fathom blocks of the VCAT members (R283, charged to tenant 0). -/
def State.memberBlocks (s : State) : Nat := (s.align.members.map fun x => x.2.length).sum

def State.use (s : State) (a v : BCfg) (t : Nat) : Use :=
  let cids := bothKeys a.conns v.conns
  let live (b : BCfg) (c : Nat) (n : Conn → Nat) : Nat := let r := b.connAt c; if r.isFree then 0 else ifOwner t r.owner (n r)
  let per (n : BCfg → Nat → Conn → Nat) : Nat := (cids.map fun c => Nat.max (live a c (n a c)) (live v c (n v c))).sum
  let grp (b : BCfg) (p : Nat) : Nat :=
    match b.pg p with
    | some r => if b.bare.contains p then 0 else ifOwner t r.owner (2 * b.pgRing p r)
    | none => 0
  let q (b : BCfg) (i : Nat) : Nat :=
    let r := b.queue i
    if b.dormant.contains i then 0 else ifOwner t r.owner r.tun
  { band := per fun _ _ r => r.cost,
    fathom := per (fun b c r => b.padBlocks c r) + ((bothKeys a.prot.pg v.prot.pg).map fun p => Nat.max (grp a p) (grp v p)).sum +
      (if t = 0 then s.memberBlocks else 0),
    tun := ((bothKeys a.queues v.queues).map fun i => Nat.max (q a i) (q v i)).sum,
    recs := per fun _ _ _ => 1 }

/-- Fathom blocks in use over all tenants. -/
def State.fathomUsed (s : State) (a v : BCfg) : Nat :=
  let grp (b : BCfg) (p : Nat) : Nat :=
    match b.pg p with | some r => if b.bare.contains p then 0 else 2 * b.pgRing p r | none => 0
  let pad (b : BCfg) (c : Nat) : Nat := let r := b.connAt c; if r.isFree then 0 else b.padBlocks c r
  ((bothKeys a.prot.pg v.prot.pg).map fun p => Nat.max (grp a p) (grp v p)).sum +
    ((bothKeys a.conns v.conns).map fun c => Nat.max (pad a c) (pad v c)).sum + s.memberBlocks

/-- Tun cells in use over all tenants. -/
def State.tunUsed (s : State) (a v : BCfg) : Nat :=
  let q (b : BCfg) (i : Nat) : Nat := if b.dormant.contains i then 0 else (b.queue i).tun
  ((bothKeys a.queues v.queues).map fun i => Nat.max (q a i) (q v i)).sum

/-- The wire rate a queue reserves, as (octets of a packet, frames it spans) for a pseudowire (R324). -/
def QueueRec.packetOctets (r : QueueRec) : Nat := Nat.max 84 (r.pkt * r.octets + 88)

/-- A common multiple of 1 to 64: reservations add up exactly in bits per second times it. -/
def pktLcm : Nat := (List.range 64).foldl (fun a i => Nat.lcm a (i + 1)) 1

/-- A queue's reservation in bit/s, times pktLcm. -/
def QueueRec.reserved (r : QueueRec) : Nat :=
  if r.pw then 64000 * r.packetOctets * (pktLcm / Nat.max 1 r.pkt)
  else if r.kind = 3 then r.rate * 1000000 * pktLcm else 0

/-- The rate of an Ethernet lane in bit/s. -/
def State.laneBits (s : State) (n : Nat) : Nat := if s.laneRate n = 5 then 1000000000 else if s.laneRate n = 6 then 10000000000 else 0

/-- Reservations pass a lane's rate, or 40 Gbit/s in all (R324). -/
def State.reservationsPass (s : State) (b : BCfg) : Bool :=
  let of (n : Nat) : Nat := ((b.queues.filter fun x => decide (x.2.lane = n)).map fun x => x.2.reserved).sum
  ((List.range 40).any fun n => decide (0 < of n) && decide (s.laneBits n * pktLcm < of n)) ||
    decide (40000000000 * pktLcm < (b.queues.map fun x => x.2.reserved).sum)

end Sys2Proof.Machine
end

