-- ==== Sys2Proof/Machine/Commit.lean ====
section
/-!
DEFINITION. The checks of a commit (R189, R209, R212): each change's state rules, limits, quotas, contracts, scheduling, and acceptance.
-/
namespace Sys2Proof.Machine

/-! State rules of the change classes -/

/-- A source that is aligned to the frame (R23). -/
def State.shortSource (s : State) (e : Eid) : Bool :=
  match eidKind e with
  | .line => decide (gMap e = 0)
  | .trib => decide (s.tribTiming (eidTrib e) = 0) && (s.trib (eidTrib e)).aligned
  | _ => true

/-- An end names the protection lane of a pair (R245). -/
def onProtLane (b : BCfg) (e : Eid) : Bool := decide (eidKind e = .line) && (b.protOf (eidPort e)).isSome

/-- The conditions of a symmetric record (R304). -/
def State.symOk (s : State) (b : BCfg) (cid : Nat) (r : Conn) : Bool :=
  let lineEnd (e : Eid) : Bool := decide (eidKind e = .line)
  let aLine := lineEnd r.a || r.pgEn
  let zLine := lineEnd r.z
  let loc := if aLine then r.z else r.a
  let legs := if aLine then
      (match (if r.pgEn then b.pg r.pg else none) with | some g => [g.leg0, g.leg1] | none => [r.a])
    else [r.z]
  (aLine != zLine) && localEnd loc && legs.any s.markLeg && decide (b.symTag cid ≠ 0)

/-- The grain records on one VC-12 agree in MAP (R184). -/
def mapsAgree (b : BCfg) (r : Conn) : Bool :=
  ((r.ends b).filter fun e => decide (eidKind e = .line) && decide (eidLevelN e = 2)).all fun e =>
    b.conns.all fun x => (x.2.ends b).all fun f =>
      !(decide (eidKind f = .line) && decide (eidLevelN f = 2) && decide (grainVc f = grainVc e)) || decide (gMap f = gMap e)

/-- A generator instance already named by another EID (R197). -/
def generatorClash (b : BCfg) (cid : Nat) (r : Conn) : Bool :=
  decide (eidKind r.a = .test) && b.conns.any fun x =>
    decide (x.1 ≠ cid) && decide (eidKind x.2.a = .test) && decide (testInst x.2.a = testInst r.a) && decide (x.2.a ≠ r.a)

/-- Group rules of a record with PG_EN (R186, R252): true when broken. -/
def groupBad (bf : BCfg) (r : Conn) : Bool :=
  r.pgEn && (match bf.pg r.pg with
    | none => true
    | some g => (decide (r.a ≠ g.leg0) && decide (r.a ≠ g.leg1)) || decide (r.width ≠ g.width) || (r.bidir && !g.twoWay))

/-- Two records carry one group's return direction (R253). -/
def returnTwice (bf : BCfg) (cid : Nat) (r : Conn) : Bool :=
  r.pgEn && r.bidir && bf.conns.any fun x => decide (x.1 ≠ cid) && x.2.pgEn && x.2.bidir && decide (x.2.pg = r.pg)

/-- Steps 3 to 5 of R189 for a record: the status that fails. `b` stands before the change, `bf` after the bushel; only the last change of a
record is judged against `bf`. -/
def State.connFail (s : State) (b bf : BCfg) (cid : Nat) (r : Conn) (last : Bool) : Option Nat :=
  let ends := [r.a, r.z].filter fun e => !eidNull e
  if ends.any (fun e => !s.eidExists b e r.width false || onProtLane b e) ||
      (last && (!mapsAgree bf r || groupBad bf r || generatorClash bf cid r || (r.sym && !s.symOk bf cid r))) ||
      (decide (r.level = 2) && r.short && ((!r.pgEn && !eidNull r.a && !s.shortSource r.a) || (r.bidir && !s.shortSource r.z))) then some stState
  else if ends.any fun e => !s.spanOk e r.width then some stBadParam
  else if last && (s.drivenTwice bf cid r || heldClash bf cid r || returnTwice bf cid r) then some stBlocked
  else none

/-- A configuration less the records and groups that a bushel deletes. -/
def BCfg.less (b : BCfg) (cs : List Change) : BCfg :=
  let gone (cls n : Nat) : Bool := cs.any fun c => decide (c.cls = cls) && decide (c.op = 3) && decide (c.obj = n)
  { b with fab.conn := b.fab.conn.filter (fun x => !gone 3 x.1), prot.pg := b.prot.pg.filter (fun x => !gone 5 x.1) }

/-- A triple of an object carries something that keeps its structure (R172). -/
def State.tripleHeld (s : State) (b : BCfg) (obj t : Nat) : Bool :=
  let here (e : Eid) : Bool :=
    decide (eidKind e = .line ∨ eidKind e = .mate) && decide (eidPort e = obj) &&
      (if eidLevelN e = 0 then (hoTriples e).contains t
       else if eidKind e = .mate ∧ eidLevelN e = 2 then decide (gTriple e = t) else decide (loUnit e / 3 = t))
  b.someEnd here || b.someLeg here || s.boundEids.any here || (b.pairOf obj).isSome

/-- STRUCT_SET and TUG_SET at commit (log entry 141). `b` stands before the change, `b'` after it, `bf` after the bushel of the changes `cs`. -/
def State.structFail (s : State) (b b' bf : BCfg) (cs : List Change) (obj : Nat) : Option Nat :=
  let changed := (List.range 64).filter fun t => decide (b.tcode obj t ≠ b'.tcode obj t ∨ b.tug obj t ≠ b'.tug obj t)
  if !s.structOk bf obj then some stBadParam
  else if (b.protOf obj).isSome || changed.any (s.tripleHeld (b.less cs) obj) then some stState else none

/-- A lane carries a record's end, a group leg, a GFP carrier, a VCAT member or a Fathom-aligned path (R244). -/
def State.laneCarries (s : State) (b : BCfg) (lane : Nat) : Bool :=
  b.someEnd (fun e => eidOnLane e lane) || b.someLeg (fun e => eidOnLane e lane) || s.laneBound lane

/-- LP_SET at commit (R244). -/
def State.lpFail (s : State) (b bf : BCfg) (n : Nat) (w : Word) : Option Nat :=
  let wk := lpWork w
  let pr := lpProt w
  let other := b.lps.any fun x => decide (x.1 ≠ n) && [lpWork x.2, lpProt x.2].any fun l => decide (l = wk ∨ l = pr)
  let leaving : Bool := match b.lp n with
    | none => false
    | some old => [lpWork old, lpProt old].any fun l => decide (l ≠ wk) && decide (l ≠ pr) && s.laneCarries bf l
  if s.laneRate wk ≠ s.laneRate pr ∨ s.laneSonet wk ≠ s.laneSonet pr ∨ !s.laneSdh wk ∨ !s.laneSdh pr ∨ other ∨
      s.laneCarries bf pr ∨ leaving then some stState
  else none

/-- A group at commit (R251, R293). -/
def State.pgFail (s : State) (b : BCfg) (r : PgRec) : Option Nat :=
  let legs := [r.leg0, r.leg1]
  if legs.any (fun e => !s.eidExists b e r.width false || onProtLane b e) then some stState
  else if legs.any (fun e => !s.spanOk e r.width) then some stBadParam else none

/-- ALIGN_SET at commit: marks only, on legs that have none (R293). -/
def State.alignFail (s : State) (b : BCfg) (pg : Nat) (w : Word) : Option Nat :=
  match b.pg pg with
  | none => none
  | some r =>
    if fld w 1 0 = 2 ∧ [r.leg0, r.leg1].any fun e => decide (eidKind e = .queue) || decide (markPosOf (s.pathOh (markPath e)) = 0) then
      some stState
    else none

/-- A record, group leg or forwarding entry names a queue (R315). -/
def State.queueNamed (s : State) (b : BCfg) (q : Nat) : Bool :=
  let here (e : Eid) : Bool := decide (eidKind e = .queue) && decide (eidQid e = q)
  b.someEnd here || b.someLeg here || s.cfg.pie.fwd.any fun x => flag x.2 63 && decide (fld x.2 15 0 = q)

def State.psn (s : State) (lane : Nat) : PsnRec := s.cfg.pie.psn.look PsnRec.reset lane

/-- A queue at commit (R315). -/
def State.queueFail (s : State) (b bf : BCfg) (q : Nat) (r : QueueRec) : Option Nat :=
  if (decide (r.lane ≠ 63) && !s.laneEth r.lane) ||
      (r.usesChan && bf.queues.any fun x => decide (x.1 ≠ q) && x.2.usesChan && decide (x.2.chan = r.chan)) ||
      (decide ((b.queue q).kind ≠ 0) && decide ((b.queue q).kind ≠ r.kind) && s.queueNamed bf q) ||
      (r.encap && decide (65535 - fld (s.psn r.lane).w1 31 16 < q)) then some stState
  else none

/-- A change at commit: R209, steps 3 to 5 of R189, the state rules of its class. -/
def State.changeFail (s : State) (b bf : BCfg) (cs : List Change) (c : Change) (last : Bool) : Option Nat :=
  if c.cls = 3 then
    if c.op = 1 then (if (b.connAt c.obj).isFree then s.connFail b bf c.obj c.conn last else some stState)
    else if c.op = 2 then (if (b.connAt c.obj).isFree then some stState else s.connFail b bf c.obj c.conn last)
    else if c.op = 3 then (if (b.connAt c.obj).isFree then some stState else none)
    else s.structFail b (b.apply c) bf cs (if c.op = 7 then c.obj % 64 else c.obj / 64)
  else if c.cls = 5 then
    if c.op = 1 then (if (b.pg c.obj).isSome then some stState else s.pgFail b c.pgRec)
    else if c.op = 2 then (if (b.pg c.obj).isNone then some stState else s.pgFail b c.pgRec)
    else if c.op = 3 then
      (if (b.pg c.obj).isNone || bf.conns.any fun x => x.2.pgEn && decide (x.2.pg = c.obj) then some stState else none)
    else if c.op = 7 then s.lpFail b bf c.obj (c.word 1)
    else if (b.lp c.obj).isNone then some stState else none
  else if c.cls = 6 then
    if c.op = 1 then s.alignFail b c.obj (c.word 1)
    else
      let r := bf.connAt c.obj
      if !r.isFree && r.sym && !s.symOk bf c.obj r then some stState else none
  else if c.op = 1 then (if (b.queue c.obj).kind ≠ 0 then some stState else s.queueFail b bf c.obj c.queueRec)
  else if c.op = 2 then (if (b.queue c.obj).kind = 0 then some stState else s.queueFail b bf c.obj c.queueRec)
  else if (b.queue c.obj).kind = 0 || s.queueNamed bf c.obj then some stState else none

/-- What a changed group breaks of records that name it, though the bushel leaves them alone (R186, R187, R188, R252, R304). -/
def State.brokenByGroup (s : State) (bf : BCfg) (c : Change) : Option Nat :=
  if c.cls ≠ 5 ∨ c.op ≠ 2 then none
  else
    let named := bf.conns.filter fun x => x.2.pgEn && decide (x.2.pg = c.obj)
    if named.any fun x => groupBad bf x.2 || (x.2.sym && !s.symOk bf x.1 x.2) then some stState
    else if named.any fun x => s.drivenTwice bf x.1 x.2 || heldClash bf x.1 x.2 then some stBlocked
    else none

/-! Limits (R9, R21, Table 6.10, R283, R322, R324) -/

/-- Quarter words per frame that an end takes on FP11 or FP13 (§6.7). -/
def quarterWords (e : Eid) (w : Nat) : Nat :=
  if eidLevelN e = 0 then 396 * typeUnits (hoTypeOf e)
  else if eidLevelN e = 1 then (if wholeE1End e then 20 else if loTutOf e = 1 then 14 else 18)
  else 4 * ceilDiv ((match grainPos e with | some k => k % 8 | none => 0) + w) 8

/-- Source positions a configuration reads, each with the destinations it feeds there. Group outputs are numbered apart (R252). -/
def sourceUses (b : BCfg) : List (Nat × Nat) :=
  b.conns.flatMap fun x =>
    let r := x.2
    let src := if r.pgEn then [2 ^ 48 + r.pg] else if eidKind r.a = .test then [2 ^ 49 + testInst r.a] else eidPositions r.a r.width
    let two := match (if r.pgEn then b.pg r.pg else none) with | some g => g.twoWay | none => false
    (if eidNull r.z then [] else src.map fun p => (p * 4 + r.level, 1)) ++
      (if r.bidir then (eidPositions r.z r.width).map fun p => (p * 4 + r.level, if two then 2 else 1) else [])

/-- Some source feeds more destinations than its level allows. -/
def fanOutPass (b : BCfg) : Bool :=
  let us := sourceUses b
  (us.map (·.1)).eraseDups.any fun p =>
    decide ((if p % 4 = 2 then 32 else 8) < ((us.filter fun u => decide (u.1 = p)).map (·.2)).sum)

/-- The LO termination contexts that either of two configurations takes. -/
def contexts (a v : BCfg) : Nat :=
  ((bothKeys a.fab.struct v.fab.struct).map fun o =>
    ((List.range 64).filter fun t => [a.tcode o t, v.tcode o t].any fun c => decide (c = 3 ∨ c = 4)).length).sum

/-- Words of one fabric port, in one direction: the ends a test picks, each EID once. -/
def portWords (ends : List (Eid × Nat)) : Nat := (ends.eraseDups.map fun x => quarterWords x.1 x.2).sum

/-- Some limit of the profile is passed. -/
def State.limitPassed (s : State) (a v : BCfg) : Bool :=
  let srcs := v.conns.map (fun x => (x.2.a, x.2.width)) ++ (v.conns.filter (·.2.bidir)).map (fun x => (x.2.z, x.2.width))
  let dsts := v.conns.map (fun x => (x.2.z, x.2.width)) ++ (v.conns.filter (·.2.bidir)).map (fun x => (x.2.a, x.2.width))
  let pick (k : EidKind) (l : List (Eid × Nat)) : List (Eid × Nat) := l.filter fun x => decide (eidKind x.1 = k)
  let bound := s.boundEids.map fun e => (e, 1)
  let grains (l : List (Eid × Nat)) : Nat := ((l.filter fun x => decide (eidLevelN x.1 = 2)).map (·.2)).sum
  decide (s.loContexts < contexts a v) ||
    decide (8192 < (v.conns.flatMap (·.2.terminates v)).eraseDups.length) ||
    decide (262144 < grains dsts) || decide (262144 < grains srcs.eraseDups) || fanOutPass v ||
    decide (4 * 97200 < portWords (pick .queue srcs) + portWords bound) ||
    decide (4 * 97200 < portWords (pick .queue dsts) + portWords bound) ||
    decide (4 * 97200 < portWords (pick .test srcs)) || decide (4 * 97200 < portWords (pick .test dsts)) ||
    decide (s.fathomBlocks < s.fathomUsed a v) || decide (s.tunCells < s.tunUsed a v) || s.reservationsPass v

/-! Quotas (R230, R231) -/

def tenBw (r : Rec2) : Nat := fld r.1 51 28
def tenFathom (r : Rec2) : Nat := fld r.1 27 12
def tenTun (r : Rec2) : Nat := fld r.2 63 46
def tenRecs (r : Rec2) : Nat := fld r.2 45 26

/-- Use and quota of the four resources, in the order of Table 7.8. -/
def Use.list (u : Use) : List Nat := [u.band, u.fathom, u.tun, u.recs]
def quotas (r : Rec2) : List Nat := [tenBw r, tenFathom r, tenTun r, tenRecs r]

/-- A tenant's use passes a quota of its own. -/
def overNow (u : Use) (r : Rec2) : Bool := (u.list.zip (quotas r)).any fun x => decide (x.2 < x.1)

/-- The resource a configuration would raise against R230 or R231, with the use: `old` is the use now. -/
def quotaFail (r : Rec2) (marked : Bool) (old new : Use) : Option (Nat × Nat) :=
  ((List.range 4).find? fun i =>
    let o := nth 0 old.list i
    let n := nth 0 new.list i
    decide (o < n) && (marked || decide (nth 0 (quotas r) i < n))).map fun i => (i, nth 0 new.list i)

/-- Owners of what a list of changes names, in both configurations. -/
def ownersOf (cs : List Change) (v vf : BCfg) : List Nat :=
  (cs.flatMap fun c =>
    if c.cls = 3 then
      (if c.op ≤ 3 then [(v.connAt c.obj).owner, (vf.connAt c.obj).owner] else [])
    else if c.cls = 5 then
      (if c.op ≤ 3 then ([v.pg c.obj, vf.pg c.obj].filterMap id).map PgRec.owner else [])
    else if c.cls = 6 then
      (if c.op = 1 then ([v.pg c.obj, vf.pg c.obj].filterMap id).map PgRec.owner else [(vf.connAt c.obj).owner])
    else [(v.queue c.obj).owner, (vf.queue c.obj).owner]).eraseDups.filter fun t => decide (t ≠ 0)

/-! The outcome of the checks -/

/-- A refused commit: status, CID, change index, word 1 of the reply (Table 7.8). -/
structure CommitFail where
  status : Nat
  cid : Nat := 0xFFFF_FFFF
  index : Nat := 0xFFFF
  w1 : Word := 0
  deriving DecidableEq, Repr

/-- The CID a change is tied to. -/
def Change.cid (c : Change) : Nat := if c.cls = 3 ∧ c.op ≤ 3 then c.obj else 0xFFFF_FFFF

/-- The index of the first change after which a test of the configuration holds (R212). -/
def firstAfter (v : BCfg) (cs : List Change) (bad : BCfg → Bool) : Nat :=
  ((List.range cs.length).find? fun i => bad (v.applyAll (cs.take (i + 1)))).getD (cs.length - 1)

/-- Steps 3 to 6 of R189 for each change in order (step 3 of R212): the first failure decides, be it a rule of the change or a limit that is
passed after it. A limit that a later change of an otherwise sound bushel relieves does not count (log entry 143). -/
def State.changesFail (s : State) (v vf : BCfg) (cs : List Change) : Option CommitFail :=
  let passes (k : Nat) : Bool := s.limitPassed s.cfg.b (v.applyAll (cs.take (k + 1)))
  let fails (i : Nat) (st : Nat) : Option CommitFail := some { status := st, cid := (nth ⟨0, 0, 0, []⟩ cs i).cid, index := i }
  let rules := (List.range cs.length).findSome? fun i =>
    let c := nth ⟨0, 0, 0, []⟩ cs i
    let b := (cs.take i).foldl BCfg.apply v
    let last := !(cs.drop (i + 1)).any fun x => decide (x.cls = c.cls) && decide (x.cid = c.cid)
    match s.changeFail b vf cs c last with
    | some st => some (i, st)
    | none => (s.brokenByGroup vf c).map fun st => (i, st)
  match rules with
  | some (i, st) =>
    match (List.range i).find? passes with
    | some k => fails k stNoResource
    | none => fails i st
  | none => if s.limitPassed s.cfg.b vf then fails (firstAfter v cs (s.limitPassed s.cfg.b)) stNoResource else none

/-- Step 4 of R212. -/
def State.quotasFail (s : State) (v vf : BCfg) (cs : List Change) : Option CommitFail :=
  let a := s.cfg.b
  let fails (x : BCfg) (t : Nat) : Option (Nat × Nat) :=
    quotaFail (s.tenant t) (s.bush.overQuota.look false t) (s.use a v t) (s.use a x t)
  (ownersOf cs v vf).findSome? fun t =>
    (fails vf t).map fun r =>
      let i := firstAfter v cs fun x => (fails x t).isSome
      { status := stQuota, cid := (nth ⟨0, 0, 0, []⟩ cs i).cid, index := i,
        w1 := mkWord [(63, 60, r.1), (59, 48, t), (31, 0, r.2)] }

/-- Step 5 of R212: contracts of records the bushel adds, changes or touches through their terms (R224). -/
def State.contractsFail (s : State) (v vf : BCfg) (cs : List Change) : Option CommitFail :=
  let touched (cid : Nat) (r : Conn) : Bool :=
    cs.any (fun c => decide (c.cls = 3) && decide (c.op ≤ 2) && decide (c.obj = cid)) ||
      decide (s.latency v cid (v.connAt cid) ≠ s.latency vf cid r)
  (vf.conns.findSome? fun x =>
    if touched x.1 x.2 then (s.brokenDir vf x.1 x.2).map fun d => (x.1, d) else none).map fun x =>
      let own := (List.range cs.length).find? fun i => decide ((nth ⟨0, 0, 0, []⟩ cs i).cid = x.1)
      let i := own.getD (firstAfter v cs fun b => (s.brokenDir b x.1 (b.connAt x.1)).isSome)
      { status := stContract, cid := x.1, index := i, w1 := mkWord [(63, 63, x.2.1), (31, 0, tNs x.2.2)] }

/-! Scheduling (R33, R34, R46 to R48, R214, R215) -/

/-- What a change holds until its bushel flips (R214), as (kind, number). -/
def Change.holds (b : BCfg) (c : Change) : List (Nat × Nat) :=
  if c.cls = 4 then [(if c.op = 6 then 5 else 3, c.obj)]
  else if c.cls = 3 then
    if c.op ≤ 3 then
      let old := b.connAt c.obj
      let new := if c.op = 3 then Conn.free else c.conn
      let named (r : Conn) : List (Nat × Nat) :=
        (r.driven b).map (fun p => (1, p)) ++ (if r.pgEn then [(3, r.pg)] else []) ++
          ([r.a, r.z].filter fun e => decide (eidKind e = .queue)).map fun e => (5, eidQid e)
      (0, c.obj) :: ((if old.isFree then [] else named old) ++ (if new.isFree then [] else named new))
    else if c.op = 7 then
      let b' := b.apply c
      let obj := c.obj % 64
      ((List.range 64).filter fun t => decide (b.tcode obj t ≠ b'.tcode obj t)).map fun t => (2, obj * 64 + t)
    else [(2, c.obj)]
  else if c.cls = 5 then (if c.op ≤ 3 then [(3, c.obj)] else [(4, c.obj)])
  else if c.cls = 6 then (if c.op = 1 then [(3, c.obj)] else [(0, c.obj)])
  else [(5, c.obj)]

/-- The CIDs, groups and queues that ANY has reserved in an open bushel (R236). -/
def Bushel.reserved (x : Bushel) : List (Nat × Nat) :=
  (x.changes.filter fun c => flag (c.word 0) 63).map fun c => (if c.cls = 3 then 0 else if c.cls = 5 then 3 else 5, c.obj)

/-- An accepted bushel that has not flipped holds something the changes touch (R214), or another open bushel has reserved it (R236). -/
def State.heldByOther (s : State) (v : BCfg) (cs : List Change) (id : Nat) : Bool :=
  let mine := cs.flatMap (Change.holds v)
  ((s.bush.list.filter Bushel.live).any fun x => (x.changes.flatMap (Change.holds s.cfg.b)).any mine.contains) ||
    (s.bush.list.filter fun x => decide (x.mode = .open_) && decide (x.id ≠ id)).any fun x => x.reserved.any mine.contains

/-- The load length (R33): one frame while the changes cannot fill a bank's slots; beyond that the compiler's placement decides, between 1 and
what the changes could need (log entry 15). -/
def State.loadLength (s : State) (n : Nat) : Nat × State :=
  let most := ceilDiv (Nat.min (16 * n) 16384) 4860
  if most ≤ 1 then (1, s) else
    let f := s.takeFree
    (1 + f.1.toNat % most, f.2)

/-- Bushels accepted for an immediate flip that have not begun to load. -/
def State.queuedNow (s : State) : List Bushel := s.bush.list.filter fun b => decide (b.mode = .queued)

/-- Pending scheduled bushels, restored ones among them (R213). -/
def State.scheduledNow (s : State) : List Bushel := s.bush.list.filter fun b => decide (b.mode = .pending ∨ b.mode = .restored)

/-- A bushel loads or has loaded. -/
def State.loaderBusy (s : State) : Bool := s.bush.list.any fun b => decide (b.mode = .loading ∨ b.mode = .loaded)

/-- Frames from now to the end of the copy-forward that runs or is due (R47): 0 when there is none. -/
def State.copyDue (s : State) : Nat :=
  let now := s.tick.fn
  let loader := (s.bush.list.filter fun b => decide (b.mode = .loading ∨ b.mode = .loaded)).foldl
    (fun m b => Nat.max m (fnAhead now b.flipFn + 7)) (s.tick.copyLeft - 1)
  (s.queuedNow).foldl (fun m b => if !b.direct then m + 1 + b.l + 7 else Nat.max m (fnAhead now b.flipFn + 7)) loader

/-- The next scheduled flip, as frames from now with its load length. -/
def State.nextScheduled (s : State) : Option (Nat × Nat) :=
  (s.bush.list.filter fun b => decide (b.mode = .pending)).foldl (fun m b =>
    let d := fnAhead s.tick.fn b.s
    match m with | none => some (d, b.l) | some x => if d < x.1 then some (d, b.l) else some x) none

/-- An immediate flip whose copy-forward ends in `fin` frames leaves the next scheduled bushel its load (R48). -/
def State.beforeScheduled (s : State) (fin : Nat) : Bool :=
  match s.nextScheduled with
  | none => true
  | some (d, l) => decide (fin + l + 2 ≤ d)

/-- R47 for a scheduled bushel with FN S and load length L. -/
def State.schedOk (s : State) (fnS : BitVec 48) (l : Nat) : Bool :=
  let d := fnAhead s.tick.fn fnS
  decide (l + 2 ≤ d) && decide (d ≤ 8388608) && decide (s.scheduledNow.length < 8) &&
    decide (s.copyDue + l + 2 ≤ d) &&
    (s.bush.list.filter fun b => decide (b.mode = .pending)).all fun b =>
      let d' := fnAhead s.tick.fn b.s
      if d' ≤ d then decide (d' + 9 + l ≤ d) else decide (d + 9 + b.l ≤ d')

/-- How a bushel would go: flip at once, queue, or wait for S (R34, R47, R48, R215). -/
inductive Slot where
  | now (flip : BitVec 48)
  | queue (pos : Nat)
  | at_ (s : BitVec 48)
  deriving DecidableEq, Repr

def State.slot (s : State) (scheduled : Bool) (fnS : BitVec 48) (l : Nat) : Option Slot :=
  if scheduled then (if s.schedOk fnS l then some (.at_ fnS) else none)
  else if s.tick.copyLeft = 0 && s.queuedNow.isEmpty && !s.loaderBusy && s.beforeScheduled (l + 8) then
    some (.now (fnAdd s.tick.fn (l + 1)))
  else
    let waiting := (s.queuedNow.filter fun b => !b.direct).length
    if waiting < 4 then some (.queue (waiting + 1)) else none

/-- Steps 3 to 6 of R212: what fails, or the load length and slot. -/
def State.commitChecks (s : State) (id : Nat) (cs : List Change) (scheduled : Bool) (fnS : BitVec 48) (l : Nat) : CommitFail ⊕ Slot :=
  let v := s.view
  let vf := v.applyAll cs
  match s.changesFail v vf cs with
  | some f => .inl f
  | none =>
    match s.quotasFail v vf cs with
    | some f => .inl f
    | none =>
      match s.contractsFail v vf cs with
      | some f => .inl f
      | none =>
        if s.heldByOther v cs id then .inl { status := stBusy }
        else
          match s.slot scheduled fnS l with
          | none => .inl { status := stBusy }
          | some x => .inr x

end Sys2Proof.Machine
end

