-- ==== Sys2Proof/Machine/Access.lean ====
section
/-!
DEFINITION. Reading and writing the state of pairs, groups, alignment, symmetric records, queues, paths, and events of bushels.
-/
namespace Sys2Proof.Machine

/-- The protection state of a group (true) or a line pair (false). -/
def State.protection (s : State) (group : Bool) (n : Nat) : Prot :=
  (if group then s.prot.groups else s.prot.pairs).look Prot.reset n

def State.setProtection (s : State) (group : Bool) (n : Nat) (p : Prot) : State :=
  if group then { s with prot.groups := s.prot.groups.put Prot.reset n p }
  else { s with prot.pairs := s.prot.pairs.put Prot.reset n p }

/-- The lane whose image the destinations of a lane read: that of its pair's selection, for a working lane (R246). -/
def State.lanePicked (s : State) (n : Nat) : Nat :=
  match s.cfg.b.workOf n with
  | some x => if (s.protection false x.1).sel then lpProt x.2 else n
  | none => n

/-- The path a line EID reads at present: that of the lane its pair selects (R247). -/
def State.seen (s : State) (e : Eid) : Eid :=
  if eidKind e = .line then setFld e 31 24 (s.lanePicked (eidPort e)) else e

/-- The path under which a path of a line lane is reported: none on the lane its pair does not select (R247). -/
def State.reportedAs (s : State) (e : Eid) : Option Eid :=
  let n := eidPort e
  match s.cfg.b.pairOf n with
  | none => some e
  | some x => if s.lanePicked (lpWork x.2) = n then some (setFld e 31 24 (lpWork x.2)) else none

def State.alignGroup (s : State) (pg : Nat) : AlignGroup := s.align.groups.look AlignGroup.reset pg
def State.setAlignGroup (s : State) (pg : Nat) (g : AlignGroup) : State :=
  { s with align.groups := s.align.groups.put AlignGroup.reset pg g }

def State.symRec (s : State) (cid : Nat) : SymRec := s.align.syms.look SymRec.reset cid
def State.setSymRec (s : State) (cid : Nat) (r : SymRec) : State :=
  { s with align.syms := s.align.syms.put SymRec.reset cid r }

def State.queue (s : State) (q : Nat) : Queue := s.pie.queues.look Queue.reset q
def State.setQueue (s : State) (q : Nat) (x : Queue) : State := { s with pie.queues := s.pie.queues.put Queue.reset q x }

def State.path (s : State) (e : Eid) : PathState := s.sdh.paths.look PathState.reset e.toNat
def State.setPath (s : State) (e : Eid) (p : PathState) : State :=
  { s with sdh.paths := s.sdh.paths.put PathState.reset e.toNat p }

def State.sdhLane (s : State) (n : Nat) : SdhLane := s.sdh.lanes.look SdhLane.reset n
def State.setSdhLane (s : State) (n : Nat) (l : SdhLane) : State :=
  { s with sdh.lanes := s.sdh.lanes.put SdhLane.reset n l }

/-- The code of an alignment state (Table 9.9). -/
def AlignMode.code : AlignMode → Nat
  | .search => 0
  | .locked => 1
  | .hold => 2
  | .verify => 3
  | .range => 4

/-! The Fathom pool (R281, R282, R535). Any free block serves any ring, the lowest segment first: which block of it is taken is open, so a free value
decides. -/

/-- Every block that is allocated. -/
def State.blocksTaken (s : State) : List Nat :=
  s.align.groups.flatMap (fun x => x.2.ring0 ++ x.2.ring1) ++ s.align.syms.flatMap (·.2.blocks) ++ s.align.members.flatMap (·.2)

/-- n blocks picked from a list of free ones. -/
def pickBlocks : Nat → List Nat → State → List Nat × State
  | 0, _, s => ([], s)
  | n + 1, free, s =>
    if free.isEmpty then ([], s) else
      let low := free.foldl (fun m b => Nat.min m (Config.fathomSegment b).val) 15
      let pool := free.filter fun b => decide ((Config.fathomSegment b).val = low)
      let f := s.takeFree
      let b := nth 0 pool (f.1.toNat % pool.length)
      let r := pickBlocks n (free.erase b) f.2
      (b :: r.1, r.2)

/-- n blocks taken from the pool. -/
def State.takeBlocks (s : State) (n : Nat) : List Nat × State :=
  let used := s.blocksTaken
  pickBlocks n ((List.range s.fathomBlocks).filter fun b => !used.contains b) s

/-- A ring brought to a size: it keeps its first blocks, and takes or gives back the others. -/
def State.resizeRing (s : State) (ring : List Nat) (n : Nat) : List Nat × State :=
  if n ≤ ring.length then (ring.take n, s)
  else
    let r := s.takeBlocks (n - ring.length)
    (ring ++ r.1, r.2)

/-- FREE of FATHOM_USE: blocks neither allocated nor charged (R229). -/
def State.fathomFree (s : State) : Nat := s.fathomBlocks - s.fathomUsed s.cfg.b s.view

/-- LOW_FREE follows FREE down. -/
def State.noteFree (s : State) : State := { s with align.lowFree := Nat.min s.align.lowFree s.fathomFree }

/-! Bushels -/

def State.bushel (s : State) (id : Nat) : Option Bushel := s.bush.list.find? fun b => decide (b.id = id)

def State.setBushel (s : State) (b : Bushel) : State :=
  { s with bush.list := s.bush.list.map fun x => if x.id = b.id then b else x }

def State.dropBushel (s : State) (id : Nat) : State :=
  { s with bush.list := s.bush.list.filter fun x => decide (x.id ≠ id) }

/-- Over-quota marks of tenants whose every resource is within quota clear (R231). -/
def State.settleQuotas (s : State) : State :=
  let v := s.view
  s.bush.overQuota.foldl (fun s x =>
    if x.2 && !overNow (s.use s.cfg.b v x.1) (s.tenant x.1) then
      State.raise { s with bush.overQuota := s.bush.overQuota.put false x.1 false } { src := 0x073, clr := true, obj := x.1 }
    else s) s

/-- A bushel that was accepted is given up: its charge returns (R229). -/
def State.discard (s : State) (id : Nat) : State := (s.dropBushel id).settleQuotas

end Sys2Proof.Machine
end

