-- ==== Sys2Proof/Machine/Flip.lean ====
section
/-!
DEFINITION. Loads, the flip check, the flip and copy-forward (R31 to R37, R46 to R49, R215 to R222), and what a flip does to the objects its bushel
changes.
-/
namespace Sys2Proof.Machine

/-! The journal's view of bushels (R213): what flipped or was given up is no longer restored as a bushel -/

def JSnap.flip (j : JSnap) (b : Bushel) : JSnap :=
  if j.bushels.any fun x => decide (x.id = b.id) then
    { cfg := { j.cfg with b := j.cfg.b.applyAll b.changes }, bushels := j.bushels.filter fun x => decide (x.id ≠ b.id) }
  else j

def JSnap.drop (j : JSnap) (id : Nat) : JSnap := { j with bushels := j.bushels.filter fun x => decide (x.id ≠ id) }

def State.mapSnaps (s : State) (f : JSnap → JSnap) : State :=
  { s with jr.base := f s.jr.base, jr.log := s.jr.log.map fun r => { r with snap := f r.snap } }

/-! Effects on each kind of object (R204) -/

/-- A prot's WTR and hold-off end; its command stays (R243). -/
def Prot.replaced (p : Prot) : Prot :=
  { p with wtrEnd := none, sfW := .off, sfP := .off, sdW := .off, sdP := .off }

/-- A group in SEARCH with its rings; both read delays at DMAX + J (R284, R294). -/
def AlignGroup.fresh (delay : Nat) (ring0 ring1 : List Nat) : AlignGroup :=
  { AlignGroup.reset with read0 := delay, read1 := delay, ring0 := ring0, ring1 := ring1 }

/-- The flip of a group: created, replaced or deleted (R242, R243, R282, R294). ALIGN_CHANGE reports the step of the output that a change of the
preferred leg's read delay makes (R284, R298). -/
def State.flipGroup (s : State) (old new : BCfg) (pg : Nat) : State :=
  match old.pg pg, new.pg pg with
  | none, none => s
  | some _, none => (s.setProtection true pg .reset).setAlignGroup pg .reset
  | was, some r =>
    let g := s.alignGroup pg
    let n := if new.bare.contains pg then 0 else new.pgRing pg r
    let delay := new.dmax pg + holdJ (eidLevelN r.leg0)
    let r0 := s.resizeRing g.ring0 n
    let r1 := ({ r0.2 with align.groups := r0.2.align.groups.put AlignGroup.reset pg { g with ring0 := r0.1 } } : State).resizeRing g.ring1 n
    let s := r1.2
    match was with
    | none => (s.setProtection true pg .reset).setAlignGroup pg { AlignGroup.fresh delay r0.1 r1.1 with searchFn := s.tick.fn }
    | some o =>
      let legs := decide (o.leg0 ≠ r.leg0 ∨ o.leg1 ≠ r.leg1)
      let s := if legs then s.setProtection true pg (s.protection true pg).replaced else s
      if legs || decide (old.dmax pg ≠ new.dmax pg) then
        let s := s.setAlignGroup pg { AlignGroup.fresh delay r0.1 r1.1 with searchFn := s.tick.fn }
        let step := decide ((if (s.protection true pg).sel then g.read1 else g.read0) ≠ delay)
        s.raiseIf (decide (g.mode ≠ .search)) { src := 0x090, code := g.mode.code * 16, aux := step.toNat * 2 ^ 23, obj := pg }
      else s.setAlignGroup pg { g with ring0 := r0.1, ring1 := r1.1 }

/-- The low bits of K2 that tell architecture and mode (Table 8.3). -/
def lpMode (w : Word) : Byte := BitVec.ofNat 8 (8 * (lpArch w).toNat + (if lpBidir w then 5 else 4))

/-- The flip of a line pair (R242, R243, R245). -/
def State.flipPair (s : State) (old new : BCfg) (n : Nat) : State :=
  let s := match old.lp n, new.lp n with
    | none, none => s
    | none, some r => s.setProtection false n { Prot.reset with k2 := lpMode r }
    | some _, none => s.setProtection false n .reset
    | some o, some r => if lpWork o ≠ lpWork r ∨ lpProt o ≠ lpProt r then s.setProtection false n (s.protection false n).replaced else s
  match new.lp n with
  | none => s
  | some w =>
    let wk := lpWork w
    let pr := lpProt w
    let onLane (k l : Nat) : Bool := decide (k / 2 ^ 24 = l)
    let rest := s.cfg.sdh.pathOh.filter fun x => !onLane x.1 pr
    let copies := (s.cfg.sdh.pathOh.filter fun x => onLane x.1 wk).map fun x => (x.1 % 2 ^ 24 + pr * 2 ^ 24, x.2)
    { s with cfg.sdh.pathOh := copies.foldl (fun t x => t.put pathOhReset x.1 x.2) rest }

/-- The flip of a symmetric record: created, removed, or its padding ring resized (R281, R282). A record whose ends change starts again in
WAIT_TIME (log entry 18). -/
def State.flipSym (s : State) (old new : BCfg) (cid : Nat) : State :=
  let o := old.connAt cid
  let r := new.connAt cid
  if !r.sym then s.setSymRec cid .reset
  else
    let x := s.symRec cid
    let k := s.resizeRing x.blocks (new.padBlocks cid r)
    if !o.sym || decide (o.a ≠ r.a ∨ o.z ≠ r.z) then k.2.setSymRec cid { SymRec.reset with blocks := k.1 }
    else k.2.setSymRec cid { x with blocks := k.1 }

/-- A queue's receive side in IDLE with an empty buffer (R315, R327); its transmit side and counts stay. -/
def Queue.toIdle (q : Queue) : Queue :=
  { q with mode := .idle, refSeq := 0, refFn := 0, jb := [], idleFrames := 0, playAt := 0, lastFrame := none, recent := [], noted := [],
           recentre := false, missRun := 0, playRun := 0 }

/-- The code of a receive state (Table 10.11). -/
def QueueMode.code : QueueMode → Nat
  | .idle => 0
  | .fill => 1
  | .play => 2
  | .dormant => 3

/-- A queue enters a state; PW_STATE is raised when it changes. -/
def State.queueTo (s : State) (q : Nat) (x : Queue) : State :=
  (s.setQueue q x).raiseIf (decide ((s.queue q).mode ≠ x.mode)) { src := 0x0A2, code := x.mode.code, obj := q }

/-- The flip of a queue (R315, R323). -/
def State.flipQueue (s : State) (old new : BCfg) (q : Nat) : State :=
  let o := old.queue q
  let r := new.queue q
  if r.kind = 0 then s.setQueue q .reset
  else if o.kind = 0 then s.setQueue q .reset
  else if new.dormant.contains q then
    (if old.dormant.contains q then s else s.queueTo q { (s.queue q).toIdle with mode := .dormant, built := false })
  else if old.dormant.contains q then s.queueTo q { (s.queue q).toIdle with built := true }
  else if o.kind ≠ r.kind then s.setQueue q .reset
  else if o.width ≠ r.width ∨ o.pkt ≠ r.pkt ∨ o.pd ≠ r.pd ∨ o.jbMax ≠ r.jbMax ∨ o.encap ≠ r.encap ∨ o.lane ≠ r.lane then
    s.queueTo q (s.queue q).toIdle
  else s

/-- Paths of triples whose structure changes start again: their pointer processes from a re-centre (R172). -/
def State.flipStruct (s : State) (old new : BCfg) : State :=
  let changed (obj t : Nat) : Bool := decide (old.tcode obj t ≠ new.tcode obj t ∨ old.tug obj t ≠ new.tug obj t)
  let hit (k : Nat) : Bool :=
    let e : Eid := BitVec.ofNat 32 k
    if eidLevelN e = 0 then (hoTriples e).any (changed (eidObj e)) else changed (eidObj e) (loUnit e / 3)
  { s with sdh.paths := s.sdh.paths.filter fun x => !hit x.1 }

/-- The flip of one bushel at the tick that opens the present frame (R36, R37, R218, R220). -/
def State.flip (s : State) (b : Bushel) : State :=
  let old := s.cfg.b
  let new := old.applyAll b.changes
  let fn := s.tick.fn
  let s : State := { s with cfg.b := new, tick.copyLeft := 8, tick.mapHalf := !s.tick.mapHalf, tick.lastFlip := fn,
                            bush.activeHalf := !s.bush.activeHalf, tick.flipPassed := false, tick.flipBushel := none }
  let s := s.setBushel { b with mode := .flipped, flipFn := fn }
  let s := s.mapSnaps fun j => j.flip b
  let s := (bothKeys old.prot.pg new.prot.pg).foldl (fun s i => s.flipGroup old new i) s
  let s := (bothKeys old.prot.lp new.prot.lp).foldl (fun s i => s.flipPair old new i) s
  let s := ((bothKeys old.fab.conn new.fab.conn).filter fun i => (old.connAt i).sym || (new.connAt i).sym).foldl
    (fun s i => s.flipSym old new i) s
  let s := (bothKeys old.queues new.queues).foldl (fun s i => s.flipQueue old new i) s
  let s := s.flipStruct old new
  let s := s.raise { src := 0x070, obj := b.id }
  let s := s.raiseIf (b.scheduled && decide (b.s ≠ fn)) { src := 0x024, fnForm := true, aux := b.s.toNat / 2 ^ 32, obj := b.s.toNat % 2 ^ 32 }
  let s := s.raiseIf b.shed { src := 0x074, obj := b.id }
  s.settleQuotas

/-! Loads -/

/-- The bushel whose load may begin in the present frame: a scheduled one at S − L − 1 or as soon after as it can (R46, R217, R49), then a direct
immediate one, then the first queued one that R48 lets go. A standby loads an immediate bushel only once its flip FN is known (R219). -/
def State.nextLoad (s : State) : Option Bushel :=
  let now := s.tick.fn
  let due (b : Bushel) : Bool :=
    let d := fnAhead now b.s
    decide (b.mode = .pending) && (decide (d ≤ b.l + 1) || decide (2 ^ 47 ≤ d))
  match s.bush.list.find? due with
  | some b => some b
  | none =>
    if s.isStandby then none else
    match s.queuedNow.find? (·.direct) with
    | some b => some b
    | none =>
      match s.queuedNow with
      | [] => none
      | b :: _ => if s.beforeScheduled (b.l + 7) then some b else none

/-- LOAD_BEGIN: a load begins only while the shadow banks equal the active ones and no other load runs (R34, R46, R215, R222). -/
def State.loadBegin (s : State) : State :=
  if s.tick.copyLeft ≠ 0 ∨ s.loaderBusy ∨ s.boot.frozen then s
  else
    match s.nextLoad with
    | none => s
    | some b =>
      let flip := if b.scheduled then b.s else fnAdd s.tick.fn b.l
      let s := s.setBushel { b with mode := .loading, flipFn := flip }
      let s : State := { s with tick.loading := some b.id, tick.loadLeft := b.l }
      if s.mirroring then s.mirror 1 [mkWord [(63, 48, b.id), (47, 0, flip.toNat)]] else s

/-- LOAD_DONE: the last map word is written (R33). Before the last load frame there is nothing to end. -/
def State.loadDone (s : State) : State :=
  match s.tick.loading with
  | none => s
  | some id =>
    if 1 < s.tick.loadLeft then s
    else
      match s.bushel id with
      | none => { s with tick.loading := none, tick.loadLeft := 0 }
      | some b => { (s.setBushel { b with mode := .loaded }) with tick.loading := none, tick.loadLeft := 0 }

/-- The loaded bushel. -/
def State.loaded (s : State) : Option Bushel := s.bush.list.find? fun b => decide (b.mode = .loaded)

/-- The map side of the flip check at cycle 97,000 (R35). A scheduled bushel whose FN has passed flips at the first tick it can (R217). -/
def State.flipCheckMaps (s : State) : State :=
  match s.loaded with
  | none => { s with tick.flipPassed := false, tick.flipBushel := none }
  | some b =>
    let next := fnAdd s.tick.fn 1
    let late := decide (2 ^ 47 ≤ fnAhead next b.s)
    let pass := (!b.scheduled || decide (b.s = next) || late) && decide (s.tick.copyLeft = 0) && s.tick.stepKnown.isNone
    { s with tick.flipPassed := pass, tick.flipBushel := if pass then some b.id else none }

/-- COPY_FORWARD_DONE: the banks are equal again and the bushel settles (R31, R45). -/
def State.copyForwardDone (s : State) : State :=
  if s.tick.copyLeft ≠ 1 then s
  else
    { s with tick.copyLeft := 0,
             bush.list := s.bush.list.map fun b => if b.mode = .flipped then { b with mode := .settled } else b }

/-! Renumbering of FN (R49, R213) -/

/-- A scheduled bushel is discarded at the first traceability: SCHED_DISCARDED. One that was loading leaves the shadow bank to be copied afresh
(R222). -/
def State.schedDiscard (s : State) (b : Bushel) : State :=
  let loading := decide (b.mode = .loading ∨ b.mode = .loaded)
  let s := (s.dropBushel b.id).mapSnaps fun j => j.drop b.id
  let s : State := if loading then { s with tick.loading := none, tick.loadLeft := 0, tick.flipPassed := false, tick.flipBushel := none,
                                            tick.copyLeft := 8 } else s
  s.raise { src := 0x025, obj := b.id }

/-- FN becomes traceable for the first time: pending scheduled bushels go, restored ones wait for S or flip as soon as they can. -/
def State.firstTraceable (s : State) : State :=
  let gone := s.bush.list.filter fun b =>
    b.scheduled && !b.wasRestored && decide (b.mode = .pending ∨ b.mode = .loading ∨ b.mode = .loaded)
  let s := gone.foldl State.schedDiscard s
  let s : State := { s with bush.list := s.bush.list.map fun b => if b.mode = .restored then { b with mode := .pending } else b }
  s.settleQuotas

/-- BUSHEL_ABANDONED: code 0 idle time, 1 entry to the Gill state (R211; log entry 19). -/
def State.abandon (s : State) (b : Bushel) (code : Nat) : State :=
  (((s.dropBushel b.id).raise { src := 0x071, code := (Config.causeCode 0x071 code).toNat, obj := b.id })).count 0x0910 b.owner 1

/-- The row: the oldest open bushel whose idle time is over is abandoned. -/
def execBushelAbandoned (s : State) : Host.Outcome State Fault Refusal :=
  .next (match s.bush.list.find? fun b => decide (b.mode = .open_) && s.due b.deadline with
    | none => s
    | some b => s.abandon b 0)

def execLoadBegin (s : State) : Host.Outcome State Fault Refusal := .next s.loadBegin
def execLoadDone (s : State) : Host.Outcome State Fault Refusal := .next s.loadDone
def execCopyForwardDone (s : State) : Host.Outcome State Fault Refusal := .next s.copyForwardDone

end Sys2Proof.Machine
end

