-- ==== Sys2Proof/Machine/Bushel.lean ====
section
/-!
DEFINITION. Changes and the commands of class 0x04 (07_maps_bushels.md §7.2, §7.5 to §7.7).
-/
namespace Sys2Proof.Machine

/-! Change commands: what each needs when it is added (R208) -/

/-- A change command as its entry stands: what its words may hold, the faults of their values, the owners a TEN sender must be, and the change it
makes with its reply data. `full` says that ANY found nothing free. -/
structure ChangeForm where
  priv : Nat
  masks : List Word
  bad : List (Bool × Nat)
  owners : List Nat
  change : Change
  data : List Word
  full : Bool := false

/-- The lowest number no entry of a list takes. -/
def lowestFree (used : List Nat) : Nat := ((List.range (used.length + 1)).find? fun n => !used.contains n).getD used.length

/-- What ANY has reserved in open bushels, of one kind (R236). -/
def State.reservedAny (s : State) (kind : Nat) : List Nat :=
  ((s.bush.list.filter fun b => decide (b.mode = .open_)).flatMap Bushel.reserved).filterMap fun r => if r.1 = kind then some r.2 else none

/-- The owner of an object, as its record reads: that of a free one is 0 (R236, R278, R336; log entry 28). -/
def connOwners (b : BCfg) (cid : Nat) : List Nat := [(b.connAt cid).owner]
def pgOwners (b : BCfg) (pg : Nat) : List Nat := [((b.pg pg).getD PgRec.reset).owner]
def queueOwners (b : BCfg) (q : Nat) : List Nat := [(b.queue q).owner]

def cidMask : Word := maskOf [(18, 0)]
def pgMask : Word := maskOf [(13, 0)]
def qidMask : Word := maskOf [(15, 0)]
def anyBit : Word := maskOf [(63, 63)]
def connMask1 : Word := ~~~(maskOf [(26, 24)])
def pgMask1 : Word := ~~~(maskOf [(42, 42), (40, 40), (17, 0)])
def lpMask : Word := maskOf [(57, 42), (39, 18)]
def queueMask0 : Word := maskOf [(63, 27)]
def queueMask1 : Word := maskOf [(63, 19)]
def queueMask2 : Word := maskOf [(47, 32), (16, 0)]

/-- The faults of a connection record in words 1 and 2 (R177 to R183, R186). -/
def connFaults (r : Conn) : List (Bool × Nat) :=
  let w := r.widthBad || (decide (r.level ≠ 2) && decide (r.width ≠ 1)) || (r.sym && !r.bidir)
  [(!r.formOk && !w, 1), (w, 2)]

/-- The change form of a class and opcode; none where it is no change command. `b` is the configuration the bushel's earlier changes leave. -/
def State.changeForm (s : State) (b : BCfg) (c : Cmd) (cls op : Nat) : Option ChangeForm :=
  let w := c.words
  let ch (obj : Nat) : Change := ⟨cls, op, obj, w⟩
  let w0 := c.word 0
  if cls = 3 ∧ (op = 1 ∨ op = 2) then
    let any := decide (op = 1) && flag w0 63
    let cid := if any then lowestFree ((s.view.conns.map (·.1)) ++ s.reservedAny 0) else fld w0 18 0
    let r : Conn := ⟨c.word 1, c.word 2⟩
    some { priv := TEN, masks := [if op = 1 then anyBit ||| cidMask else cidMask, allBits, connMask1], bad := connFaults r,
           owners := r.owner :: (if op = 1 ∧ (b.connAt cid).isFree then [] else connOwners b cid), change := ch cid, data := if op = 1 then [BitVec.ofNat 64 cid] else [],
           full := any && decide (524288 ≤ cid) }
  else if cls = 3 ∧ op = 3 then
    let cid := fld w0 18 0
    some { priv := TEN, masks := [cidMask], bad := [], owners := connOwners b cid, change := ch cid, data := [] }
  else if cls = 3 ∧ op = 7 then
    let obj := fld w0 5 0
    some { priv := OPR, masks := [maskOf [(9, 8), (5, 0)], allBits], bad := [(decide (43 < obj), 0), (!s.tcodeForm obj (c.word 1), 1)],
           owners := [], change := ch (fld w0 9 8 * 64 + obj), data := [] }
  else if cls = 3 ∧ op = 9 then
    let obj := fld w0 5 0
    some { priv := OPR, masks := [maskOf [(13, 8), (5, 0)], maskOf [(20, 0)]], bad := [(decide (43 < obj), 0)],
           owners := [], change := ch (obj * 64 + fld w0 13 8), data := [] }
  else if cls = 5 ∧ (op = 1 ∨ op = 2) then
    let any := decide (op = 1) && flag w0 63
    let pg := if any then lowestFree ((s.view.pgs.map (·.1)) ++ s.reservedAny 3) else fld w0 13 0
    let r : PgRec := ⟨c.word 1, c.word 2⟩
    some { priv := TEN, masks := [if op = 1 then anyBit ||| pgMask else pgMask, allBits, pgMask1],
           bad := [(!r.legsOk, 1), (!r.widthOk || !r.timersOk, 2)], owners := r.owner :: (if op = 1 ∧ (b.pg pg).isNone then [] else pgOwners b pg), change := ch pg,
           data := if op = 1 then [BitVec.ofNat 64 pg] else [], full := any && decide (16384 ≤ pg) }
  else if cls = 5 ∧ op = 3 then
    let pg := fld w0 13 0
    some { priv := TEN, masks := [pgMask], bad := [], owners := pgOwners b pg, change := ch pg, data := [] }
  else if cls = 5 ∧ (op = 7 ∨ op = 8) then
    let n := fld w0 4 0
    some { priv := OPR, masks := if op = 7 then [maskOf [(4, 0)], lpMask] else [maskOf [(4, 0)]],
           bad := [(decide (19 < n), 0), (decide (op = 7) && !lpForm (c.word 1), 1)], owners := [], change := ch n, data := [] }
  else if cls = 6 ∧ op = 1 then
    let pg := fld w0 13 0
    let d := fld (c.word 1) 15 8
    some { priv := TEN, masks := [pgMask, maskOf [(15, 8), (1, 0)]],
           bad := [(decide (d = 0 ∨ 64 < d ∨ fld (c.word 1) 1 0 = 3), 1)], owners := pgOwners b pg, change := ch pg, data := [] }
  else if cls = 6 ∧ op = 5 then
    let cid := fld w0 18 0
    let p := fld (c.word 1) 47 40
    some { priv := TEN, masks := [cidMask, maskOf [(63, 40)]], bad := [(decide (p = 0 ∨ 64 < p), 1)], owners := connOwners b cid,
           change := ch cid, data := [] }
  else if cls = 7 ∧ (op = 1 ∨ op = 2) then
    let any := decide (op = 1) && flag w0 63
    let q := if any then lowestFree ((s.view.queues.map (·.1)) ++ s.reservedAny 5) else fld w0 15 0
    let r : QueueRec := ⟨c.word 1, c.word 2, c.word 3⟩
    some { priv := TEN, masks := [if op = 1 then anyBit ||| qidMask else qidMask, queueMask0, queueMask1, queueMask2],
           bad := [(r.w0Bad, 1), (r.w1Bad, 2), (r.w2Bad, 3)], owners := r.owner :: (if op = 1 ∧ (b.queue q).kind = 0 then [] else queueOwners b q), change := ch q,
           data := if op = 1 then [BitVec.ofNat 64 q] else [], full := any && decide (65536 ≤ q) }
  else if cls = 7 ∧ op = 3 then
    let q := fld w0 15 0
    some { priv := TEN, masks := [qidMask], bad := [], owners := queueOwners b q, change := ch q, data := [] }
  else none

/-! Acceptance -/

/-- The words of a bushel's record in the journal: four for each change and two for its head (log entry 13). -/
def bushelWords (b : Bushel) : Nat := 4 * b.changes.length + 2

/-- The next bushel ID (R206). -/
def State.nextBushel (s : State) : Nat := if 65535 ≤ s.bush.lastId then 1 else s.bush.lastId + 1

/-- Word 0 and word 1 of the reply to a refused commit (Table 7.8). -/
def CommitFail.words (f : CommitFail) : List Word := [mkWord [(63, 32, f.cid), (15, 0, f.index)], f.w1]

/-- A slot's position, flip FN, and whether it is immediate without waiting. -/
def Slot.pos : Slot → Nat
  | .queue p => p
  | _ => 0
def Slot.flipFn : Slot → BitVec 48
  | .now f => f
  | .at_ f => f
  | .queue _ => 0

/-- The reply data of an accepted commit (Table 7.8). -/
def acceptWords (c : BitVec 48) (l : Nat) (x : Slot) (id : Nat) : List Word :=
  [mkWord [(63, 16, c.toNat), (7, 4, x.pos), (3, 0, l)], mkWord [(63, 16, x.flipFn.toNat), (15, 0, id)]]

/-- OK for a flip under R34, else ACCEPTED_PENDING (R237). -/
def Slot.answer (x : Slot) (s : State) (data : List Word) : Answer :=
  match x with
  | .now _ => .ok s data
  | _ => .pend s data

/-- A bushel is accepted: it takes its place behind those accepted before and is journalled before the reply (R213). -/
def State.accept (s : State) (b : Bushel) (x : Slot) (l : Nat) (fnS : BitVec 48) : State :=
  let sched := match x with | .at_ _ => true | _ => false
  let b' := { b with mode := if sched then .pending else .queued, direct := (match x with | .now _ => true | _ => false),
                     scheduled := sched, s := fnS, l := l, c := s.tick.fn, flipFn := x.flipFn }
  let s := s.dropBushel b.id
  let s : State := { s with bush.list := s.bush.list ++ [b'] }
  (((s.count 0x090E b.owner 1).journal (bushelWords b)).noteFree)

/-- A refused commit: counted, remembered in BUSHEL_SUMMARY. -/
def State.refused (s : State) (st : Nat) : State :=
  ({ s with bush.lastRefuse := BitVec.ofNat 8 st } : State).count 0x090F st 1

/-- Changes are appended to an open bushel, and its idle time starts again (R208, R211; log entry 132). -/
def State.append (s : State) (b : Bushel) (cs : List Change) : State :=
  s.setBushel { b with changes := b.changes ++ cs, deadline := s.now + 8000 * b.idle }

/-- A refusal whose bushel goes with it, unless it was a check only, which restarts the idle time (R211, R212, R238). -/
def State.refuseCommit (s : State) (b : Bushel) (check : Bool) (f : CommitFail) : Answer :=
  let s := if check then s.append b [] else s.dropBushel b.id
  .no f.status 0 (s.refused f.status) f.words

/-- Steps 2 to 6 of R212 and acceptance; `check` stops before it (R238). -/
def State.commit (s : State) (b : Bushel) (check sched : Bool) (fnS : BitVec 48) : Answer :=
  if b.oversize then s.refuseCommit b check { status := stNoResource }
  else if b.changes.isEmpty then s.refuseCommit b check { status := stBadParam }
  else
    let ll := s.loadLength b.changes.length
    let s := ll.2
    match s.commitChecks b.id b.changes sched fnS ll.1 with
    | .inl f => s.refuseCommit b check f
    | .inr x =>
      if check then x.answer (s.append b []) (acceptWords s.tick.fn ll.1 x b.id)
      else if s.journalFull (bushelWords b) then
        .no stNoResource 0xFF ((s.dropBushel b.id).refused stNoResource) ({ status := stNoResource } : CommitFail).words
      else
        let s' := s.accept b x ll.1 fnS
        x.answer s' (acceptWords s.tick.fn ll.1 x b.id)

/-- A bushel just formed. -/
def Bushel.make (id owner : Nat) (ten : Bool) (changes : List Change) : Bushel :=
  { id := id, owner := owner, ten := ten, mode := .open_, direct := false, changes := changes, oversize := false, idle := 60,
    deadline := 0, scheduled := false, s := 0, l := 0, c := 0, flipFn := 0, wasRestored := false, shed := false }

/-- A new bushel is entered, and its ID is issued. A settled bushel of the same ID is forgotten. -/
def State.enter (s : State) (b : Bushel) : State :=
  let s := s.dropBushel b.id
  { s with bush.list := b :: s.bush.list, bush.lastId := b.id }

/-- The bushel a change names: refused where it is another tenant's, or not open (R206, Table 7.2). -/
def State.namedBushel (s : State) (c : Cmd) (id : Nat) : Bushel ⊕ (Nat × Nat) :=
  match s.bushel id with
  | none => .inr (stState, 0)
  | some b =>
    if b.owner ≠ c.t then .inr (stNotPermitted, 0x06)
    else if b.mode ≠ .open_ then .inr (stState, 0) else .inl b

/-- A change that passed its form checks is added, or committed at once as a bushel of its own (R207, R208, R210). -/
def State.addChange (s : State) (c : Cmd) (f : ChangeForm) : Answer :=
  if f.full then refuse stNoResource 0 s
  else if c.bushel = 0 then
    let b := Bushel.make s.nextBushel c.t (decide (c.rank = TEN)) [f.change]
    (s.enter b).commit b false false 0
  else
    match s.namedBushel c c.bushel.toNat with
    | .inr (st, d) => refuse st d s
    | .inl b =>
      if 4096 ≤ b.changes.length then .no stNoResource 0 (s.append { b with oversize := true } []) []
      else .ok (s.append b [f.change]) (f.data ++ [BitVec.ofNat 64 b.changes.length])

/-- The configuration a change of this bushel is judged against: the view, and the bushel's own changes (R209). -/
def State.bushelView (s : State) (id : Nat) : BCfg :=
  s.view.applyAll (match s.bushel id with | some b => b.changes | none => [])

/-- The ownership check of a change (R236, R278, R311, R336). -/
def Cmd.ownsAll (c : Cmd) (owners : List Nat) : Option (Nat × Nat) :=
  if owners.all c.owns then none else some (stNotPermitted, 0x06)

/-- A change command is handled. -/
def State.changeOp (s : State) (c : Cmd) (cls op : Nat) : State :=
  match s.changeForm (s.bushelView c.bushel.toNat) c cls op with
  | none => s
  | some f =>
    s.runOp c { cls := cls, op := op, priv := f.priv, masks := f.masks, change := true, mirror := if c.bushel = 0 then 1 else 0 }
      f.bad (c.ownsAll f.owners) fun s => s.addChange c f

/-! Class 0x04 -/

def bushelMask : Word := maskOf [(15, 0)]

/-- BUSHEL_OPEN (R206, R211). -/
def State.bushelOpen (s : State) (c : Cmd) : State :=
  s.runOp c { cls := 4, op := 1, priv := TEN, masks := [maskOf [(11, 0)]], active := true } [(decide (3600 < fld (c.word 0) 11 0), 0)] none fun s =>
    let opens := s.bush.list.filter fun b => decide (b.mode = .open_)
    let ten := decide (c.rank = TEN)
    if 16 ≤ opens.length || (ten && decide (2 ≤ (opens.filter fun b => b.ten && decide (b.owner = c.t)).length)) then
      refuse stNoResource 0 s
    else
      let id := s.nextBushel
      let idle := if fld (c.word 0) 11 0 = 0 then 60 else fld (c.word 0) 11 0
      let b := { Bushel.make id c.t ten [] with idle := idle, deadline := s.now + 8000 * idle }
      .ok (s.enter b) [BitVec.ofNat 64 id]

/-- BUSHEL_COMMIT (R212, R237, R238). -/
def State.bushelCommit (s : State) (c : Cmd) : State :=
  let mode := fld (c.word 0) 17 16
  s.runOp c { cls := 4, op := 2, priv := TEN, masks := [maskOf [(17, 0)], maskOf [(47, 0)]], mirror := if mode = 2 then 0 else 1 }
    [(decide (mode = 3), 0), (decide (mode ≠ 1) && decide (c.word 1 ≠ 0), 1)] none fun s =>
    match s.bushel (fld (c.word 0) 15 0) with
    | none => .no stState 0 (s.refused stState) ({ status := stState } : CommitFail).words
    | some b =>
      if b.owner ≠ c.t ∧ c.rank ≠ SUP then
        .no stNotPermitted 0 (s.refused stNotPermitted) ({ status := stNotPermitted } : CommitFail).words
      else if b.mode ≠ .open_ then .no stState 0 (s.refused stState) ({ status := stState } : CommitFail).words
      else s.commit b (decide (mode = 2)) (decide (mode = 1)) (BitVec.ofNat 48 (fld (c.word 1) 47 0))

/-- BUSHEL_CANCEL (R216). -/
def State.bushelCancel (s : State) (c : Cmd) : State :=
  s.runOp c { cls := 4, op := 3, priv := TEN, masks := [bushelMask],
               mirror := if (s.bushel (fld (c.word 0) 15 0)).all (fun b => decide (b.mode = .open_)) then 0 else 2 } []
    (if (s.bushel (fld (c.word 0) 15 0)).any fun b => decide (b.owner ≠ c.t ∧ c.rank ≠ SUP) then some (stNotPermitted, 0x06) else none) fun s =>
    let id := fld (c.word 0) 15 0
    match s.bushel id with
    | none => refuse stState 0 s
    | some b =>
      if b.mode = .open_ ∨ b.mode = .queued ∨ b.mode = .pending ∨ b.mode = .restored then
        .ok ((s.discard id).mapSnaps fun j => j.drop id) []
      else refuse stState 0 s

def BushelMode.code : BushelMode → Nat
  | .open_ => 0
  | .queued => 1
  | .pending => 2
  | .restored => 3
  | .loading => 4
  | .loaded => 5
  | .flipped => 6
  | .settled => 7

/-- BUSHEL_STATUS (R237). -/
def State.bushelStatus (s : State) (c : Cmd) : State :=
  let at_ := s.bushel (fld (c.word 0) 15 0)
  s.runOp c { cls := 4, op := 4, priv := TEN, masks := [bushelMask] } [] (c.ownsAll (at_.toList.map (·.owner))) fun s =>
    match at_ with
    | none => refuse stState 0 s
    | some b => .ok s [mkWord [(3, 0, b.mode.code), (16, 4, b.changes.length)], BitVec.ofNat 64 b.flipFn.toNat]

/-- The first entry of a change list that fails under R208: its index and status. -/
def State.listFail (s : State) (c : Cmd) : BCfg → Nat → List (List Word) → (Nat × Nat) ⊕ List Change
  | _, _, [] => .inr []
  | b, i, ws :: rest =>
    let w0 := nth 0 ws 0
    let e : Cmd := { c with words := ws.drop 1, plen := 24 }
    match s.changeForm b e (fld w0 63 56) (fld w0 55 48) with
    | none => .inl (i, stBadOpcode)
    | some f =>
      if fld w0 47 0 ≠ 0 then .inl (i, stBadParam)
      else if c.rank < f.priv then .inl (i, stNotPermitted)
      else if !f.owners.all c.owns then .inl (i, stNotPermitted)
      else if (e.faultFrom f.masks f.bad 0).isSome || (firstNonZero f.masks.length (e.words.drop f.masks.length)).isSome then
        .inl (i, stBadParam)
      else if f.full then .inl (i, stNoResource)
      else
        match s.listFail c (b.apply f.change) (i + 1) rest with
        | .inl x => .inl x
        | .inr cs => .inr (f.change :: cs)

/-- Entries of four words from the octets of a change list (Table 7.6). -/
def listEntries : Nat → List Byte → List (List Word)
  | 0, _ => []
  | n + 1, l => takeWords 4 (l.take 32) :: listEntries n (l.drop 32)

/-- BUSHEL_FETCH (R234, R235), with the octets the host's memory holds at the list's address. -/
def State.bushelFetch (s : State) (c : Cmd) (fetched : List Byte) : State :=
  let n := fld (c.word 0) 28 16
  s.runOp c { cls := 4, op := 5, priv := TEN, masks := [maskOf [(28, 16), (15, 0)], allBits, allBits, allBits] }
    [(decide (n = 0 ∨ 4096 < n), 0), (decide (fld (c.word 1) 2 0 ≠ 0), 1)] none fun s =>
    if 2 ≤ c.port.val then refuse stNotPermitted 0x00 s
    else
      match s.namedBushel c (fld (c.word 0) 15 0) with
      | .inr (st, d) => refuse st d s
      | .inl b =>
        let list := fetched.take (32 * n)
        let digest := (sha256 list).take 16
        if list.length < 32 * n ∨ digest ≠ wordOctets (c.word 2) ++ wordOctets (c.word 3) then refuse stAuthFail 0 s
        else
          match s.listFail c (s.bushelView b.id) 0 (listEntries n list) with
          | .inl (i, st) => .no st 0 s [mkWord [(28, 16, i)]]
          | .inr cs =>
            if 4096 < b.changes.length + cs.length then refuse stNoResource 0 s
            else .ok (s.append b cs) [BitVec.ofNat 64 cs.length]

/-- The order in which SHED releases records (R232). -/
def shedBefore (x y : Nat × Conn) : Bool :=
  if x.2.essential ≠ y.2.essential then !x.2.essential
  else if x.2.shedPrio ≠ y.2.shedPrio then decide (x.2.shedPrio < y.2.shedPrio) else decide (y.1 < x.1)

def shedInsert (x : Nat × Conn) : List (Nat × Conn) → List (Nat × Conn)
  | [] => [x]
  | y :: l => if shedBefore x y then x :: y :: l else y :: shedInsert x l

/-- Resources of a use that pass a tenant's quotas. -/
def overList (u : Use) (r : Rec2) : List Bool := (u.list.zip (quotas r)).map fun x => decide (x.2 < x.1)

/-- What SHED deletes after a record is gone: the allocations no remaining record of the tenant refers to (R232). -/
def State.shedAllocs (s : State) (b : BCfg) (t : Nat) : List Change :=
  let mine := (b.conns.filter fun x => decide (x.2.owner = t)).map (·.2)
  let groups := b.pgs.filter fun x => decide (x.2.owner = t) && !b.bare.contains x.1 && !mine.any fun r => r.pgEn && decide (r.pg = x.1)
  let queues := b.queues.filter fun x => x.2.pw && decide (x.2.owner = t) && !b.dormant.contains x.1 &&
    !mine.any fun r => [r.a, r.z].any fun e => decide (eidKind e = .queue) && decide (eidQid e = x.1)
  groups.map (fun x => ⟨4, 7, x.1, []⟩) ++ queues.map fun x => ⟨4, 6, x.1, []⟩

/-- SHED's choice: records in order, one whose deletion lowers no over-quota resource skipped, until every resource is within quota (R232,
R233). The answer is the configuration left, and the CIDs. -/
def State.shedPick (s : State) (t : Nat) : BCfg → Nat → List (Nat × Conn) → BCfg × List Nat
  | b, _, [] => (b, [])
  | b, n, x :: rest =>
    if n = 0 then (b, []) else
    let clean (b : BCfg) : Use := let b' := b.applyAll (s.shedAllocs b t); s.use b' b' t
    let excess := overList (clean b) (s.tenant t)
    if !excess.any id then (b, [])
    else
      let b' := b.apply ⟨3, 3, x.1, []⟩
      let lowers := ((clean b').list.zip ((clean b).list.zip excess)).any fun u => u.2.2 && decide (u.1 < u.2.1)
      if lowers then
        let r := s.shedPick t b' (n - 1) rest
        (r.1, x.1 :: r.2)
      else s.shedPick t b n rest

/-- What SHED would release for a tenant: the changes of its bushel, how many of them delete records, and whether the tenant stays over-quota.
Records that an accepted bushel holds are left alone. -/
def State.shedPlan (s : State) (t : Nat) : List Change × Nat × Bool :=
  let v := s.view
  let held := ((s.bush.list.filter Bushel.live).flatMap fun b => b.changes.flatMap (Change.holds s.cfg.b))
  let free (x : Nat × Conn) : Bool := !(Change.holds v ⟨3, 3, x.1, []⟩).any held.contains
  let mine := (v.conns.filter fun x => decide (x.2.owner = t) && free x).foldr shedInsert []
  let pick := s.shedPick t v 4096 mine
  let cs := pick.2.map fun cid => (⟨3, 3, cid, []⟩ : Change)
  let allocs := (s.shedAllocs pick.1 t).filter fun a => !(Change.holds v a).any held.contains
  let still := (overList (let b := pick.1.applyAll allocs; s.use b b t) (s.tenant t)).any id
  if !s.bush.overQuota.look false t then ([], 0, false) else if cs.isEmpty then ([], 0, still) else (cs ++ allocs, cs.length, still)

/-- SHED (R232, R233). -/
def State.shed (s : State) (c : Cmd) : State :=
  let t := fld (c.word 0) 11 0
  let plan := s.shedPlan t
  s.runOp c { cls := 4, op := 6, priv := SUP, masks := [maskOf [(11, 0)]], mirror := if plan.1.isEmpty then 0 else 1, active := true } [] none fun s =>
    if plan.1.isEmpty then .ok s [mkWord [(32, 32, plan.2.2.toNat)]]
    else
      let b := { Bushel.make s.nextBushel c.t false plan.1 with shed := true }
      let ll := s.loadLength b.changes.length
      match ll.2.slot false 0 ll.1 with
      | none => refuse stBusy 0 ll.2
      | some x =>
        if s.journalFull (bushelWords b) then refuse stNoResource 0xFF s
        else .ok ((ll.2.enter b).accept b x ll.1 0) [mkWord [(12, 0, plan.2.1), (28, 16, b.id), (32, 32, plan.2.2.toNat)]]

/-- USAGE_GET (R229, R237). -/
def State.usageGet (s : State) (c : Cmd) : State :=
  let t := fld (c.word 0) 11 0
  s.runOp c { cls := 4, op := 7, priv := TEN, masks := [maskOf [(11, 0)]] } [] (c.ownsAll [t]) fun s =>
    let u := s.use s.cfg.b s.view t
    .ok s [BitVec.ofNat 64 u.band, BitVec.ofNat 64 u.fathom, BitVec.ofNat 64 u.tun,
      mkWord [(18, 0, u.recs), (32, 32, (s.bush.overQuota.look false t).toNat)]]

/-- BUSHEL_LIST (R237). -/
def State.bushelList (s : State) (c : Cmd) : State :=
  s.runOp c { cls := 4, op := 8, priv := OPR, masks := [] } [] none fun s =>
    .ok s ((s.bush.list.filter fun b => decide (b.mode ≠ .settled)).map fun b =>
      mkWord [(15, 0, b.id), (19, 16, b.mode.code), (31, 20, b.owner)])

def execBushelOpen (c : Cmd) (s : State) : Host.Outcome State Fault Refusal := packet c s (·.bushelOpen c)
def execBushelCommit (c : Cmd) (s : State) : Host.Outcome State Fault Refusal := packet c s (·.bushelCommit c)
def execBushelCancel (c : Cmd) (s : State) : Host.Outcome State Fault Refusal := packet c s (·.bushelCancel c)
def execBushelStatus (c : Cmd) (s : State) : Host.Outcome State Fault Refusal := packet c s (·.bushelStatus c)
def execBushelFetch (c : Cmd) (list : List Byte) (s : State) : Host.Outcome State Fault Refusal := packet c s (·.bushelFetch c list)
def execShed (c : Cmd) (s : State) : Host.Outcome State Fault Refusal := packet c s (·.shed c)
def execUsageGet (c : Cmd) (s : State) : Host.Outcome State Fault Refusal := packet c s (·.usageGet c)
def execBushelList (c : Cmd) (s : State) : Host.Outcome State Fault Refusal := packet c s (·.bushelList c)

end Sys2Proof.Machine
end

