-- ==== Sys2Proof/Machine/Fabric.lean ====
section
/-!
DEFINITION. The commands of class 0x03 and the test analysers (06_fabric.md, 07_maps_bushels.md §7.7).
-/
namespace Sys2Proof.Machine

def viewBit : Word := maskOf [(32, 32)]

/-- The VIEW bit of word 0 (R221). -/
def Cmd.view (c : Cmd) : Bool := flag (c.word 0) 32

/-- CONN_GET (R221). -/
def State.connGet (s : State) (c : Cmd) : State :=
  let r := (s.viewOf c.view).connAt (fld (c.word 0) 18 0)
  s.runOp c { cls := 3, op := 4, priv := TEN, masks := [viewBit ||| cidMask] } []
    (c.ownsAll (connOwners (s.viewOf c.view) (fld (c.word 0) 18 0))) fun s => .ok s [r.w0, r.w1]

/-- CONN_FIND (R236): the record, or the binding, that drives a destination in the active maps; a binding has no CID (log entry 142). A destination a TEN sender does not own is not
shown to it. -/
def State.connFind (s : State) (c : Cmd) : State :=
  let e : Eid := BitVec.ofNat 32 (fld (c.word 0) 31 0)
  let b := s.cfg.b
  let at_ := eidPositions e 1
  let hit := b.conns.find? fun x => !x.2.isFree && (x.2.driven b).any at_.contains
  s.runOp c { cls := 3, op := 5, priv := TEN, masks := [maskOf [(31, 0)]] } [(!eidForm e || eidNull e, 0)]
    (c.ownsAll (match hit with | some x => [x.2.owner] | none => [])) fun s =>
    match hit with
    | some x => .ok s [BitVec.ofNat 64 x.1]
    | none =>
      if (s.bindingPositions b).any at_.contains then .ok s [mkWord [(63, 63, 1)]] else .ok s [0x7FFF_FFFF_FFFF_FFFF]

/-- CONN_LATENCY (R226). -/
def State.connLatency (s : State) (c : Cmd) : State :=
  let cid := fld (c.word 0) 18 0
  let r := s.cfg.b.connAt cid
  s.runOp c { cls := 3, op := 6, priv := TEN, masks := [cidMask] } [] (c.ownsAll (connOwners s.cfg.b cid)) fun s =>
    if r.isFree then refuse stState 0 s
    else
      let t := s.latency s.cfg.b cid r
      .ok s [BitVec.ofNat 64 (if eidNull r.a || eidNull r.z then 0 else tNs t.1), BitVec.ofNat 64 (if r.bidir then tNs t.2 else 0)]

/-- STRUCT_GET (R236). -/
def State.structGet (s : State) (c : Cmd) : State :=
  let obj := fld (c.word 0) 5 0
  let n := fld (c.word 0) 9 8
  s.runOp c { cls := 3, op := 8, priv := OPR, masks := [maskOf [(32, 32), (9, 8), (5, 0)]] } [(decide (43 < obj), 0)] none fun s =>
    .ok s [BitVec.ofNat 64 (fld ((s.viewOf c.view).fab.struct.look 0 obj) (64 * n + 63) (64 * n))]

/-- TUG_GET (R236). -/
def State.tugGet (s : State) (c : Cmd) : State :=
  let obj := fld (c.word 0) 5 0
  s.runOp c { cls := 3, op := 10, priv := OPR, masks := [maskOf [(32, 32), (13, 8), (5, 0)]] } [(decide (43 < obj), 0)] none fun s =>
    .ok s [BitVec.ofNat 64 ((s.viewOf c.view).tug obj (fld (c.word 0) 13 8)).toNat]

/-- n free values as words. -/
def freeWords : Nat → State → List Word × State
  | 0, s => ([], s)
  | n + 1, s =>
    let f := s.takeFree
    let r := freeWords n f.2
    (f.1 :: r.1, r.2)

/-- MAP_READ (R203): what the compiler placed in a map word is its own, so each word is a free value (log entry 20). A read that runs past the
last map address is refused as its first word. -/
def State.mapRead (s : State) (c : Cmd) : State :=
  let n := fld (c.word 0) 30 24
  s.runOp c { cls := 3, op := 11, priv := SUP, masks := [maskOf [(30, 24), (18, 0)]] }
    [(decide (n = 0 ∨ 64 < n ∨ 2 ^ 19 < fld (c.word 0) 18 0 + n), 0)] none fun s =>
    let r := freeWords n s
    .ok r.2 r.1

def execConnAdd (c : Cmd) (s : State) : Host.Outcome State Fault Refusal := packet c s (·.changeOp c 3 1)
def execConnSet (c : Cmd) (s : State) : Host.Outcome State Fault Refusal := packet c s (·.changeOp c 3 2)
def execConnDel (c : Cmd) (s : State) : Host.Outcome State Fault Refusal := packet c s (·.changeOp c 3 3)
def execConnGet (c : Cmd) (s : State) : Host.Outcome State Fault Refusal := packet c s (·.connGet c)
def execConnFind (c : Cmd) (s : State) : Host.Outcome State Fault Refusal := packet c s (·.connFind c)
def execConnLatency (c : Cmd) (s : State) : Host.Outcome State Fault Refusal := packet c s (·.connLatency c)
def execStructSet (c : Cmd) (s : State) : Host.Outcome State Fault Refusal := packet c s (·.changeOp c 3 7)
def execStructGet (c : Cmd) (s : State) : Host.Outcome State Fault Refusal := packet c s (·.structGet c)
def execTugSet (c : Cmd) (s : State) : Host.Outcome State Fault Refusal := packet c s (·.changeOp c 3 9)
def execTugGet (c : Cmd) (s : State) : Host.Outcome State Fault Refusal := packet c s (·.tugGet c)
def execMapRead (c : Cmd) (s : State) : Host.Outcome State Fault Refusal := packet c s (·.mapRead c)

/-- The record that drives a test analyser in the active maps (R197). -/
def State.analyserRecord (s : State) (inst : Nat) : Option (Nat × Conn) :=
  s.cfg.b.conns.find? fun x => decide (eidKind x.2.z = .test) && decide (testInst x.2.z = inst)

/-- A capture ring is bound to an analyser, which then checks no pattern (R446). -/
def State.captureBound (s : State) (inst : Nat) : Bool :=
  s.host.rings.any fun x => decide (fld x.2.cfg 31 28 = 6) && flag x.2.cfg 27 && decide (fld x.2.bind 31 16 = inst)

/-- TEST_ANALYSER_LOCK (R198): the analyser's lock after a check, and the bit errors it counted while locked. An analyser nothing drives stays
unlocked (R196). -/
def State.testAnalyserLock (s : State) (inst : Nat) (lock0 : Bool) (errors0 : Nat) : State :=
  let bound := s.captureBound inst
  let lock := lock0 && !bound
  let errors := if bound then 0 else errors0
  match s.analyserRecord inst with
  | none => s
  | some r =>
    let a := s.fab.analysers.look Analyser.reset inst
    let s := if a.lock then s.count 0x0A00 inst errors else s
    let lost := a.lock && !lock
    let a' : Analyser := ⟨lock, if a.lock then a.errors + errors else a.errors, a.losses + lost.toNat⟩
    let s : State := { s with fab.analysers := s.fab.analysers.put Analyser.reset inst a' }
    let s := s.count 0x0A01 inst lost.toNat
    s.raiseIf (a.lock != lock) { src := 0x060, clr := !lock, aux := inst, obj := r.1 }

def execTestAnalyserLock (inst : Fin 64) (lock : Bool) (errors : Nat) (s : State) : Host.Outcome State Fault Refusal :=
  .next (s.testAnalyserLock inst.val lock errors)

end Sys2Proof.Machine
end

