-- ==== Sys2Proof/Machine/Lanes.lean ====
section
/-!
DEFINITION. Line lanes (03_lanes_ports.md §3.2 to §3.6): settings, detectors, link state, loopbacks and patterns.
-/
namespace Sys2Proof.Machine

/-! Detectors and link state -/

/-- Raw no-signal (R62): a disabled lane has none (R59). -/
def State.rawNoSignal (s : State) (n : Nat) : Bool :=
  let l := s.lane n
  decide (s.laneRate n = 0) || l.sigLow || l.noTrans

/-- What the framer or PCS sees: no signal also while the lane is in CONFIG (R58). -/
def State.seesNoSignal (s : State) (n : Nat) : Bool := s.rawNoSignal n || (s.lane n).config || !s.laneOn n

/-- The conditions of link up (R65, R66). -/
def State.linkConds (s : State) (n : Nat) : Bool :=
  let p := (s.lane n).pcs
  !s.seesNoSignal n &&
    (if s.laneRate n = 5 then p.sync && (!flag (s.laneCfg n) 27 || p.anegDone)
     else if s.laneRate n = 6 then p.blockLock && !p.hiBer else false)

/-- A lane that is link up may pass frames. -/
def State.linkUp (s : State) (n : Nat) : Bool := (s.lane n).linkUp

/-- The queues of a lane leave FILL and PLAY at a link loss (R327). -/
def State.laneQueuesIdle (s : State) (n : Nat) : State :=
  (s.cfg.b.queues.filter fun x => x.2.pw && decide (x.2.lane = n)).foldl (fun s x =>
    let q := s.queue x.1
    if q.mode = .fill ∨ q.mode = .play then s.queueTo x.1 q.toIdle else s) s

/-- A lane goes link down at once when a condition fails (R67). -/
def State.linkCheck (s : State) (n : Nat) : State :=
  let l := s.lane n
  if l.linkUp && !s.linkConds n then
    ((s.setLane n { l with linkUp := false }).laneQueuesIdle n).raise { src := 0x030, clr := true, obj := n }
  else s

/-- The adaptive equaliser freezes while there is no signal; what it holds then is open (R64). -/
def State.freezeEq (s : State) (n : Nat) : State :=
  let l := s.lane n
  let adaptive := decide (fld (s.laneCfg n) 39 38 = 0)
  if s.rawNoSignal n then
    if adaptive && !l.frozen then
      let f := s.takeFree
      f.2.setLane n { l with frozen := true, ctle := BitVec.ofNat 4 f.1.toNat }
    else s
  else s.setLane n { l with frozen := false }

/-- Detectors changed: lock is lost at once without signal (R606), the equaliser freezes, the link follows. -/
def State.detectors (s : State) (n : Nat) : State :=
  let l := s.lane n
  let s := if s.rawNoSignal n then s.setLane n { l with cdrLocked := false } else s
  (s.freezeEq n).linkCheck n

/-- The detectors ahead of the framer run on a powered lane with a rate (R59). -/
def State.detecting (s : State) (n : Nat) : Bool := decide (s.laneRate n ≠ 0) && s.laneOn n

/-- SIGNAL_LEVEL_CHANGE (R60): the amplitude judged, against LOS_TH and 1.41 times it. -/
def execSignalLevelChange (lane : Fin 40) (millivolts : Nat) (s : State) : Host.Outcome State Fault Refusal :=
  let n := lane.val
  let th := 30 + 15 * fld (s.laneCfg n) 37 35
  let l := s.lane n
  .next (if !s.detecting n then s
    else if millivolts < th then (s.setLane n { l with sigLow := true }).detectors n
    else if 141 * th < 100 * millivolts then (s.setLane n { l with sigLow := false }).detectors n
    else s)

/-- TRANSITION_DETECT_CHANGE (R61). -/
def execTransitionDetectChange (lane : Fin 40) (noTrans : Bool) (s : State) : Host.Outcome State Fault Refusal :=
  let n := lane.val
  .next (if !s.detecting n then s else (s.setLane n { s.lane n with noTrans := noTrans }).detectors n)

/-- CDR_LOCK_CHANGE (R606): four windows within ±1,000 ppm, or one outside. -/
def execCdrLockChange (lane : Fin 40) (inWindow : Bool) (s : State) : Host.Outcome State Fault Refusal :=
  let n := lane.val
  .next (if !s.detecting n then s else s.setLane n { s.lane n with cdrLocked := inWindow && !s.rawNoSignal n })

/-- WAKE_CFG enables activity wake on a lane. -/
def State.laneWakes (s : State) (n : Nat) : Bool := s.cfg.power.wake0.getLsbD n

/-- LANE_ACTIVITY (R63): the last 8 windows' transition counts. In the Gill state an inactive declaration arms the lane's wake (R549). -/
def execLaneActivity (lane : Fin 40) (windows : List Nat) (s : State) : Host.Outcome State Fault Refusal :=
  let n := lane.val
  let l := s.lane n
  let th := 2 ^ (fld (s.laneCfg n) 34 32 + 2)
  let last := lastN 8 windows
  let runs := decide (s.laneRate n ≠ 0) || s.laneWakes n
  let set (a : Bool) : State :=
    let s := (s.setLane n { l with active := a }).raiseIf (l.active != a) { src := 0x033, clr := !a, code := a.toNat, obj := n }
    if s.pwr.mode = .gill && !a then { s with pwr.armLanes := setFlag s.pwr.armLanes n true } else s
  .next (if last.length < 8 || !runs then s
    else if last.all fun w => decide (th ≤ w) then set true
    else if last.all fun w => decide (w < th) then set false
    else s)

/-- LANE_CONFIG_DONE (R58): the CDR has locked, or 20 ms have passed. -/
def execLaneConfigDone (lane : Fin 40) (s : State) : Host.Outcome State Fault Refusal :=
  let n := lane.val
  let l := s.lane n
  .next (if !l.config then s
    else (s.setLane n { l with config := false }).raise { src := 0x031, code := l.cdrLocked.toNat, obj := n })

/-- ETH_LINK_DOWN (R67): what the PCS reports; the link goes down when a condition fails. -/
def execEthLinkDown (lane : Fin 40) (p : PcsCond) (s : State) : Host.Outcome State Fault Refusal :=
  .next ((s.setLane lane.val { s.lane lane.val with pcs := p }).linkCheck lane.val)

/-- ETH_LINK_UP (R67): the conditions have held for 10 ms. -/
def execEthLinkUp (lane : Fin 40) (p : PcsCond) (s : State) : Host.Outcome State Fault Refusal :=
  let n := lane.val
  let s := s.setLane n { s.lane n with pcs := p }
  .next (if s.linkConds n && !s.linkUp n then
      (s.setLane n { s.lane n with linkUp := true }).raise { src := 0x030, code := 1, obj := n }
    else s.linkCheck n)

/-- LANE_PRBS_LOCK (R70): the checker's lock, and the bit errors counted while it was locked. -/
def execLanePrbsLock (lane : Fin 40) (lock : Bool) (errors : Nat) (s : State) : Host.Outcome State Fault Refusal :=
  let n := lane.val
  let l := s.lane n
  .next (if l.chk = 0 then s
    else
      let e := if l.chkLock then errors else 0
      ((s.setLane n { l with chkLock := lock, patErrs := l.patErrs + e }).count 0x0105 n e).raiseIf (l.chkLock != lock)
        { src := 0x032, clr := !lock, code := lock.toNat, obj := n })

/-! Commands -/

def idxMask : Word := maskOf [(7, 0)]
def laneCfgMask : Word := maskOf [(55, 32), (28, 23), (16, 16), (3, 0)]

/-- The index of a lane or port command. -/
def Cmd.idx (c : Cmd) : Nat := fld (c.word 0) 7 0

/-- The faults of a lane record (Table 3.2, R56, EQ_MODE). -/
def laneCfgBad (w : Word) : Bool :=
  let r := rateOf w
  decide (6 < r) || decide (fld w 39 38 = 3) || (flag w 16 && !rateSdh r) || (flag w 27 && decide (r ≠ 5)) ||
    (flag w 26 && !rateEth r)

/-- A record of the active maps, or of what accepted bushels will make of them, satisfies a test (log entry 12). -/
def State.either (s : State) (f : BCfg → Bool) : Bool := f s.cfg.b || f s.view

/-- Maintenance state of a lane ends (R73). -/
def Lane.quietened (l : Lane) : Lane := { l with loop := 0, gen := 0, chk := 0, chkLock := false }

/-- A lane record takes effect (R57, R58, R73). -/
def State.setLaneCfg (s : State) (n : Nat) (w : Word) : State :=
  let old := s.laneCfg n
  let moved := decide (rateOf old ≠ rateOf w) || sonetOf old != sonetOf w
  let s : State := { s with cfg.line.lane := s.cfg.line.lane.put laneCfgReset n w }
  if moved then
    let l := s.lane n
    let s := s.setLane n { l.quietened with config := true, cdrLocked := false, pcs := Lane.reset.pcs }
    let s := if rateSdh (rateOf w) then s.setSdhLane n { s.sdhLane n with framer := .hunt } else s.setSdhLane n .reset
    s.linkCheck n
  else s.linkCheck n

/-- LANE_SET (R55 to R58, R315). -/
def State.laneSet (s : State) (c : Cmd) : State :=
  let n := c.idx
  let w := c.word 1
  s.runOp c (setting 1 1 OPR [idxMask, laneCfgMask]) [(decide (39 < n), 0), (laneCfgBad w, 1)] none fun s =>
    let old := s.laneCfg n
    let rate := decide (rateOf old ≠ rateOf w)
    let moved := rate || sonetOf old != sonetOf w
    if (s.lane n).config then refuse stBusy 0 s
    else if moved && (s.either (fun b => laneInRecord b n || (b.pairOf n).isSome) || s.laneBound n) then refuse stState 0 s
    else if rate && s.either (fun b => b.queues.any fun x => decide (x.2.lane = n)) then refuse stState 0 s
    else .ok (s.setLaneCfg n w) []

/-- LANE_GET. -/
def State.laneGet (s : State) (c : Cmd) : State :=
  s.runOp c (plainOp 1 2 OPR [idxMask]) [(decide (39 < c.idx), 0)] none fun s => .ok s [s.laneCfg c.idx]

/-- LANE_STATUS (Table 3.6, R59). While the equaliser adapts, its setting is a free value. -/
def State.laneStatus (s : State) (c : Cmd) : State :=
  let n := c.idx
  s.runOp c (plainOp 1 3 OPR [idxMask]) [(decide (39 < n), 0)] none fun s =>
    let l := s.lane n
    let w := s.laneCfg n
    let off := decide (rateOf w = 0)
    let eq : Nat × State :=
      if fld w 39 38 ≠ 0 then (fld w 43 40, s)
      else if l.frozen then (l.ctle.toNat, s) else (s.takeFree.1.toNat % 16, s.takeFree.2)
    .ok eq.2 [mkWord [(15, 12, eq.1), (8, 8, l.config.toNat), (7, 7, l.chkLock.toNat), (6, 6, (decide (l.gen ≠ 0)).toNat),
      (5, 4, l.loop.toNat), (3, 3, l.linkUp.toNat), (2, 2, (if off then s.laneWakes n && l.active else l.active).toNat),
      (1, 1, (!off && l.cdrLocked).toNat), (0, 0, (s.rawNoSignal n).toNat)]]

/-- FORCE = 1 from a sender below SUP is refused in every case (R71). -/
def forceFail (c : Cmd) : Option (Nat × Nat) :=
  if flag (c.word 1) 8 && decide (c.rank ≠ SUP) then some (stNotPermitted, 0x05) else none

/-- What a far loopback or a generator needs force for on a lane (R71). -/
def State.laneCarrying (s : State) (n : Nat) : Bool :=
  s.either (fun b => laneInRecord b n || (b.pairOf n).isSome) || flag (s.laneCfg n) 28

/-- LANE_LOOP (R71, R72). -/
def State.laneLoop (s : State) (c : Cmd) : State :=
  let n := c.idx
  let m := fld (c.word 1) 1 0
  s.runOp c (plainOp 1 4 OPR [idxMask, maskOf [(8, 8), (1, 0)]]) [(decide (39 < n), 0), (decide (m = 3), 1)] (forceFail c) fun s =>
    let l := s.lane n
    let need := decide (m = 2) && s.laneCarrying n
    if (need && !flag (c.word 1) 8) || (decide (m = 2) && decide (l.gen ≠ 0)) then refuse stState 0 s
    else .ok ((s.setLane n { l with loop := BitVec.ofNat 2 m }).raiseIf need { src := 0x038, obj := n }) []

/-- LANE_PRBS (R69, R71, R72). -/
def State.lanePrbs (s : State) (c : Cmd) : State :=
  let n := c.idx
  let g := fld (c.word 1) 2 0
  let k := fld (c.word 1) 6 4
  s.runOp c (plainOp 1 5 OPR [idxMask, maskOf [(8, 8), (6, 4), (2, 0)]]) [(decide (39 < n), 0), (decide (4 < g ∨ 4 < k), 1)]
    (forceFail c) fun s =>
    let l := s.lane n
    let need := decide (g ≠ 0) && s.laneCarrying n
    if (need && !flag (c.word 1) 8) || (decide (g ≠ 0) && decide (l.loop = 2)) then refuse stState 0 s
    else
      let l' := { l with gen := BitVec.ofNat 3 g, chk := BitVec.ofNat 3 k, chkLock := l.chkLock && decide (l.chk.toNat = k) }
      .ok ((s.setLane n l').raiseIf need { src := 0x038, obj := n }) []

/-- MATE_SET (R74). -/
def State.mateSet (s : State) (c : Cmd) : State :=
  let w := c.word 1
  let bad := decide (rateOf w ≠ 0) || flag w 16 || flag w 26 || flag w 27 || flag w 28 || decide (fld w 39 38 = 3)
  s.runOp c (setting 1 6 SUP [idxMask, laneCfgMask]) [(decide (3 < c.idx), 0), (bad, 1)] none fun s =>
    .ok { s with cfg.line.mate := s.cfg.line.mate.put laneCfgReset c.idx w } []

/-- The mate link is up (R76). -/
def State.mateLinkUp (s : State) : Bool :=
  s.mateOn && (List.range 4).all fun n => let m := s.mate n; m.locked && m.identified && m.deskewed

/-- MATE_STATUS (Table 3.6). The amplitude and activity of a mate lane, and an adaptive equaliser's setting, are free values (log entry 21). -/
def State.mateStatus (s : State) (c : Cmd) : State :=
  let n := c.idx
  s.runOp c (plainOp 1 7 OPR [idxMask]) [(decide (3 < n), 0)] none fun s =>
    let m := s.mate n
    let w := s.mateCfg n
    let f := s.takeFree
    .ok f.2 [mkWord [(15, 12, if fld w 39 38 ≠ 0 then fld w 43 40 else f.1.toNat % 16), (11, 11, m.identified.toNat),
      (10, 9, if m.identified then m.partner.toNat else 0), (7, 7, m.chkLock.toNat), (6, 6, (decide (m.gen ≠ 0)).toNat),
      (5, 4, m.loop.toNat), (3, 3, s.mateLinkUp.toNat), (2, 2, f.1.toNat / 16), (1, 1, m.locked.toNat),
      (0, 0, if m.locked then 0 else f.1.toNat / 32)]]

def execLaneSet (c : Cmd) (s : State) : Host.Outcome State Fault Refusal := packet c s (·.laneSet c)
def execLaneGet (c : Cmd) (s : State) : Host.Outcome State Fault Refusal := packet c s (·.laneGet c)
def execLaneStatus (c : Cmd) (s : State) : Host.Outcome State Fault Refusal := packet c s (·.laneStatus c)
def execLaneLoop (c : Cmd) (s : State) : Host.Outcome State Fault Refusal := packet c s (·.laneLoop c)
def execLanePrbs (c : Cmd) (s : State) : Host.Outcome State Fault Refusal := packet c s (·.lanePrbs c)
def execMateSet (c : Cmd) (s : State) : Host.Outcome State Fault Refusal := packet c s (·.mateSet c)
def execMateStatus (c : Cmd) (s : State) : Host.Outcome State Fault Refusal := packet c s (·.mateStatus c)

end Sys2Proof.Machine
end

