-- ==== Sys2Proof/Machine/Sdh.lean ====
section
/-!
DEFINITION. SDH and SONET reception (04_sdh_framing.md): framer, acceptance, pointer interpreters and processes, BIP monitors, defects, and the
records and commands of class 0x02.
-/
namespace Sys2Proof.Machine

/-! Thresholds (R110), in exact arithmetic -/

/-- G and b of a monitor (Table 4.6). -/
structure MonPar where
  g : Nat
  b : Nat
  deriving DecidableEq, Repr

def msPar (rate : Nat) : MonPar := ⟨24 * rateN rate, 801⟩
def pathPar (e : Eid) : MonPar :=
  if eidLevelN e = 0 then (if hoType e = 1 then ⟨8, 765⟩ else ⟨8, 2349 * (typeUnits (hoType e) / 3)⟩)
  else if loTut e = 0 then ⟨2, 560⟩ else ⟨2, 416⟩

/-- E1(10^-n) as a numerator and a denominator. -/
def expected (p : MonPar) (n : Nat) : Nat × Nat :=
  let a := 10 ^ (n * p.b)
  (p.g * (a - (10 ^ n - 2) ^ p.b), 2 * a)

/-- W, SET and CLR of a threshold exponent. -/
def window (p : MonPar) (n : Nat) : Nat := let e := expected p n; Nat.max 1 (ceilDiv (16 * e.2) e.1)
def setCount (p : MonPar) (n : Nat) : Nat := let e := expected p n; ceilDiv (6 * window p n * e.1) (10 * e.2)
def clrCount (p : MonPar) (n : Nat) : Nat := let e := expected p (n + 1); window p n * e.1 / e.2

/-- The end of a window (R111). -/
def Monitor.judge (m : Monitor) (p : MonPar) (n : Nat) : Monitor :=
  match m.ended with
  | none => m
  | some v => { m with ended := none, on := if setCount p n ≤ v then true else if v ≤ clrCount p n then false else m.on }

/-- LANE_OH and its exponents. -/
def State.laneOh (s : State) (n : Nat) : Word := s.cfg.sdh.laneOh.look laneOhReset n
def sdExpOh (w : Word) : Nat := fld w 11 8
def sfExpOh (w : Word) : Nat := fld w 3 0
def sdExpPath (w : Word) : Nat := fld w 39 36
def sfExpPath (w : Word) : Nat := fld w 35 32

/-! Defects and masks (R113) -/

/-- The processing of chapter 4 runs on a lane (R90). -/
def State.sdhRuns (s : State) (n : Nat) : Bool := s.laneSdh n && !(s.lane n).config && s.laneOn n

def SdhLane.oof (l : SdhLane) : Bool := decide (l.framer ≠ .sync)
def SdhLane.hasLof (l : SdhLane) : Bool := l.lof && !l.los
def SdhLane.hasAis (l : SdhLane) : Bool := l.msAis.on && !l.los && !l.lof && !l.oof
def SdhLane.hasRdi (l : SdhLane) : Bool := l.msRdi.on && !l.los && !l.lof && !l.oof && !l.msAis.on
/-- What masks B2's monitor, and what masks every path of the lane. -/
def SdhLane.mask (l : SdhLane) : Bool := l.los || l.lof || l.oof || l.msAis.on
def SdhLane.hasExc (l : SdhLane) : Bool := l.exc.on && !l.mask
def SdhLane.hasDeg (l : SdhLane) : Bool := l.deg.on && !l.mask

/-- Line SF and SD (Table 4.9). -/
def State.lineSf (s : State) (n : Nat) : Bool :=
  let l := s.sdhLane n
  s.sdhRuns n && (l.los || l.hasLof || l.hasAis || l.hasExc)
def State.lineSd (s : State) (n : Nat) : Bool := s.sdhRuns n && (s.sdhLane n).hasDeg

/-- The lane puts all ones + QB on every path (Table 4.9): LOS, LOF, MS-AIS or OOF. -/
def State.lineDown (s : State) (n : Nat) : Bool := !s.sdhRuns n || (s.sdhLane n).mask

/-- The HO path that carries a TU: the AU-4 of a triple coded 0x3, else the AU-3 of the unit. -/
def State.carrierPath (s : State) (e : Eid) : Eid :=
  let t := loUnit e / 3
  if s.cfg.b.tcode (eidObj e) t = 3 then mkEid (eidPort e) 0 (3 * t) else mkEid (eidPort e) 0 (256 + loUnit e)

/-- AIS or LOP of a path's own interpreter. -/
def PathState.down (p : PathState) : Bool := decide (p.interp.st ≠ .norm)

/-- A server defect masks a path (R113). -/
def State.pathMasked (s : State) (e : Eid) : Bool :=
  s.lineDown (eidPort e) || (decide (eidLevelN e = 1) && (s.path (s.carrierPath e)).down)

/-- The source stage puts all ones + QB on a line path (Table 4.9). -/
def State.pathDown (s : State) (e : Eid) : Bool := s.pathMasked e || (s.path e).down

/-- Path SF with inherent monitoring: line SF, AIS or LOP of the path or of the path that carries it. A lane that is powered off counts as under SF
(R533); on one in CONFIG nothing is declared (R90). -/
def State.pathSfI (s : State) (e : Eid) : Bool :=
  let l := s.sdhLane (eidPort e)
  !s.laneOn (eidPort e) || (s.sdhRuns (eidPort e) && (l.los || l.hasLof || l.hasAis ||
    (!l.mask && (decide (eidLevelN e = 1) && (s.path (s.carrierPath e)).down)) || (!s.pathMasked e && (s.path e).down)))

/-- A tick finds these paths masked: nothing of them is received. The running block is spoiled, and from the next tick on no block is clean (R116). -/
def State.spoilMasked (s : State) : State :=
  s.sdh.paths.foldl (fun s x =>
    let e : Eid := BitVec.ofNat 32 x.1
    let p := s.path e
    if decide (eidKind e = .line) && s.pathMasked e then s.setPath e { p with clean := p.clean && !p.masked, spoiled := true, masked := true } else s) s

def State.pathExc (s : State) (e : Eid) : Bool := (s.path e).exc.on && !s.pathDown e
def State.pathDeg (s : State) (e : Eid) : Bool := (s.path e).deg.on && !s.pathDown e
def State.pathRdi (s : State) (e : Eid) : Bool := (s.path e).rdi.on && !s.pathDown e

/-- Path SF with non-intrusive monitoring adds EXC. -/
def State.pathSfN (s : State) (e : Eid) : Bool := s.pathSfI e || s.pathExc e

/-! Reporting (R114) -/

/-- Line defects: code, declared, masked. -/
def SdhLane.defects (l : SdhLane) : List (Nat × Bool × Bool) :=
  let m := l.los || l.lof || l.oof
  [(0x01, l.los, false), (0x02, l.lof, l.los), (0x03, l.msAis.on, m), (0x04, l.msRdi.on, m || l.msAis.on),
    (0x05, l.exc.on, m || l.msAis.on), (0x06, l.deg.on, m || l.msAis.on)]

/-- The changes to report: (code, declared) for every unmasked defect whose state is not the one reported. -/
def defectChanges (ds : List (Nat × Bool × Bool)) (reported : List Nat) : List (Nat × Bool) :=
  (ds.filter fun d => !d.2.2 && (d.2.1 != reported.contains d.1)).map fun d => (d.1, d.2.1)

/-- The reported list after the changes. -/
def applyChanges (cs : List (Nat × Bool)) (reported : List Nat) : List Nat :=
  cs.foldl (fun l c => if c.2 then l ++ [c.1] else l.erase c.1) reported

/-- Raise one event for each change. -/
def State.raiseChanges (s : State) (src obj : Nat) (cs : List (Nat × Bool)) : State :=
  cs.foldl (fun s c => s.raise { src := src, clr := !c.2, code := c.1, obj := obj }) s

def State.reportLane (s : State) (n : Nat) : State :=
  let l := s.sdhLane n
  let cs := defectChanges l.defects l.reported
  (s.setSdhLane n { l with reported := applyChanges cs l.reported, lofSeen := l.lofSeen || l.hasLof }).raiseChanges 0x040 n cs

/-- A path is in use (R114). -/
def State.pathInUse (s : State) (e : Eid) : Bool :=
  let ho := decide (eidLevelN e = 0)
  let named (f : Eid) : Bool :=
    decide (f = e) || (decide (eidKind f = .line) && decide (eidPort f = eidPort e) &&
      (if ho then decide (eidLevelN f ≠ 0) && (hoTriples e).contains (loUnit f / 3) else decide (eidLevelN f = 2) && decide (grainVc f = e)))
  s.cfg.b.someEnd named || s.cfg.b.someLeg named || s.isCarrier e || s.isMember e ||
    (ho && (hoTriples e).any fun t => let c := s.cfg.b.tcode (eidObj e) t; decide (c = 3 ∨ c = 4))

def State.pathDefects (s : State) (e : Eid) : List (Nat × Bool × Bool) :=
  let p := s.path e
  let m := s.pathMasked e
  let base := if eidLevelN e = 0 then 0x11 else 0x21
  [(base, decide (p.interp.st = .ais), m), (base + 1, decide (p.interp.st = .lop), m), (base + 2, p.rdi.on, m || p.down),
    (base + 3, p.exc.on, m || p.down), (base + 4, p.deg.on, m || p.down)]

/-- The defects of the path that an EID reads are reported under it; a path not in use follows in silence (log entry 22). -/
def State.reportSeen (s : State) (e : Eid) : State :=
  let p := s.path e
  let cs := defectChanges (s.pathDefects (s.seen e)) p.reported
  let s := s.setPath e { p with reported := applyChanges cs p.reported }
  if s.pathInUse e then s.raiseChanges (if eidLevelN e = 0 then 0x041 else 0x042) e.toNat cs else s

/-- A path's defects are reported; those of the lane a pair does not select are not (R247). -/
def State.reportPath (s : State) (e : Eid) : State :=
  match s.reportedAs e with
  | some f => s.reportSeen f
  | none => s

/-! Pointers (R102 to R104) -/

inductive PtrClass where
  | ais
  | ndf
  | inc
  | dec
  | norm
  | new
  | inv
  deriving DecidableEq, Repr

def bitsDiffer (a b n : Nat) : Nat := popCount (a ^^^ b) n

/-- Normal and enabled NDF: the pattern or one bit away from it. -/
def ndfNormal (w : BitVec 16) : Bool := decide (bitsDiffer (fld w 15 12) 0x6 4 ≤ 1)
def ndfEnabled (w : BitVec 16) : Bool := decide (bitsDiffer (fld w 15 12) 0x9 4 ≤ 1)

def iBits : Nat := 0x2AA
def dBits : Nat := 0x155

/-- The class of a received pointer, checked in the table's order (R102). `top` is the highest valid offset. -/
def Interp.classify (p : Interp) (top : Nat) (w : BitVec 16) : PtrClass :=
  let v := fld w 9 0
  let x := v ^^^ p.ptr
  let i := popCount (x &&& iBits) 10
  let d := popCount (x &&& dBits) 10
  if w = 0xFFFF then .ais
  else if ndfEnabled w && decide (v ≤ top) then .ndf
  else if ndfNormal w && decide (3 ≤ i) && decide (d ≤ 2) && decide (3 ≤ p.since + 1) then .inc
  else if ndfNormal w && decide (3 ≤ d) && decide (i ≤ 2) && decide (3 ≤ p.since + 1) then .dec
  else if ndfNormal w && decide (v = p.ptr) then .norm
  else if ndfNormal w && decide (v ≤ top) then .new
  else .inv

/-- A new current pointer, with fresh counts. -/
def Interp.take (p : Interp) (v ndf : Nat) : Interp :=
  { p with st := .norm, ptr := v, invRun := 0, ndfRun := ndf, aisRun := 0, newVal := 0, newRun := 0, since := 0 }

/-- A change of state without a pointer. -/
def Interp.fall (p : Interp) (st : PtrState) : Interp :=
  { p with st := st, invRun := 0, ndfRun := 0, aisRun := 0, newVal := 0, newRun := 0 }

/-- One pointer through the state machine (Table 4.5). -/
def Interp.step (p0 : Interp) (top : Nat) (w : BitVec 16) : Interp :=
  let c := p0.classify top w
  let v := fld w 9 0
  let p := { p0 with since := Nat.min 3 (p0.since + 1) }
  let run := if 0 < p.newRun ∧ v = p.newVal then p.newRun + 1 else 1
  let valid := ndfNormal w && decide (v ≤ top)
  match p.st with
  | .norm =>
    match c with
    | .norm => { p with invRun := 0, ndfRun := 0, aisRun := 0, newRun := 0 }
    | .inc => p.take ((p.ptr + 1) % (top + 1)) 0
    | .dec => p.take ((p.ptr + top) % (top + 1)) 0
    | .ndf => if 8 ≤ p.ndfRun + 1 then p.fall .lop else p.take v (p.ndfRun + 1)
    | .new =>
      if 3 ≤ run then p.take v 0
      else if 8 ≤ p.invRun + 1 then p.fall .lop
      else { p with invRun := p.invRun + 1, ndfRun := 0, aisRun := 0, newVal := v, newRun := run }
    | .inv => if 8 ≤ p.invRun + 1 then p.fall .lop else { p with invRun := p.invRun + 1, ndfRun := 0, aisRun := 0, newRun := 0 }
    | .ais => if 3 ≤ p.aisRun + 1 then p.fall .ais else { p with aisRun := p.aisRun + 1, invRun := 0, ndfRun := 0, newRun := 0 }
  | .ais =>
    if c = .ndf then p.take v 1
    else if valid then (if 3 ≤ run then p.take v 0 else { p with newVal := v, newRun := run, invRun := 0 })
    else if c = .inv then (if 8 ≤ p.invRun + 1 then p.fall .lop else { p with invRun := p.invRun + 1, newRun := 0 })
    else { p with invRun := 0, newRun := 0 }
  | .lop =>
    if c = .ndf then p.take v 1
    else if valid then (if 3 ≤ run then p.take v 0 else { p with newVal := v, newRun := run, aisRun := 0 })
    else if c = .ais then (if 3 ≤ p.aisRun + 1 then p.fall .ais else { p with aisRun := p.aisRun + 1, newRun := 0 })
    else { p with aisRun := 0, newRun := 0 }

/-- The concatenation indication: enabled NDF and a value of all ones (R104). -/
def catInd (w : BitVec 16) : Bool := ndfEnabled w && decide (fld w 9 0 = 0x3FF) && decide (w ≠ 0xFFFF)

/-- Runs of the further members, each kept on its own; AIS_ind counts towards AIS alone (log entry 23). -/
def catRuns (old : List Nat) (hit : List Bool) : List Nat :=
  (List.range hit.length).map fun i => if nth false hit i then nth 0 old i + 1 else 0

/-- A frame's pointers of a path: the first member's interpreter, and the rule of the others (R104). -/
def Interp.stepAll (p : Interp) (top : Nat) (w : BitVec 16) (members : List (BitVec 16)) : Interp :=
  let q := p.step top w
  let cb := catRuns p.catBad (members.map fun m => !catInd m && decide (m ≠ 0xFFFF))
  let ca := catRuns p.catAis (members.map fun m => decide (m = 0xFFFF))
  let held := if p.st ≠ .norm ∧ q.st = .norm ∧ !members.all catInd then { p with since := q.since } else q
  let r := { held with catBad := cb, catAis := ca }
  if ca.any (fun n => decide (3 ≤ n)) then { r.fall .ais with catBad := cb, catAis := ca }
  else if cb.any (fun n => decide (8 ≤ n)) then { r.fall .lop with catBad := cb, catAis := ca }
  else r

/-! Pointer processes (R106, R107) -/

/-- The justification unit of a path. -/
def justUnit (e : Eid) : Nat := if eidLevelN e = 0 then typeUnits (hoType e) else 1

/-- Highest valid offset of a path. -/
def topOffset (e : Eid) : Nat := if eidLevelN e = 0 then 782 else if loTut e = 0 then 139 else 103

/-- What a pointer process did in one frame. -/
inductive PtrAct where
  | none
  | pos
  | neg
  | recentre
  | start
  deriving DecidableEq, Repr

/-- One frame or multiframe of a process, after `drift` octets came in more than went out. A process that starts does so from a re-centre
with pointer `first`. -/
def PtrProc.step (p : PtrProc) (u top : Nat) (drift : Int) (first : Nat) : PtrProc × PtrAct :=
  let m := top + 1
  let j := Nat.min 4 (p.sinceJust + 1)
  let d := Nat.min 4 (p.sinceNdf + 1)
  if !p.started then ({ p with fill := 6 * u, value := first % m, sinceJust := 4, sinceNdf := 0, started := true }, .start)
  else
    let f := p.fill + drift
    if p.stepped then
      ({ p with fill := 6 * u, value := (((p.value : Int) + (6 * u - f) / u) % m).toNat, sinceJust := j, sinceNdf := 0, stepped := false }, .recentre)
    else if f ≤ 0 then ({ p with fill := 6 * u, value := (p.value + 6) % m, sinceJust := j, sinceNdf := 0 }, .recentre)
    else if 12 * u ≤ f then ({ p with fill := 6 * u, value := (p.value + m - 6) % m, sinceJust := j, sinceNdf := 0 }, .recentre)
    else if 4 ≤ j ∧ 4 ≤ d ∧ f ≤ 4 * u then
      ({ p with fill := f + u, value := (p.value + 1) % m, sinceJust := 0, sinceNdf := d }, .pos)
    else if 4 ≤ j ∧ 4 ≤ d ∧ 8 * u ≤ f then
      ({ p with fill := f - u, value := (p.value + m - 1) % m, sinceJust := 0, sinceNdf := d }, .neg)
    else ({ p with fill := f, sinceJust := j, sinceNdf := d }, .none)

/-- The ingress process of a path in one frame or multiframe, with its counts and event. -/
def State.ingress (s : State) (e : Eid) (drift : Int) : State :=
  let p := s.path e
  let f := s.takeFree
  let r := p.ingress.step (justUnit e) (topOffset e) drift f.1.toNat
  let s := if p.ingress.started then s else f.2
  let pos := (decide (r.2 = .pos)).toNat
  let neg := (decide (r.2 = .neg)).toNat
  let re := decide (r.2 = .recentre)
  let s := s.setPath e { p with ingress := r.1, posJust := satAdd 8 p.posJust pos, negJust := satAdd 8 p.negJust neg }
  (((s.count 0x0202 e.toNat pos).count 0x0203 e.toNat neg).count 0x0206 e.toNat re.toNat).raiseIf re { src := 0x046, obj := e.toNat }

/-! Path reception -/

def State.pathSf (s : State) (e : Eid) : Nat := sfExpPath (s.pathOh e)
def State.pathSd (s : State) (e : Eid) : Nat := sdExpPath (s.pathOh e)

/-- One block of a path's monitors (R111, R112). -/
def State.pathBlock (s : State) (e : Eid) (viol : Nat) : State :=
  let p := s.path e
  if s.pathDown e then s.setPath e { p with masked := true }
  else
    let x := if p.masked then p.exc.restart else p.exc
    let d := if p.masked then p.deg.restart else p.deg
    let par := pathPar e
    (s.setPath e { p with masked := false, exc := x.block (window par (s.pathSf e)) viol, deg := d.block (window par (s.pathSd e)) viol }).count
      0x0200 e.toNat viol

/-- The judgement of the block before, and what spoils the present one (R116). -/
def State.pathQuality (s : State) (e : Eid) (viol : Nat) (qb : Bool) : State :=
  let p := s.path e
  s.setPath e { p with clean := decide (viol = 0) && !p.spoiled, lastViol := viol,
                       spoiled := qb || s.pathDown e || (s.path e).exc.on || s.lineSf (eidPort e) }

/-- The H4 phase of an LO-structured path (R100). -/
def PathState.h4 (p : PathState) (v : BitVec 2) : PathState × Bool :=
  let own := p.phase + 1
  if v = own then ({ p with phase := own, h4Last := v, h4Run := 0 }, false)
  else
    let run := if 0 < p.h4Run ∧ v = p.h4Last + 1 then p.h4Run + 1 else 1
    if 3 ≤ run then ({ p with phase := v, h4Last := v, h4Run := 0 }, true)
    else ({ p with phase := own, h4Last := v, h4Run := run }, true)

/-- The octet that stands at a mark position is not captured (R98). -/
def captured (markPos at_ : Nat) (b : Byte) : Byte := if markPos = at_ then 0 else b

/-- One HO path in a received frame of a lane in frame. -/
def State.hoReceive (s : State) (r : HoRx) : State :=
  let e := r.eid
  let p := s.path e
  let m := markPosOf (s.pathOh e)
  let viol := popCount (r.b3.toNat ^^^ r.b3Calc.toNat) 8
  let rei := let v := fld r.g1 7 4; if v ≤ 8 then v else 0
  let lo := (hoTriples e).any fun t => let c := s.cfg.b.tcode (eidObj e) t; decide (c = 3 ∨ c = 4)
  let h := if lo then p.h4 (BitVec.ofNat 2 (fld r.h4 1 0)) else (p, false)
  let s := s.setPath e { h.1 with
    interp := p.interp.stepAll (topOffset e) r.ptr r.members, rdi := p.rdi.step (flag r.g1 3) 5 5,
    cap := [r.g1, captured m 1 r.f2, captured m 2 r.f3, r.k3, r.n1, r.h4, r.c2], trace := lastN 64 (p.trace ++ [r.j1]) }
  let s := ((s.count 0x0207 e.toNat h.2.toNat).count 0x0201 e.toNat rei).ingress e r.drift
  ((s.pathBlock e viol).pathQuality e viol r.qb).reportPath e

/-- TU_MULTIFRAME_RECEIVE (R93, R102): held while the carrying path or the lane is down. -/
def execTuMultiframeReceive (t : TuRx) (s : State) : Host.Outcome State Fault Refusal :=
  let e := t.eid
  .next (if decide (eidKind e ≠ .line) || decide (eidLevelN e ≠ 1) || !eidForm e || !s.sdhRuns (eidPort e) then s
    else if s.pathMasked e then
      let p := s.path e
      s.setPath e { p with clean := false, spoiled := true, masked := true }
    else
      let p := s.path e
      let m := markPosOf (s.pathOh e)
      let viol := popCount (fld t.v5 7 6 ^^^ t.bip2Calc.toNat) 2
      let s := s.setPath e { p with
        interp := p.interp.step (topOffset e) t.ptr, rdi := p.rdi.step (flag t.v5 0) 5 5,
        cap := [t.v5, captured m 1 t.n2, t.k4], trace := lastN 16 (p.trace ++ [t.j2]) }
      let s := (s.count 0x0201 e.toNat (fld t.v5 5 5)).ingress e t.drift
      ((s.pathBlock e viol).pathQuality e viol t.qb).reportPath e)

/-! Section and line reception -/

/-- The alignment pattern (R91). -/
def alignPattern : BitVec 48 := 0xF6F6_F628_2828

/-- The framer's next state, and its count of bad patterns (R91). -/
def SdhLane.frameStep (l : SdhLane) (ok : Bool) : Framer × Nat :=
  match l.framer with
  | .hunt => (if ok then .presync else .hunt, 0)
  | .presync => (if ok then .sync else .hunt, 0)
  | .sync => if ok then (.sync, 0) else if 5 ≤ l.badPattern + 1 then (.hunt, 0) else (.sync, l.badPattern + 1)

/-- The LOF count of one frame, while no LOS holds it (Table 4.8). -/
def SdhLane.lofStep (l : SdhLane) (inFrame : Bool) : SdhLane :=
  if inFrame then
    let g := Nat.min 24 (l.goodCount + 1)
    if 24 ≤ g then { l with goodCount := g, oofCount := 0, lof := false } else { l with goodCount := g }
  else
    let o := Nat.min 24 (l.oofCount + 1)
    { l with goodCount := 0, oofCount := o, lof := l.lof || decide (24 ≤ o) }

/-- The lane's entry to OOF is counted. -/
def State.noteOof (s : State) (n : Nat) (was : SdhLane) : State :=
  let now := s.sdhLane n
  let entered := !was.oof && now.oof
  (s.setSdhLane n { now with nOof := now.nOof + entered.toNat }).count 0x0103 n entered.toNat

/-- K2 bits 6 to 8 step their acceptance only with values that are neither MS-AIS nor MS-RDI (R95). -/
def acceptLow (a : Accept) (v : Nat) : Accept :=
  if v = 6 ∨ v = 7 then { a with run := 0 } else a.step (BitVec.ofNat 8 v) 3

/-- An accepted change reaches the protection processor, from the protection lane of a pair (R95, R264, R275). -/
def State.kDelivered (s : State) (n : Nat) : State :=
  match s.cfg.b.protOf n with
  | none => s
  | some x =>
    let p := s.protection false x.1
    s.setProtection false x.1 { p with kWait := match p.kWait with | none => some s.now | w => w }

/-- Section and line overhead of a frame in SYNC (Table 4.2). -/
def State.lineReceive (s : State) (f : SdhRx) : State :=
  let n := f.lane.val
  let l := s.sdhLane n
  let oh := s.laneOh n
  let par := msPar (s.laneRate n)
  let b1 := popCount (f.b1.toNat ^^^ f.b1Calc.toNat) 8
  let b2 := popCount (f.b2.toNat ^^^ f.b2Calc.toNat) par.g
  let k1 := l.k1.step f.k1 3
  let k2hi := l.k2hi.step (BitVec.ofNat 8 (fld f.k2 7 3)) 3
  let low := fld f.k2 2 0
  let k2lo := acceptLow l.k2lo low
  let s1 := l.s1.step (BitVec.ofNat 8 (fld f.s1 3 0)) 8
  let kChange := decide (k1.acc ≠ l.k1.acc ∨ k2hi.acc ≠ l.k2hi.acc ∨ k2lo.acc ≠ l.k2lo.acc)
  let stable := decide (3 ≤ k1.run ∧ 3 ≤ k2hi.run)
  let wait := if stable then none else match l.apsWait with | none => some 1 | some w => some (w + 1)
  let msAis := l.msAis.step (decide (low = 7)) 3 3
  let masked := msAis.on || l.los || l.lof
  let x := if l.masked then l.exc.restart else l.exc
  let d := if l.masked then l.deg.restart else l.deg
  let l' := { l with
    k1 := k1, k2hi := k2hi, k2lo := k2lo, s1 := s1, apsWait := wait, apsInc := l.apsInc && !stable, msAis := msAis,
    msRdi := l.msRdi.step (decide (low = 6)) 5 5, masked := masked,
    exc := if masked then l.exc else x.block (window par (sfExpOh oh)) b2,
    deg := if masked then l.deg else d.block (window par (sdExpOh oh)) b2,
    capE1 := f.e1, capF1 := f.f1, capE2 := f.e2, capS1 := f.s1, capK1 := f.k1, capK2 := f.k2, capM1 := f.m1, capD := f.d.take 12,
    capJ0 := lastN 64 (l.capJ0 ++ [f.j0]), nB1 := l.nB1 + b1, nB2 := l.nB2 + (if masked then 0 else b2), nRei := l.nRei + f.m1.toNat,
    lastB2 := Nat.min 255 b2 }
  let s := (((s.setSdhLane n l').count 0x0100 n b1).count 0x0101 n (if masked then 0 else b2)).count 0x0102 n f.m1.toNat
  let s := s.raiseIf kChange { src := 0x043, code := k1.acc.toNat, aux := k2hi.acc.toNat * 8 + k2lo.acc.toNat, obj := n }
  let s := if kChange then s.kDelivered n else s
  s.raiseIf (decide (s1.acc ≠ l.s1.acc)) { src := 0x045, code := s1.acc.toNat, obj := n }

/-- A received frame (R91, R93): nothing runs while LOS is declared; out of frame, acceptance and interpreters hold. -/
def State.sdhReceive (s : State) (f : SdhRx) : State :=
  let n := f.lane.val
  let l := s.sdhLane n
  if !s.sdhRuns n || l.los then s
  else
    let fr := l.frameStep (decide (f.pattern = alignPattern))
    let l1 := { l with framer := fr.1, badPattern := fr.2, masked := l.masked || decide (fr.1 ≠ Framer.sync) }
    let s := (s.setSdhLane n (l1.lofStep (decide (fr.1 = Framer.sync)))).noteOof n l
    let mine := f.paths.filter fun r => decide (eidKind r.eid = .line) && decide (eidPort r.eid = n) && decide (eidLevelN r.eid = 0) && eidForm r.eid
    if fr.1 = Framer.sync then
      let s := (s.lineReceive f).reportLane n
      mine.foldl State.hoReceive s
    else
      mine.foldl (fun s r => s.setPath r.eid { s.path r.eid with clean := false, spoiled := true, masked := true }) (s.reportLane n)

/-- APS_INCONSISTENCY (R95): 12 frames have passed since the first change without an acceptance. -/
def execApsInconsistency (lane : Fin 40) (s : State) : Host.Outcome State Fault Refusal :=
  let n := lane.val
  let l := s.sdhLane n
  .next (match l.apsWait with
    | none => s
    | some w =>
      if w < 12 || l.apsInc || !s.sdhRuns n then s
      else (s.setSdhLane n { l with apsInc := true }).raise { src := 0x044, obj := n })

/-- LOS_DECLARE (R91, R113): 100 µs of raw no-signal. -/
def execLosDeclare (lane : Fin 40) (s : State) : Host.Outcome State Fault Refusal :=
  let n := lane.val
  let l := s.sdhLane n
  .next (if !s.sdhRuns n || l.los || !s.rawNoSignal n then s
    else ((s.setSdhLane n { l with los := true, framer := .hunt, badPattern := 0, masked := true }).noteOof n l).reportLane n)

/-- LOS_CLEAR (R113): 250 µs of signal. -/
def execLosClear (lane : Fin 40) (s : State) : Host.Outcome State Fault Refusal :=
  let n := lane.val
  let l := s.sdhLane n
  .next (if !s.sdhRuns n || !l.los || s.rawNoSignal n then s else (s.setSdhLane n { l with los := false }).reportLane n)

/-- BIP_WINDOW_END (R111): a lane's or a path's window of EXC or DEG has ended. -/
def execBipWindowEnd (path : Option Eid) (lane : Fin 40) (deg : Bool) (s : State) : Host.Outcome State Fault Refusal :=
  .next (match path with
    | none =>
      let n := lane.val
      let l := s.sdhLane n
      let par := msPar (s.laneRate n)
      if !s.sdhRuns n then s
      else (s.setSdhLane n (if deg then { l with deg := l.deg.judge par (sdExpOh (s.laneOh n)) }
        else { l with exc := l.exc.judge par (sfExpOh (s.laneOh n)) })).reportLane n
    | some e =>
      let p := s.path e
      if decide (eidKind e ≠ .line) || !eidForm e || decide (2 ≤ eidLevelN e) || !s.sdhRuns (eidPort e) then s
      else (s.setPath e (if deg then { p with deg := p.deg.judge (pathPar e) (s.pathSd e) }
        else { p with exc := p.exc.judge (pathPar e) (s.pathSf e) })).reportPath e)

/-! Commands of class 0x02, opcodes 0x01 to 0x0A -/

def eidMask : Word := maskOf [(31, 0)]

/-- The EID of a path command. -/
def Cmd.eid (c : Cmd) : Eid := BitVec.ofNat 32 (fld (c.word 0) 31 0)

/-- An EID a path command of this chapter rejects (§4.9). -/
def badPathEid (e : Eid) : Bool := decide (eidKind e ≠ .line) || decide (2 ≤ eidLevel e) || !eidForm e

/-- The exponents of a record are out of their ranges (R118). -/
def badExps (sd sf : Nat) : Bool := decide (sd < 5 ∨ 9 < sd ∨ sf < 3 ∨ 5 < sf ∨ sd ≤ sf)

/-- SDH_OH_SET (R117, R118). A changed exponent starts a new window (R110). -/
def State.sdhOhSet (s : State) (c : Cmd) : State :=
  let n := c.idx
  let w := c.word 1
  s.runOp c (setting 2 1 OPR [idxMask, maskOf [(55, 16), (11, 8), (3, 0)]])
    [(decide (39 < n), 0), (badExps (sdExpOh w) (sfExpOh w), 1)] none fun s =>
    let old := s.laneOh n
    let l := s.sdhLane n
    let s : State := { s with cfg.sdh.laneOh := s.cfg.sdh.laneOh.put laneOhReset n w }
    let left := if fld old 55 48 = fld w 55 48 then l.j0Left else []
    .ok (s.setSdhLane n { l with j0Left := left, exc := if sfExpOh old = sfExpOh w then l.exc else l.exc.restart,
                                 deg := if sdExpOh old = sdExpOh w then l.deg else l.deg.restart }) []

def State.sdhOhGet (s : State) (c : Cmd) : State :=
  s.runOp c (plainOp 2 2 OPR [idxMask]) [(decide (39 < c.idx), 0)] none fun s => .ok s [s.laneOh c.idx]

def Framer.code : Framer → Nat
  | .hunt => 0
  | .presync => 1
  | .sync => 2

/-- SDH_STATUS (Table 4.12). On a lane this chapter does not run, no defect reads 1 (R90). -/
def State.sdhStatus (s : State) (c : Cmd) : State :=
  s.runOp c (plainOp 2 3 OPR [idxMask]) [(decide (39 < c.idx), 0)] none fun s =>
    let l := s.sdhLane c.idx
    let r := s.sdhRuns c.idx
    .ok s [mkWord [(47, 40, l.k1.acc.toNat), (39, 35, l.k2hi.acc.toNat), (34, 32, l.k2lo.acc.toNat), (31, 28, l.s1.acc.toNat),
      (23, 22, l.framer.code), (7, 7, (r && l.apsInc).toNat), (6, 6, (r && l.hasDeg).toNat), (5, 5, (r && l.hasExc).toNat),
      (4, 4, (r && l.hasRdi).toNat), (3, 3, (r && l.hasAis).toNat), (2, 2, (r && l.hasLof).toNat), (1, 1, (r && l.oof).toNat),
      (0, 0, (r && l.los).toNat)]]

/-- Octets as whole words, the last one filled with zeros. -/
def octetWords (l : List Byte) : List Word := takeWords (ceilDiv l.length 8) (l ++ List.replicate ((8 - l.length % 8) % 8) 0)

/-- SDH_CAPTURE. -/
def State.sdhCapture (s : State) (c : Cmd) : State :=
  s.runOp c (plainOp 2 4 OPR [idxMask]) [(decide (39 < c.idx), 0)] none fun s =>
    let l := s.sdhLane c.idx
    .ok s (octetWords [l.capE1, l.capF1, l.capE2, l.capS1, l.capK1, l.capK2, l.capM1, 0] ++
      octetWords (l.capD ++ List.replicate 4 0) ++ octetWords l.capJ0)

/-- A trace-table entry; entry 0 is fixed (R101). -/
def State.traceEntry (s : State) (n : Nat) : TraceEntry :=
  if n = 0 then .reset else s.cfg.sdh.traces.look TraceEntry.reset n

/-- A path is aligned in the Fathom: a group leg lies on it or in it; or it is an end of a symmetric record (R118). -/
def BCfg.marksHeld (b : BCfg) (e : Eid) : Bool :=
  (b.someLeg fun f => decide (eidKind f = .line) && decide (markPath f = e)) ||
    b.conns.any fun x => x.2.sym && [x.2.a, x.2.z].any fun f => decide (eidKind f = .line) && decide (markPath f = e)

/-- PATH_OH_SET (R101, R117, R118, R245). -/
def State.pathOhSet (s : State) (c : Cmd) : State :=
  let e := c.eid
  let w := c.word 1
  let m := markPosOf w
  let lo := decide (eidLevel e = 1)
  let long := decide (fld w 47 40 ≠ 0) && decide ((s.traceEntry (fld w 47 40)).len = 2)
  s.runOp c (setting 2 5 OPR [eidMask, maskOf [(47, 30)]])
    [(badPathEid e, 0), (badExps (sdExpPath w) (sfExpPath w) || decide (m = 3) || (lo && decide (m = 2)) || (lo && long), 1)] none fun s =>
    let old := s.pathOh e
    if s.either (fun b => (b.protOf (eidPort e)).isSome) || (decide (markPosOf old ≠ m) && s.either fun b => b.marksHeld e) then
      refuse stState 0 s
    else
      let p := s.path e
      let s : State := { s with cfg.sdh.pathOh := s.cfg.sdh.pathOh.put pathOhReset e.toNat w }
      let left := if fld old 47 40 = fld w 47 40 then p.traceLeft else []
      .ok (s.setPath e { p with traceLeft := left, exc := if sfExpPath old = sfExpPath w then p.exc else p.exc.restart,
                                deg := if sdExpPath old = sdExpPath w then p.deg else p.deg.restart }) []

/-- A TEN sender may read only a path that is an end of a connection its tenant owns (R119). -/
def State.pathOwn (s : State) (c : Cmd) : Option (Nat × Nat) :=
  if decide (c.rank ≠ TEN) || s.cfg.b.conns.any fun x => decide (x.2.owner = c.t) && (decide (x.2.a = c.eid) || decide (x.2.z = c.eid)) then none
  else some (stNotPermitted, 0x06)

/-- A destination is driven in the active maps by a record or a binding. -/
def State.isDriven (s : State) (e : Eid) : Bool :=
  let at_ := eidPositions e 1
  s.cfg.b.conns.any (fun x => !x.2.isFree && (x.2.driven s.cfg.b).any at_.contains) || (s.bindingPositions s.cfg.b).any at_.contains

def PtrState.code : PtrState → Nat
  | .norm => 0
  | .ais => 1
  | .lop => 2

/-- PATH_STATUS (Table 4.13). -/
def State.pathStatus (s : State) (c : Cmd) : State :=
  let e := c.eid
  s.runOp c (plainOp 2 6 TEN [eidMask]) [(badPathEid e, 0)] (s.pathOwn c) fun s =>
    if !s.eidExists s.cfg.b e 1 true then refuse stState 0 s
    else
      let out := (s.path e).egress.value
      let drives := s.isDriven e
      let e := s.seen e
      let p := s.path e
      let m := s.pathMasked e
      let label := if eidLevel e = 0 then (nth 0 p.cap 6).toNat else fld (nth 0 p.cap 0) 3 1
      .ok (s.setPath e { p with posJust := 0, negJust := 0 })
        [mkWord [(57, 48, p.interp.ptr), (47, 38, if drives then out else 0), (35, 34, p.interp.st.code), (31, 24, label),
          (23, 16, p.posJust), (15, 8, p.negJust), (6, 6, m.toNat), (5, 5, (s.pathDeg e).toNat), (4, 4, (s.pathExc e).toNat),
          (3, 3, (s.pathRdi e).toNat), (2, 2, (!m && decide (p.interp.st = .lop)).toNat), (1, 1, (!m && decide (p.interp.st = .ais)).toNat),
          (0, 0, p.clean.toNat)]]

/-- PATH_CAPTURE (R120): its reply follows 64 frames later. -/
def State.pathCapture (s : State) (c : Cmd) : State :=
  let e := c.eid
  s.runOp c (plainOp 2 7 TEN [eidMask]) [(badPathEid e, 0)] (s.pathOwn c) fun s =>
    if !s.eidExists s.cfg.b e 1 true then refuse stState 0 s
    else if s.sdh.captures.any fun x => decide (x.eid = e) then refuse stBusy 0 s
    else .later { s with sdh.captures := s.sdh.captures ++ [⟨e, 64⟩] } (.pathCapture e.toNat)

/-- The last n octets of a list, filled in front with zeros where there are fewer. -/
def lastOctets (n : Nat) (l : List Byte) : List Byte := List.replicate (n - l.length) 0 ++ lastN n l

/-- What a finished capture replies (R97, Table 4.11). -/
def State.captureWords (s : State) (e : Eid) : List Word :=
  let p := s.path (s.seen e)
  let o (i : Nat) : Byte := nth 0 p.cap i
  if eidLevel e = 0 then octetWords [o 0, o 1, o 2, o 3, o 4, o 5, 0, 0] ++ octetWords (lastOctets 64 p.trace)
  else octetWords [o 0, o 1, o 2, 0, 0, 0, 0, 0] ++ octetWords (lastOctets 16 p.trace)

/-- One frame of every running capture. -/
def State.captureTick (s : State) : State :=
  let done := s.sdh.captures.filter fun x => decide (x.left ≤ 1)
  let s : State := { s with sdh.captures := (s.sdh.captures.filter fun x => decide (1 < x.left)).map fun x => { x with left := x.left - 1 } }
  done.foldl (fun s x => s.fix (.pathCapture x.eid.toNat) stOk (s.captureWords x.eid)) s

/-- Octets of a trace entry by its length code. -/
def traceLen (code : Nat) : Nat := if code = 0 then 1 else if code = 1 then 16 else 64

/-- Some LO path names a trace entry. -/
def State.loNames (s : State) (n : Nat) : Bool :=
  s.cfg.sdh.pathOh.any fun x => decide (eidLevel (BitVec.ofNat 32 x.1) = 1) && decide (fld x.2 47 40 = n)

/-- TRACE_SET (R101). -/
def State.traceSet (s : State) (c : Cmd) : State :=
  let n := fld (c.word 0) 7 0
  let k := fld (c.word 0) 9 8
  let octs := wordsOctets ((List.range 8).map fun i => c.word (i + 1))
  let extra := (List.range 64).find? fun i => decide (traceLen k ≤ i) && decide (nth 0 octs i ≠ 0)
  s.runOp c (setting 2 8 OPR (maskOf [(9, 0)] :: List.replicate 8 allBits))
    [(decide (n = 0 ∨ k = 3), 0), (extra.isSome, extra.getD 0 / 8 + 1)] none fun s =>
    if k = 2 ∧ s.loNames n then refuse stState 0 s
    else .ok { s with cfg.sdh.traces := s.cfg.sdh.traces.put TraceEntry.reset n ⟨BitVec.ofNat 2 k, octs⟩ } []

def State.traceGet (s : State) (c : Cmd) : State :=
  s.runOp c (plainOp 2 9 OPR [idxMask]) [] none fun s =>
    let t := s.traceEntry (fld (c.word 0) 7 0)
    .ok s (mkWord [(9, 8, t.len.toNat)] :: octetWords t.octets)

/-- A threshold word: W, SET and CLR. -/
def threshWord (p : MonPar) (n : Nat) : Word := mkWord [(63, 36, window p n), (35, 18, setCount p n), (17, 0, clrCount p n)]

/-- SDH_THRESH_GET (R110). -/
def State.sdhThreshGet (s : State) (c : Cmd) : State :=
  let byPath := flag (c.word 1) 0
  let e := c.eid
  let bad0 := if byPath then badPathEid e else decide (39 < fld (c.word 0) 31 0)
  s.runOp c (plainOp 2 10 OPR [eidMask, maskOf [(0, 0)]]) [(bad0, 0)] none fun s =>
    if byPath then
      (if !s.eidExists s.cfg.b e 1 true then refuse stState 0 s
       else .ok s [threshWord (pathPar e) (s.pathSf e), threshWord (pathPar e) (s.pathSd e)])
    else if !s.laneSdh c.idx then refuse stState 0 s
    else
      let oh := s.laneOh c.idx
      let p := msPar (s.laneRate c.idx)
      .ok s [threshWord p (sfExpOh oh), threshWord p (sdExpOh oh)]

def execSdhOhSet (c : Cmd) (s : State) : Host.Outcome State Fault Refusal := packet c s (·.sdhOhSet c)
def execSdhOhGet (c : Cmd) (s : State) : Host.Outcome State Fault Refusal := packet c s (·.sdhOhGet c)
def execSdhStatus (c : Cmd) (s : State) : Host.Outcome State Fault Refusal := packet c s (·.sdhStatus c)
def execSdhCapture (c : Cmd) (s : State) : Host.Outcome State Fault Refusal := packet c s (·.sdhCapture c)
def execPathOhSet (c : Cmd) (s : State) : Host.Outcome State Fault Refusal := packet c s (·.pathOhSet c)
def execPathStatus (c : Cmd) (s : State) : Host.Outcome State Fault Refusal := packet c s (·.pathStatus c)
def execPathCapture (c : Cmd) (s : State) : Host.Outcome State Fault Refusal := packet c s (·.pathCapture c)
def execTraceSet (c : Cmd) (s : State) : Host.Outcome State Fault Refusal := packet c s (·.traceSet c)
def execTraceGet (c : Cmd) (s : State) : Host.Outcome State Fault Refusal := packet c s (·.traceGet c)
def execSdhThreshGet (c : Cmd) (s : State) : Host.Outcome State Fault Refusal := packet c s (·.sdhThreshGet c)

end Sys2Proof.Machine
end

