-- ==== Sys2Proof/Machine/Framing.lean ====
section
/-!
DEFINITION. E1 and C37.94 framing (05_trib_gfp_framing.md §5.1 to §5.6), the tributary ports' clocks and aligners (03_lanes_ports.md §3.7), and
their commands.
-/
namespace Sys2Proof.Machine

/-! E1 objects -/

/-- The E1 EID of a port (R126). -/
def portE1 (p : Nat) : Eid := mkEid (0x40 + p) 2 0

/-- An EID names an E1 (R126): a port at grain level with index 0, or an LO path of a line lane. -/
def isE1Eid (e : Eid) : Bool :=
  (decide (eidKind e = .trib) && decide (eidLevel e = 2) && decide (eidIndex e = 0)) ||
    (decide (eidKind e = .line) && decide (eidLevel e = 1) && eidForm e)

def State.e1 (s : State) (e : Eid) : E1State := s.fram.e1.look E1State.reset e.toNat
def State.setE1 (s : State) (e : Eid) (x : E1State) : State := { s with fram.e1 := s.fram.e1.put E1State.reset e.toNat x }
def State.c37 (s : State) (p : Nat) : C37State := s.fram.c37.look C37State.reset p
def State.setC37 (s : State) (p : Nat) (x : C37State) : State := { s with fram.c37 := s.fram.c37.put C37State.reset p x }

/-- The model's own number of the framer of a 2.048 Mbit/s REFIN (R125): an EID whose port value R177 holds. -/
def refinE1 (n : Nat) : Eid := mkEid 0xE0 2 n
def isRefin (e : Eid) : Bool := decide (eidPort e = 0xE0) && decide (eidLevel e = 2) && decide (eidIndex e < 8)

/-- TIM_IN_CFG of a candidate, and fields of it. -/
def State.timIn (s : State) (c : Nat) : Word := s.cfg.tim.inputs.look timInReset c
def timType (w : Word) : Nat := fld w 27 24
def timSsmSa (w : Word) : Nat := fld w 6 3
def timEn (w : Word) : Bool := flag w 63

/-- E1_CFG of an E1; a REFIN framer has fixed settings (R125). -/
def State.e1Cfg (s : State) (e : Eid) : Word :=
  if isRefin e then setFld (setFld (setFld (setFld e1CfgReset 1 0 1) 6 6 0) 5 5 1) 11 8 (timSsmSa (s.timIn (104 + eidIndex e)))
  else s.cfg.fram.e1.look e1CfgReset e.toNat

def e1Crc4 (w : Word) : Nat := fld w 1 0
def e1SsmSa (w : Word) : Nat := fld w 11 8

/-- The LO engine terminates a byte-synchronous E1 of this VC-12: a record or leg of the active maps names a grain of it (R123). -/
def State.byteSync (s : State) (e : Eid) : Bool :=
  let names (f : Eid) : Bool := decide (eidKind f = .line) && decide (eidLevelN f = 2) && decide (gMap f = 0) && decide (grainVc f = e)
  s.cfg.b.someEnd names || s.cfg.b.someLeg names

/-- A framer or TS0 monitor runs on the E1 (R121 to R123). -/
def State.e1Runs (s : State) (e : Eid) : Bool :=
  if isRefin e then timEn (s.timIn (104 + eidIndex e)) && decide (timType (s.timIn (104 + eidIndex e)) = 5)
  else if eidKind e = .trib then decide (s.tribMode (eidTrib e) = 1) && s.tribOn (eidTrib e)
  else s.framerBound e || s.byteSync e

/-- A TS0 monitor, not a bank framer. -/
def State.isMonitor (s : State) (e : Eid) : Bool := decide (eidKind e ≠ .trib) && !isRefin e && !s.framerBound e

/-- Clock loss of the port of an E1. -/
def State.e1ClkLoss (s : State) (e : Eid) : Bool := decide (eidKind e = .trib) && (s.trib (eidTrib e)).clkLoss

/-- The carrying path masks every defect of an E1 in it (R135; log entry 24). -/
def State.e1Masked (s : State) (e : Eid) : Bool := decide (eidKind e = .line) && s.pathDown (s.seen e)

/-- Defects of an E1: code, declared, masked (Table 5.2). -/
def State.e1Defects (s : State) (e : Eid) : List (Nat × Bool × Bool) :=
  let x := s.e1 e
  let m := s.e1Masked e
  let monMask := m || x.los || x.lof.on || x.ais.on || !x.inFrame || decide (x.crc4 ≠ .aligned)
  [(1, x.los, m), (2, x.lof.on, m || x.los || x.ais.on), (3, x.ais.on, m || x.los), (4, x.rdi.on, m || x.los || x.lof.on || x.ais.on),
    (5, x.exc.on, monMask), (6, x.deg.on, monMask)]

/-- A defect is declared and not masked. -/
def unmasked (ds : List (Nat × Bool × Bool)) (code : Nat) : Bool := ds.any fun d => decide (d.1 = code) && d.2.1 && !d.2.2

def State.reportE1 (s : State) (e : Eid) : State :=
  let x := s.e1 e
  let cs := defectChanges (s.e1Defects e) x.reported
  (s.setE1 e { x with reported := applyChanges cs x.reported }).raiseChanges 0x050 e.toNat cs

/-- The 32 grains of the E1 carry all ones + QB; SF for grain SNCP (Table 5.4). -/
def State.e1Down (s : State) (e : Eid) : Bool :=
  let x := s.e1 e
  !s.e1Runs e || s.e1Masked e || x.los || x.lof.on || x.ais.on || !x.inFrame
def State.e1SfN (s : State) (e : Eid) : Bool := s.e1Down e || unmasked (s.e1Defects e) 5
def State.e1Sd (s : State) (e : Eid) : Bool := unmasked (s.e1Defects e) 6

/-- What the timing core receives from an E1's SSM (R133). -/
inductive SsmState where
  | fail
  | none
  | nibble (v : Nat)
  deriving DecidableEq, Repr

def State.e1Ssm (s : State) (e : Eid) : SsmState :=
  let x := s.e1 e
  let ds := s.e1Defects e
  let w := s.e1Cfg e
  if unmasked ds 1 || unmasked ds 2 || unmasked ds 3 then .fail
  else if x.crc4 ≠ .aligned ∨ e1Crc4 w = 0 ∨ e1SsmSa w = 0 then .none
  else .nibble x.ssm.acc.toNat

/-! Thresholds of submultiframes (R136) -/

def e1Err (n : Nat) : Nat × Nat := let a := 10 ^ (n * 2048); (a - (10 ^ n - 1) ^ 2048, a)
def e1Window (n : Nat) : Nat := let e := e1Err n; Nat.max 1 (ceilDiv (16 * e.2) e.1)
def e1Set (n : Nat) : Nat := let e := e1Err n; ceilDiv (6 * e1Window n * e.1) (10 * e.2)
def e1Clr (n : Nat) : Nat := let e := e1Err (n + 1); e1Window n * e.1 / e.2

def Monitor.judgeE1 (m : Monitor) (n : Nat) : Monitor :=
  match m.ended with
  | none => m
  | some v => { m with ended := none, on := if e1Set n ≤ v then true else if v ≤ e1Clr n then false else m.on }

def e1SdExp (w : Word) : Nat := fld w 31 28
def e1SfExp (w : Word) : Nat := fld w 27 24

/-! Basic alignment (R127, R128) -/

/-- Bit i of the 512 bits received last, counted from the oldest. -/
def bitAt (prev cur : BitVec 256) (i : Nat) : Bool := if i < 256 then prev.getLsbD (255 - i) else cur.getLsbD (511 - i)

/-- The octet that starts at a bit position. -/
def octetAt (prev cur : BitVec 256) (p : Nat) : Nat := (List.range 8).foldl (fun v i => 2 * v + (bitAt prev cur (p + i)).toNat) 0

/-- The positions that satisfy a test. -/
def positions (f : Nat → Bool) : BitVec 256 := (List.range 256).foldl (fun m p => if f p then setFlag m p true else m) 0

/-- The lowest position of a set. -/
def lowest (m : BitVec 256) : Option Nat := (List.range 256).find? fun p => m.getLsbD p

/-- One frame of the search: the candidate sets, and the position that passes. `allowed` are the positions that may be candidates. -/
def E1State.hunt (x : E1State) (cur : BitVec 256) (allowed : BitVec 256) : E1State × Option Nat :=
  let oct := positions fun p => decide (octetAt x.prev cur p % 128 = 0x1B)
  let nfas := positions fun p => decide (octetAt x.prev cur p / 64 % 2 = 1)
  let pass := x.cand2 &&& oct &&& allowed
  ({ x with cand1 := oct &&& ~~~x.cand1 &&& ~~~x.cand2 &&& allowed, cand2 := x.cand1 &&& nfas &&& allowed }, lowest pass)

/-- The frame is found at a position: the frame just read was a FAS frame (R127, R129). -/
def E1State.found (x : E1State) (p now : Nat) (crc4On : Bool) : E1State :=
  { x with inFrame := true, pos := BitVec.ofNat 8 p, nextFas := false, cand1 := 0, cand2 := 0, excluded := none, sinceDecl := 0, fasErr := 0,
           nfasErr := 0, crc4 := if crc4On then .searching else .off, background := false, mfStart := now, fallStart := now, siHist := [],
           mfSeen := [], mfFrame := 0, mfErr := 0, smfSeen := 0, blockErr := 0, blockLen := 0, blockEnded := none, frames := 0,
           spoiled := false, spoiledPrev := false, clean := false }

/-- Alignment is lost: a new search starts; a position lost within 64 frames is excluded for 8 ms (R127, R128). -/
def E1State.lose (x : E1State) (now : Nat) : E1State :=
  { x with inFrame := false, cand1 := 0, cand2 := 0, excluded := if x.sinceDecl < 64 then some x.pos else none, excludeEnd := now + 64,
           crc4 := if x.crc4 = .off then .off else .searching, background := false, siHist := [], mfSeen := [], mfErr := 0, smfSeen := 0,
           ssmPart := [], ssmValid := false }

/-- CRC-4 over a frame's 256 bits from a position, the first bit taken as 0 when `zero` (R132): x^4 + x + 1. -/
def crc4Frame (prev cur : BitVec 256) (p : Nat) (zero : Bool) (start : BitVec 4) : BitVec 4 :=
  (List.range 256).foldl (fun (r : BitVec 4) i =>
    let b := bitAt prev cur (p + i) && !(zero && decide (i = 0))
    let fb := r.getLsbD 3 != b
    let sh := r <<< 1
    if fb then sh ^^^ 0x3 else sh) start

/-- The multiframe alignment signal stands in the last six Si bits of NFAS frames, newest first (§5.3). -/
def mfSignal (h : List Bool) : Bool := decide (h.take 6 = [true, true, false, true, false, false])

/-! The multiframe process (R129 to R133) -/

/-- One NFAS frame of the search of R129: the signal twice within 8 ms (32 NFAS frames), a whole number of multiframes (8) apart. -/
def E1State.mfSearch (x : E1State) (si : Bool) : E1State × Bool :=
  let h := (si :: x.siHist).take 8
  let seen := (x.mfSeen.map (· + 1)).filter fun a => decide (a ≤ 32)
  if mfSignal h then
    if seen.any fun a => decide (a % 8 = 0) then
      ({ x with siHist := h, mfSeen := [], crc4 := .aligned, background := false, mfFrame := 12, mfErr := 0, smfSeen := 0, ssmPart := [],
                ssm := { x.ssm with run := 0 },
                blockErr := 0, blockLen := 0, blockEnded := none, frames := 0, spoiled := false, spoiledPrev := false,
                exc := x.exc.restart, deg := x.deg.restart }, true)
    else ({ x with siHist := h, mfSeen := 0 :: seen }, false)
  else ({ x with siHist := h, mfSeen := seen }, false)

/-- The signal bit expected in frame n of a multiframe; none where Si carries something else. -/
def mfExpected (n : Nat) : Option Bool :=
  if n = 1 ∨ n = 3 ∨ n = 7 then some false else if n = 5 ∨ n = 9 ∨ n = 11 then some true else none

/-- The code of a CRC-4 state (Table 5.10). -/
def Crc4.code : Crc4 → Nat
  | .off => 0
  | .searching => 1
  | .aligned => 2
  | .fallback => 3

def State.crc4Event (s : State) (e : Eid) (lost : Bool) : State :=
  s.raise { src := 0x052, clr := !lost, code := (s.e1 e).crc4.code, obj := e.toNat }

/-- A submultiframe has ended: the C bits received in it judge the one before, once that was received whole (R132, R136, R138). Alignment is found
within a submultiframe, whose end is the first that comes. -/
def State.smfEnd (s : State) (e : Eid) (crc : BitVec 4) : State :=
  let x := s.e1 e
  let w := s.e1Cfg e
  let judged := decide (2 ≤ x.smfSeen)
  let err := judged && decide (x.cBits ≠ x.crcPrev)
  let len := x.blockLen + judged.toNat
  let errs := x.blockErr + err.toNat
  let mask := x.los || x.lof.on || x.ais.on
  let x' := { x with
    crcPrev := crc, crcReg := 0, cBits := 0, smfSeen := Nat.min 2 (x.smfSeen + 1), nErrSmf := x.nErrSmf + err.toNat, eOwed := x.eOwed + err.toNat,
    blockErr := if 1000 ≤ len then 0 else errs, blockLen := if 1000 ≤ len then 0 else len,
    blockEnded := if 1000 ≤ len then some errs else x.blockEnded,
    exc := if judged && !mask then x.exc.block (e1Window (e1SfExp w)) err.toNat else x.exc,
    deg := if judged && !mask then x.deg.block (e1Window (e1SdExp w)) err.toNat else x.deg,
    clean := judged && !err && !x.spoiledPrev, spoiledPrev := x.spoiled, spoiled := false }
  (s.setE1 e x').count 0x0300 e.toNat err.toNat

/-- The SSM nibble (R133): frames 1, 3, 5 and 7 of each submultiframe. -/
def State.ssmStep (s : State) (e : Eid) (frame ts0 : Nat) : State :=
  let x := s.e1 e
  let n := e1SsmSa (s.e1Cfg e)
  if n = 0 then s
  else
    let part := (if frame % 8 = 1 then [] else x.ssmPart) ++ [decide (ts0 / 2 ^ (8 - n) % 2 = 1)]
    if frame % 8 ≠ 7 ∨ part.length < 4 then s.setE1 e { x with ssmPart := part }
    else
      let v := part.foldl (fun v b => 2 * v + b.toNat) 0
      let a := x.ssm.step (BitVec.ofNat 8 v) 8
      let valid := x.ssmValid || decide (8 ≤ a.run)
      (s.setE1 e { x with ssmPart := [], ssm := a, ssmValid := valid }).raiseIf (decide (a.acc ≠ x.ssm.acc))
        { src := 0x051, code := a.acc.toNat, obj := e.toNat }

/-- One frame of an aligned multiframe: signal, E bits, C bits, CRC-4, SSM (R131 to R133). -/
def State.mfFrame (s : State) (e : Eid) (prev cur : BitVec 256) (ts0 : Nat) : State :=
  let x := s.e1 e
  let n := x.mfFrame
  let si := decide (ts0 / 128 = 1)
  let wrong := match mfExpected n with | some b => b != si | none => false
  let bad := wrong || decide (0 < x.mfErr / 256)
  let remote := decide (n = 13 ∨ n = 15) && !si
  let crc := crc4Frame prev cur x.pos.toNat (decide (n % 2 = 0)) x.crcReg
  let errRun := x.mfErr % 256
  let x1 := { x with mfFrame := (n + 1) % 16, nRemote := x.nRemote + remote.toNat, crcReg := crc,
                     cBits := if n % 2 = 0 then (x.cBits <<< 1) ||| (if si then 1 else 0) else x.cBits,
                     mfErr := if n = 11 then (if bad then errRun + 1 else 0) else if bad then 256 + errRun else errRun }
  let s := (s.setE1 e x1).count 0x0301 e.toNat remote.toNat
  let s := if n % 2 = 1 then s.ssmStep e n ts0 else s
  let s := if n % 8 = 7 then s.smfEnd e crc else s
  if n = 11 ∧ 3 ≤ (s.e1 e).mfErr then
    let y := s.e1 e
    (s.setE1 e { y with crc4 := .searching, mfErr := 0, mfSeen := [], siHist := [], mfStart := s.now, fallStart := s.now, ssmPart := [],
                        ssmValid := false }).crc4Event e true
  else s

/-- A quality block of 8 frames while the multiframe is not aligned (R138). -/
def E1State.plainBlock (x : E1State) : E1State :=
  if x.frames + 1 < 8 then { x with frames := x.frames + 1 }
  else { x with frames := 0, clean := !x.spoiledPrev, spoiledPrev := x.spoiled, spoiled := false }

/-- A frame of an E1 in frame: FAS or NFAS, and the multiframe (R128 to R133). -/
def State.e1Framed (s : State) (e : Eid) (prev cur : BitVec 256) (qb : Bool) : State :=
  let x := s.e1 e
  let w := s.e1Cfg e
  let ts0 := octetAt prev cur x.pos.toNat
  let fas := x.nextFas
  let fasBad := fas && decide (ts0 % 128 ≠ 0x1B)
  let nfasBad := !fas && decide (ts0 / 64 % 2 = 0)
  let si := decide (ts0 / 128 = 1)
  let x1 := { x with
    nextFas := !fas, sinceDecl := Nat.min 64 (x.sinceDecl + 1), fasErr := if fas then (if fasBad then x.fasErr + 1 else 0) else x.fasErr,
    nfasErr := if fas then x.nfasErr else if nfasBad then x.nfasErr + 1 else 0, sa := if fas then x.sa else BitVec.ofNat 5 (ts0 % 32),
    rdi := if fas then x.rdi else x.rdi.step (decide (ts0 / 32 % 2 = 1)) 3 3,
    spoiled := x.spoiled || qb || x.los || x.ais.on || s.e1Masked e }
  let s := (s.setE1 e x1).count 0x0302 e.toNat fasBad.toNat
  if decide (3 ≤ x1.fasErr) || (flag w 6 && decide (3 ≤ x1.nfasErr)) then
    (s.setE1 e (x1.lose s.now)).count 0x0303 e.toNat 1
  else
    match x1.crc4 with
    | .off => s.setE1 e x1.plainBlock
    | .aligned => s.mfFrame e prev cur ts0
    | st =>
      if fas then s.setE1 e x1.plainBlock
      else
        let r := x1.mfSearch si
        if r.2 then
          let s := s.setE1 e r.1
          if st = .fallback then s.crc4Event e false else s
        else s.setE1 e r.1.plainBlock

/-- Zeros of a frame, its longest run of zeros with the run brought in, the run it ends with, and whether some 32-bit interval has at least 4
ones and no run of 16 zeros (Table 5.2). -/
def zeroScan (cur : BitVec 256) (run : Nat) : Nat × Nat × Nat × Bool :=
  let z := (List.range 256).foldl (fun (a : Nat × Nat × Nat) i =>
    if cur.getLsbD (255 - i) then (a.1, a.2.1, 0) else (a.1 + 1, Nat.max a.2.1 (a.2.2 + 1), a.2.2 + 1)) (0, run, run)
  let good := (List.range 8).any fun k =>
    let b (i : Nat) : Bool := cur.getLsbD (255 - (32 * k + i))
    let ones := ((List.range 32).filter b).length
    let longest := ((List.range 32).foldl (fun (a : Nat × Nat) i => if b i then (a.1, 0) else (Nat.max a.1 (a.2 + 1), a.2 + 1)) (0, 0)).1
    decide (4 ≤ ones) && decide (longest < 16)
  (z.1, z.2.1, z.2.2, good)

/-- LOS of a port, AIS and LOF counts of one frame (Table 5.2). -/
def E1State.signal (x : E1State) (cur : BitVec 256) (port clkLoss : Bool) : E1State :=
  let z := zeroScan cur x.zeroRun
  let los := if !port then false
    else if clkLoss || decide (255 ≤ z.2.1) then true else if z.2.2.2 then false else x.los
  { x with zeroRun := z.2.2.1, los := los, aisHalf := !x.aisHalf, aisZeros := if x.aisHalf then 0 else z.1,
           ais := if x.aisHalf then x.ais.step (decide (x.aisZeros + z.1 < 3)) 2 2 else x.ais,
           lof := x.lof.step (!x.inFrame) 24 24 }

/-! Frame aligners (R83) and slips of Short sources (R24) -/

/-- Distance of two phases around the frame. -/
def phaseDist (a b : BitVec 8) : Nat := Nat.min (a - b).toNat (b - a).toNat

/-- The build-out for a phase: 256 − φ0, or 512 − φ0 when that is below 32. -/
def buildOutFor (phi : BitVec 8) : BitVec 9 :=
  let d := 256 - phi.toNat
  BitVec.ofNat 9 (if 32 ≤ d then d else d + 256)

/-- Short connections draw from a port in the active maps (R24). -/
def State.shortDraws (s : State) (p : Nat) : Bool :=
  let b := s.cfg.b
  b.conns.any fun x =>
    let r := x.2
    let legs := if r.pgEn then (match b.pg r.pg with | some g => [g.leg0, g.leg1] | none => []) else [r.a]
    r.short && decide (r.level = 2) && (legs.any (fun e => eidOnTrib e p) || (r.bidir && eidOnTrib r.z p))

/-- A Short source slips one frame. -/
def State.shortSlip (s : State) (p : Nat) : State :=
  if s.shortDraws p then
    let e := (portE1 p).toNat
    let n := s.line.shortSlips.look 0 e
    (({ s with line.shortSlips := s.line.shortSlips.put 0 e (n + 1) } : State).count 0x0401 e 1).raise { src := 0x021, obj := e }
  else s

/-- The aligner works on framed ports in system-clock timing. -/
def State.alignerOn (s : State) (p : Nat) : Bool := decide (s.tribMode p = 1 ∨ s.tribMode p = 3) && decide (s.tribTiming p = 0)

/-- A frame start of a port reaches its aligner (R83 steps 2, 3 and 6). -/
def State.alignerStep (s : State) (p : Nat) (inFrame : Bool) (phase : BitVec 8) : State :=
  if !s.alignerOn p then s
  else
    let t := s.trib p
    if !inFrame then
      (s.setTrib p { t with count := 0, aligned := false }).raiseIf t.aligned { src := 0x036, clr := true, obj := p }
    else if t.aligned then s
    else
      match t.phi0 with
      | none => s.setTrib p { t with phi0 := some phase, count := 1 }
      | some f =>
        if 0 < t.count ∧ phaseDist phase f ≤ 16 then s.setTrib p { t with count := Nat.min 64 (t.count + 1) }
        else s.setTrib p { t with phi0 := some phase, count := 1 }

/-- TRIB_ALIGN_CHANGE (R83 steps 3 and 4): 64 frames have stood within range. -/
def execTribAlignChange (port : Fin 64) (s : State) : Host.Outcome State Fault Refusal :=
  let p := port.val
  let t := s.trib p
  .next (match t.phi0 with
    | none => s
    | some f =>
      if !s.alignerOn p || t.aligned || t.count < 64 then s
      else (s.setTrib p { t with aligned := true, buildOut := buildOutFor f }).raise { src := 0x036, code := 1, obj := p })

/-- ALIGNER_SLIP (R83 step 5). -/
def execAlignerSlip (port : Fin 64) (phase : BitVec 8) (s : State) : Host.Outcome State Fault Refusal :=
  let p := port.val
  let t := s.trib p
  .next (match t.phi0 with
    | none => s
    | some f =>
      if !s.alignerOn p || !t.aligned || phaseDist phase f ≤ 32 then s
      else ((s.setTrib p { t with phi0 := some phase, buildOut := buildOutFor phase }).count 0x0308 (portE1 p).toNat 1).shortSlip p)

/-! E1 rows -/

/-- E1_FRAME_RECEIVE (R127 to R138). -/
def State.e1Receive (s : State) (f : E1Rx) : State :=
  let e := f.eid
  if !(isE1Eid e || isRefin e) || !s.e1Runs e || s.e1ClkLoss e then s
  else
    let port := decide (eidKind e = .trib) || isRefin e
    let x0 := s.e1 e
    let w := s.e1Cfg e
    let prev := x0.prev
    let x1 := x0.signal f.bits port (isRefin e && f.quiet)
    let allowed : BitVec 256 :=
      (if s.isMonitor e then 1 else BitVec.allOnes 256) &&& ~~~(match x1.excluded with | some p => setFlag (0 : BitVec 256) p.toNat true | none => 0)
    let s := s.setE1 e x1
    let s :=
      if x1.inFrame then
        let s := s.e1Framed e prev f.bits f.qb
        let y := s.e1 e
        if y.inFrame && y.background then
          let h := y.hunt f.bits (allowed &&& ~~~(setFlag (0 : BitVec 256) y.pos.toNat true))
          match h.2 with
          | some p => s.setE1 e { h.1.found p s.now true with fallStart := y.fallStart }
          | none => s.setE1 e h.1
        else s
      else
        let h := x1.hunt f.bits allowed
        match h.2 with
        | some p => s.setE1 e (h.1.found p s.now (decide (e1Crc4 w ≠ 0)))
        | none => s.setE1 e { h.1 with spoiled := true, clean := false }
    let s := s.setE1 e { s.e1 e with prev := f.bits }
    let s := if eidKind e = .trib then s.alignerStep (eidTrib e) (s.e1 e).inFrame f.phase else s
    s.reportE1 e

/-- A REFIN framer raises no event and no counter has it as an object (R125): only its state changes. -/
def State.e1Quiet (s : State) (e : Eid) (s' : State) : State := if isRefin e then { s with fram.e1 := s'.fram.e1 } else s'

def execE1FrameReceive (f : E1Rx) (s : State) : Host.Outcome State Fault Refusal := .next (s.e1Quiet f.eid (s.e1Receive f))

/-- CRC4_SEARCH_TIMEOUT (R130): 8 ms without multiframe alignment. -/
def execCrc4SearchTimeout (eid : Eid) (s : State) : Host.Outcome State Fault Refusal :=
  let x := s.e1 eid
  let mode := e1Crc4 (s.e1Cfg eid)
  .next (s.e1Quiet eid (if !s.e1Runs eid || !x.inFrame || x.crc4 ≠ .searching || !s.due (x.mfStart + 64) then s
    else if mode = 1 then (if x.background then s else s.setE1 eid { x with background := true, cand1 := 0, cand2 := 0 })
    else if mode = 2 then ((s.setE1 eid (x.lose s.now)).count 0x0303 eid.toNat 1).reportE1 eid
    else s))

/-- CRC4_FALLBACK (R130): 400 ms without multiframe alignment. -/
def execCrc4Fallback (eid : Eid) (s : State) : Host.Outcome State Fault Refusal :=
  let x := s.e1 eid
  .next (s.e1Quiet eid (if !s.e1Runs eid || !x.inFrame || x.crc4 ≠ .searching || decide (e1Crc4 (s.e1Cfg eid) ≠ 1) || !s.due (x.fallStart + 3200) then s
    else (s.setE1 eid { x with crc4 := .fallback, background := false }).crc4Event eid true))

/-- E1_EXCLUSION_END (R127 step 5). -/
def execE1ExclusionEnd (eid : Eid) (s : State) : Host.Outcome State Fault Refusal :=
  let x := s.e1 eid
  .next (s.e1Quiet eid (if x.excluded.isSome && s.due x.excludeEnd then s.setE1 eid { x with excluded := none } else s))

/-- E1_CRC_BLOCK_END (R128): 915 or more errored submultiframes of 1,000. -/
def execE1CrcBlockEnd (eid : Eid) (s : State) : Host.Outcome State Fault Refusal :=
  let x := s.e1 eid
  .next (s.e1Quiet eid (match x.blockEnded with
    | none => s
    | some n =>
      let x' := { x with blockEnded := none }
      if s.e1Runs eid && x.inFrame && decide (x.crc4 = .aligned) && flag (s.e1Cfg eid) 5 && decide (915 ≤ n) then
        ((s.setE1 eid (x'.lose s.now)).count 0x0303 eid.toNat 1).reportE1 eid
      else s.setE1 eid x'))

/-- E1_WINDOW_END (R136). -/
def execE1WindowEnd (eid : Eid) (deg : Bool) (s : State) : Host.Outcome State Fault Refusal :=
  let x := s.e1 eid
  let w := s.e1Cfg eid
  .next (s.e1Quiet eid (if !s.e1Runs eid then s
    else (s.setE1 eid (if deg then { x with deg := x.deg.judgeE1 (e1SdExp w) } else { x with exc := x.exc.judgeE1 (e1SfExp w) })).reportE1 eid))

/-! C37.94 (R139 to R145) -/

def State.c37Defects (s : State) (p : Nat) : List (Nat × Bool × Bool) :=
  let x := s.c37 p
  [(0x11, x.los, false), (0x12, x.lof.on, x.los), (0x13, x.rdi.on, x.los || x.lof.on),
    (0x14, decide (x.accepted ≠ 0) && decide (x.accepted.toNat ≠ s.tribN p), x.los || x.lof.on)]

def State.reportC37 (s : State) (p : Nat) : State :=
  let x := s.c37 p
  let cs := defectChanges (s.c37Defects p) x.reported
  (s.setC37 p { x with reported := applyChanges cs x.reported }).raiseChanges 0x053 p cs

def State.c37Runs (s : State) (p : Nat) : Bool := decide (s.tribMode p = 3) && s.tribOn p

/-- All ones + QB on the port's grains, and SF (R144). -/
def State.c37Down (s : State) (p : Nat) : Bool := let x := s.c37 p; !s.c37Runs p || x.los || x.lof.on || !x.inFrame

/-- A channel lies above the accepted count while C37-NMM is declared (R144). -/
def State.c37Beyond (s : State) (p k : Nat) : Bool := unmasked (s.c37Defects p) 0x14 && decide ((s.c37 p).accepted.toNat < k)

/-- C37_FRAME_RECEIVE. -/
def State.c37Receive (s : State) (f : C37Rx) : State :=
  let p := f.port.val
  if !s.c37Runs p || (s.trib p).clkLoss then s
  else
    let x := s.c37 p
    let pass := f.heads &&& x.cand2
    let good := f.heads.getLsbD x.pos.toNat
    let headErr := if good then 0 else x.headErr + 1
    let stays := x.inFrame && decide (headErr < 3)
    let found := if x.inFrame then none else lowest pass
    let inFrame := stays || found.isSome
    let oofEntry := x.inFrame && !stays
    let c := f.count.toNat
    let invalid := inFrame && decide (c = 0 ∨ 13 ≤ c)
    let run := if decide (0 < x.countRun) && decide (f.count = x.countCand) then x.countRun + 1 else 1
    let bad := !(good || found.isSome) || decide (f.viol ≠ 0) || f.qb || x.los || x.lof.on
    let frames := if stays then x.frames + 1 else found.isSome.toNat
    let x' := { x with
      inFrame := inFrame, pos := (match found with | some q => BitVec.ofNat 8 q | none => x.pos), headErr := if stays then headErr else 0,
      cand1 := if inFrame then 0 else f.heads, cand2 := if inFrame then 0 else f.heads &&& x.cand1,
      los := if f.quiet then true else if f.lively then false else x.los, lof := x.lof.step (!inFrame) 24 24,
      rdi := if inFrame then x.rdi.step f.yellow 3 3 else x.rdi, pairViol := x.pairViol + (if inFrame then f.viol else 0),
      badCounts := x.badCounts + invalid.toNat,
      countCand := if inFrame then f.count else x.countCand, countRun := if !inFrame then x.countRun else if invalid then 0 else run,
      accepted := if inFrame && !invalid && decide (8 ≤ run) then f.count else x.accepted,
      frames := if frames = 8 then 0 else frames, clean := if frames = 8 then !(x.spoiled || bad) else inFrame && x.clean,
      spoiled := if frames = 8 then false else inFrame && (x.spoiled || bad) }
    let e := (portE1 p).toNat
    let s := (((s.setC37 p x').count 0x0306 e (if inFrame then f.viol else 0)).count 0x0307 e invalid.toNat).count 0x0303 e oofEntry.toNat
    (s.alignerStep p inFrame f.phase).reportC37 p

def execC37FrameReceive (f : C37Rx) (s : State) : Host.Outcome State Fault Refusal := .next (s.c37Receive f)

/-! Clocks of the ports (R80 to R82) -/

/-- TRIB_CLK_LOSS: 2 µs without a rising edge. -/
def State.clkLost (s : State) (p : Nat) : State :=
  let t := s.trib p
  if t.clkLoss || decide (s.tribMode p = 0) || !s.tribOn p then s
  else
    let e := portE1 p
    let s := ((s.setTrib p { t with clkLoss := true, fallback := decide (s.tribTiming p = 1) }).count 0x0305 e.toNat 1).raise
      { src := 0x035, code := 1, obj := p }
    let s := if s.tribMode p = 1 then
        let x := s.e1 e
        let y := if x.inFrame then x.lose s.now else x
        ((s.setE1 e { y with los := true }).count 0x0303 e.toNat x.inFrame.toNat).reportE1 e
      else if s.tribMode p = 3 then
        let x := s.c37 p
        (s.setC37 p { x with los := true, inFrame := false, cand1 := 0, cand2 := 0 }).reportC37 p
      else s
    s.alignerStep p false 0

def execTribClkLoss (port : Fin 64) (s : State) : Host.Outcome State Fault Refusal := .next (s.clkLost port.val)

/-- TRIB_CLK_RESTORE: 1,024 good periods. E1-LOS and C37-LOS clear later, on what the port then receives. -/
def execTribClkRestore (port : Fin 64) (s : State) : Host.Outcome State Fault Refusal :=
  let p := port.val
  let t := s.trib p
  .next (if !t.clkLoss then s
    else (s.setTrib p { t with clkLoss := false, fallback := false }).raise { src := 0x035, clr := true, obj := p })

/-- TRIB_TX_SLIP (R81): the fill has left 64 to 448 bits. -/
def execTribTxSlip (port : Fin 64) (fill : Nat) (s : State) : Host.Outcome State Fault Refusal :=
  let p := port.val
  let t := s.trib p
  .next (if decide (s.tribTiming p ≠ 1) || decide (s.tribMode p = 0) || decide (64 ≤ fill ∧ fill ≤ 448) then s
    else ((s.setTrib p { t with txSlips := t.txSlips + 1 }).count 0x0304 (portE1 p).toNat 1).raise { src := 0x037, obj := p })

/-! Commands: tributary ports -/

def tribMask : Word := maskOf [(23, 13), (11, 10), (2, 0)]

/-- The faults of a TRIB_CFG. -/
def tribBad (w : Half) : Bool :=
  let n := tribNOf w
  let m := tribModeOf w
  decide (4 ≤ m) || decide (2 ≤ tribTimingOf w) || decide (fld w 19 18 = 3) ||
    (if m = 3 then decide (n = 0 ∨ 12 < n) else decide (n ≠ 0))

/-- A change outside bushels breaks an accepted contract (R225). -/
def State.breaksContract (s s' : State) : Bool :=
  let broken (s : State) (b : BCfg) (x : Nat × Conn) : Bool := (s.brokenDir b x.1 x.2).isSome
  [s.cfg.b, s.view].any fun b => b.conns.any fun x => broken s' b x && !broken s b x

/-- TRIB_SET (R78, R79, R24, R225). -/
def State.tribSet (s : State) (c : Cmd) : State :=
  let p := c.idx
  let w : Half := BitVec.ofNat 32 (fld (c.word 1) 31 0)
  s.runOp c (setting 1 8 OPR [idxMask, tribMask]) [(decide (63 < p), 0), (tribBad w, 1)] none fun s =>
    let old := s.tribCfg p
    let moved := decide (tribModeOf old ≠ tribModeOf w) || decide (tribTimingOf old ≠ tribTimingOf w) || decide (tribNOf old ≠ tribNOf w)
    let s' : State := { s with cfg.line.trib := s.cfg.line.trib.put tribCfgReset p w }
    if moved && s.either (fun b => tribInRecord b p) then refuse stState 0 s
    else if decide (tribTimingOf old ≠ tribTimingOf w) && s.shortDraws p then refuse stState 0 s
    else if decide (tribModeOf old ≠ 1) && decide (tribModeOf w = 1) && decide (64 ≤ s.framersUsed) then refuse stNoResource 0 s
    else if s.breaksContract s' then refuse stContract 0 s
    else
      let s' := if tribModeOf old ≠ tribModeOf w then
          ((s'.setTrib p { TribPort.reset with loop := (s.trib p).loop }).setE1 (portE1 p) .reset).setC37 p .reset
        else if tribTimingOf old ≠ tribTimingOf w then
          s'.setTrib p { s.trib p with phi0 := none, count := 0, aligned := false, buildOut := 0, fallback := false }
        else s'
      .ok (s'.reportC37 p) []

def State.tribGet (s : State) (c : Cmd) : State :=
  s.runOp c (plainOp 1 9 OPR [idxMask]) [(decide (63 < c.idx), 0)] none fun s => .ok s [BitVec.ofNat 64 (s.tribCfg c.idx).toNat]

/-- TRIB_STATUS. -/
def State.tribStatus (s : State) (c : Cmd) : State :=
  s.runOp c (plainOp 1 10 OPR [idxMask]) [(decide (63 < c.idx), 0)] none fun s =>
    let p := c.idx
    let t := s.trib p
    let inFrame := if s.tribMode p = 1 then (s.e1 (portE1 p)).inFrame else if s.tribMode p = 3 then (s.c37 p).inFrame else false
    .ok s [mkWord [(0, 0, t.clkLoss.toNat), (1, 1, inFrame.toNat), (2, 2, t.aligned.toNat), (3, 3, t.fallback.toNat),
      (15, 8, (t.phi0.getD 0).toNat), (24, 16, t.buildOut.toNat)]]

/-- TRIB_LOOP (R85). -/
def State.tribLoop (s : State) (c : Cmd) : State :=
  let p := c.idx
  let m := fld (c.word 1) 1 0
  s.runOp c (plainOp 1 11 OPR [idxMask, maskOf [(8, 8), (1, 0)]]) [(decide (63 < p), 0), (decide (m = 3), 1)] (forceFail c) fun s =>
    let need := decide (m = 2) && (s.either (fun b => tribInRecord b p) || flag (s.tribCfg p) 15)
    if need && !flag (c.word 1) 8 then refuse stState 0 s
    else .ok ((s.setTrib p { s.trib p with loop := BitVec.ofNat 2 m }).raiseIf need { src := 0x038, obj := p }) []

/-! Commands: E1 and C37.94 -/

/-- The faults of an E1_CFG. -/
def e1Bad (w : Word) : Bool :=
  let n := e1SsmSa w
  badExps (e1SdExp w) (e1SfExp w) || decide (e1Crc4 w = 3) || decide (n ≠ 0 ∧ (n < 4 ∨ 8 < n))

/-- E1_SET (R126): a change of CRC4 restarts the process of §5.3. -/
def State.e1Set (s : State) (c : Cmd) : State :=
  let e := c.eid
  let w := c.word 1
  s.runOp c (setting 2 0x20 OPR [eidMask, maskOf [(31, 24), (20, 16), (11, 8), (6, 5), (1, 0)]]) [(!isE1Eid e, 0), (e1Bad w, 1)] none fun s =>
    let old := s.e1Cfg e
    let s : State := { s with cfg.fram.e1 := s.cfg.fram.e1.put e1CfgReset e.toNat w }
    let x := s.e1 e
    let x := { x with exc := if e1SfExp old = e1SfExp w then x.exc else x.exc.restart,
                      deg := if e1SdExp old = e1SdExp w then x.deg else x.deg.restart }
    .ok (if e1Crc4 old = e1Crc4 w then s.setE1 e x
      else (s.setE1 e { x with crc4 := if e1Crc4 w = 0 then .off else .searching, background := false, mfStart := s.now, fallStart := s.now,
                               siHist := [], mfSeen := [], mfErr := 0, smfSeen := 0, ssmPart := [], ssmValid := false }).reportE1 e) []

def State.e1Get (s : State) (c : Cmd) : State :=
  s.runOp c (plainOp 2 0x21 OPR [eidMask]) [(!isE1Eid c.eid, 0)] none fun s => .ok s [s.e1Cfg c.eid]

/-- A TEN sender may read only what lies on an end of a connection its tenant owns (R163). -/
def State.carrierOwn (s : State) (c : Cmd) (f : Eid → Bool) : Option (Nat × Nat) :=
  if decide (c.rank ≠ TEN) || s.cfg.b.conns.any fun x => decide (x.2.owner = c.t) && (f x.2.a || f x.2.z) then none
  else some (stNotPermitted, 0x06)

/-- An end lies on an E1. -/
def onE1 (e f : Eid) : Bool :=
  if eidKind e = .trib then eidOnTrib f (eidTrib e) else decide (f = e) || (decide (eidKind f = .line) && decide (eidLevelN f = 2) && decide (grainVc f = e))

/-- E1_STATUS (Table 5.10). -/
def State.e1Status (s : State) (c : Cmd) : State :=
  let e := c.eid
  s.runOp c (plainOp 2 0x22 TEN [eidMask]) [(!isE1Eid e, 0)] (s.carrierOwn c (onE1 e)) fun s =>
    let x := s.e1 e
    let ds := s.e1Defects e
    let bit (k : Nat) : Nat := (unmasked ds k).toNat
    let w := s.e1Cfg e
    let valid := x.ssmValid && decide (x.crc4 = .aligned) && decide (e1SsmSa w ≠ 0)
    .ok s [mkWord [(31, 27, x.sa.toNat), (26, 23, x.ssm.acc.toNat), (22, 22, valid.toNat), (17, 16, if e1Crc4 w = 0 then 0 else x.crc4.code),
      (8, 8, x.inFrame.toNat), (7, 7, (s.isMonitor e).toNat), (6, 6, (s.e1Masked e).toNat), (5, 5, bit 6), (4, 4, bit 5), (3, 3, bit 4),
      (2, 2, bit 3), (1, 1, bit 2), (0, 0, bit 1)]]

/-- A record of a configuration addresses a grain of an E1. -/
def BCfg.grainsNamed (b : BCfg) (e : Eid) : Bool :=
  b.someEnd fun f => decide (eidKind f = .line) && decide (eidLevelN f = 2) && decide (grainVc f = e)

/-- E1_FRAMER_BIND (R121, R163). The lowest free framer is taken (log entry 25). -/
def State.e1FramerBind (s : State) (c : Cmd) : State :=
  let e := c.eid
  s.runOp c (setting 2 0x23 OPR [eidMask, maskOf [(0, 0)]]) [(!isE1Eid e || decide (eidKind e = .trib), 0)] none fun s =>
    let mine := s.cfg.fram.bank.find? fun x => decide (x.2 = some e)
    if flag (c.word 1) 0 then
      match mine with
      | some x => .ok s [BitVec.ofNat 64 x.1]
      | none =>
        if 64 ≤ s.framersUsed then refuse stNoResource 0 s
        else
          let n := lowestFree (s.cfg.fram.bank.map (·.1))
          .ok ({ s with cfg.fram.bank := s.cfg.fram.bank.put none n (some e) } : State) [BitVec.ofNat 64 n]
    else
      match mine with
      | none => refuse stState 0 s
      | some x =>
        if s.either fun b => b.grainsNamed e then refuse stState 0 s
        else .ok (({ s with cfg.fram.bank := s.cfg.fram.bank.put none x.1 none } : State).setE1 e .reset) [BitVec.ofNat 64 x.1]

/-- C37_STATUS. -/
def State.c37Status (s : State) (c : Cmd) : State :=
  let p := c.idx
  s.runOp c (plainOp 2 0x24 TEN [idxMask]) [(decide (63 < p), 0)] (s.carrierOwn c fun f => eidOnTrib f p) fun s =>
    let x := s.c37 p
    let ds := s.c37Defects p
    .ok s [mkWord [(0, 0, (unmasked ds 0x11).toNat), (1, 1, (unmasked ds 0x12).toNat), (2, 2, (unmasked ds 0x13).toNat),
      (3, 3, (unmasked ds 0x14).toNat), (4, 4, x.inFrame.toNat), (11, 8, x.accepted.toNat), (15, 12, s.tribN p)]]

def execTribSet (c : Cmd) (s : State) : Host.Outcome State Fault Refusal := packet c s (·.tribSet c)
def execTribGet (c : Cmd) (s : State) : Host.Outcome State Fault Refusal := packet c s (·.tribGet c)
def execTribStatus (c : Cmd) (s : State) : Host.Outcome State Fault Refusal := packet c s (·.tribStatus c)
def execTribLoop (c : Cmd) (s : State) : Host.Outcome State Fault Refusal := packet c s (·.tribLoop c)
def execE1Set (c : Cmd) (s : State) : Host.Outcome State Fault Refusal := packet c s (·.e1Set c)
def execE1Get (c : Cmd) (s : State) : Host.Outcome State Fault Refusal := packet c s (·.e1Get c)
def execE1Status (c : Cmd) (s : State) : Host.Outcome State Fault Refusal := packet c s (·.e1Status c)
def execE1FramerBind (c : Cmd) (s : State) : Host.Outcome State Fault Refusal := packet c s (·.e1FramerBind c)
def execC37Status (c : Cmd) (s : State) : Host.Outcome State Fault Refusal := packet c s (·.c37Status c)

end Sys2Proof.Machine
end

