-- ==== Sys2Proof/Machine/Protection.lean ====
section
/-!
DEFINITION. Protection switching (08_protection.md): criteria, requests, evaluation, selection at the tick, APS, and the commands of class 0x05.
-/
namespace Sys2Proof.Machine

/-! Criteria (R250, R255) -/

/-- The link of a queue's lane is down (Table 10.7). A queue whose packets all come from a channel or the host has no lane. -/
def State.queueLinkDown (s : State) (r : QueueRec) : Bool := decide (r.lane < 40) && !s.linkUp r.lane

/-- SF of a queue leg, inherent and non-intrusive, and its SD (Table 10.7). -/
def State.queueSfI (s : State) (q : Nat) : Bool :=
  let x := s.queue q
  s.queueLinkDown (s.cfg.b.queue q) || x.lops || x.ais.on
def State.queueSfN (s : State) (q : Nat) : Bool := s.queueSfI q || (s.queue q).exc
def State.queueSd (s : State) (q : Nat) : Bool := !s.queueSfI q && (s.queue q).deg

/-- SF and SD of a group leg with MON as given (Table 8.1, column by column; log entry 133). A whole-E1 port runs no framer, so nothing of it is
declared (log entry 26). A leg on a port or queue that is powered off is under SF (R533). -/
def State.legCriteria (s : State) (e0 : Eid) (w : Nat) (mon : Bool) : Bool × Bool :=
  let e := s.seen e0
  match eidKind e with
  | .line =>
    if eidLevelN e = 2 then
      let c := s.seen (grainVc e0)
      let x := e1EidOf e0
      (s.pathSfI c || (if mon then s.e1SfN x else s.e1Down x), mon && s.e1Sd x)
    else (if mon then s.pathSfN e else s.pathSfI e, mon && s.pathDeg e)
  | .trib =>
    let p := eidTrib e
    if !s.tribOn p then (true, false)
    else if s.tribMode p = 1 then (if mon then s.e1SfN (portE1 p) else s.e1Down (portE1 p), mon && s.e1Sd (portE1 p))
    else if s.tribMode p = 3 then (s.c37Down p || s.c37Beyond p (gPortK e + w - 1), false)
    else (false, false)
  | .mate => (!s.mateLinkUp, false)
  | .queue =>
    if !s.queueOn (eidQid e) then (true, false)
    else (if mon then s.queueSfN (eidQid e) else s.queueSfI (eidQid e), mon && s.queueSd (eidQid e))
  | _ => (false, false)

/-- SF-W, SF-P, SD-W, SD-P. -/
structure Criteria where
  sfW : Bool
  sfP : Bool
  sdW : Bool
  sdP : Bool
  deriving DecidableEq, Repr

def State.pgCriteria (s : State) (r : PgRec) : Criteria :=
  let a := s.legCriteria r.leg0 r.width r.mon
  let b := s.legCriteria r.leg1 r.width r.mon
  ⟨a.1, b.1, a.2, b.2⟩

/-- A pair's criteria; a protection lane that is powered off counts as SF-P (R250, R276). -/
def State.lpCriteria (s : State) (w : Word) : Criteria :=
  ⟨s.lineSf (lpWork w), s.lineSf (lpProt w) || !s.laneOn (lpProt w), lpSdEn w && s.lineSd (lpWork w), lpSdEn w && s.lineSd (lpProt w)⟩

/-! Requests (R256 to R260) -/

/-- The levels that select leg 1 (Table 8.2). -/
def levelLeg (n : Nat) : Bool := decide (n = 8 ∨ n = 7 ∨ n = 5 ∨ n = 4 ∨ n = 2 ∨ n = 1)

/-- The level of a held command. -/
def cmdLevel (c : Nat) : Nat := if c = 1 then 0xA else if c = 2 then 8 else if c = 3 then 4 else if c = 4 then 3 else 0

/-- One evaluation of a criterion (R258): with no hold-off it raises its request at once, and so it does during WTR (R259). -/
def Crit.step (c : Crit) (present now : Bool) (holdoff : Nat) : Crit :=
  if !present then .off
  else
    let need := if c.present then c.need else 80 * holdoff
    ⟨true, c.run + 1, need, c.raised || now || decide (need = 0)⟩

/-- What an evaluation needs of a record. -/
structure ProtPar where
  arch : Bool
  revert : Bool
  wtr : Nat
  holdoff : Nat
  /-- Far requests are heard. -/
  hears : Bool
  deriving DecidableEq, Repr

/-- The highest automatic request; on one leg SF is above SD in any case. -/
def Prot.auto (p : Prot) : Nat :=
  if p.sfP.raised then 9 else if p.sfW.raised then 7 else if p.sdP.raised then 6 else if p.sdW.raised then 5 else 0

/-- One evaluation: the state with its request in force, and whether a held manual command ended (R257 to R262). `farChan` says that the far
end bridges. -/
def Prot.evaluate (p0 : Prot) (k : ProtPar) (c : Criteria) (now : Nat) (farChan : Bool) : Prot × Bool :=
  let w := p0.wtrEnd.isSome
  let p := { p0 with sfW := p0.sfW.step c.sfW w k.holdoff, sfP := p0.sfP.step c.sfP false k.holdoff,
                     sdW := p0.sdW.step c.sdW w k.holdoff, sdP := p0.sdP.step c.sdP false k.holdoff }
  let far := if k.hears then p.far else 0
  let ended := decide (p.cmd = 3 ∨ p.cmd = 4) && decide (4 < Nat.max p.auto far)
  let cmd := if ended then 0 else p.cmd
  let loc := Nat.max p.auto (cmdLevel cmd)
  let top := Nat.max loc far
  let isFar := decide (loc < far)
  let wtr := match p.wtrEnd with
    | some t => if 2 < top then none else some t
    | none => if k.revert ∧ !p.farInForce ∧ (p.level = 7 ∨ p.level = 5) ∧ p.sel ∧ top < 2 then some (now + 8000 * k.wtr) else none
  let dnr := (decide (p.level = 1) && !p.farInForce && decide (top ≤ 1)) || (!k.revert && decide (top = 0) && levelLeg p.level)
  let level := if wtr.isSome then 2 else if dnr then 1 else top
  let inFar := isFar && wtr.isNone && !dnr
  let leg := levelLeg level
  ({ p with cmd := cmd, level := level, farInForce := inFar, wtrEnd := wtr, next := leg && (!k.arch || farChan),
            bridgeNext := k.arch && leg }, ended)

/-! Mirroring (R277) -/

/-- Protection state is sent to the standby: the object, the command held, the far request, the APS bytes, and the start of WTR on FN (type 0x03;
log entry 27). -/
def State.mirrorProt (s : State) (group : Bool) (n wtr : Nat) : State :=
  if !s.mirroring then s
  else
    let p := s.protection group n
    let start : BitVec 48 := match p.wtrEnd with
      | some t => s.tick.fn - BitVec.ofNat 48 (s.now + 8000 * wtr - t)
      | none => 0
    s.mirror 3 [mkWord [(63, 63, group.toNat), (62, 62, p.wtrEnd.isSome.toNat), (59, 56, p.cmd), (55, 52, p.far), (47, 32, n), (15, 8, p.k1.toNat),
      (7, 0, p.k2.toNat)], BitVec.ofNat 64 start.toNat]

/-- What is mirrored of a pair or group. -/
def Prot.mirrored (p : Prot) : Nat × Nat × Byte × Byte × Option Nat := (p.cmd, p.far, p.k1, p.k2, p.wtrEnd)

def State.putProt (s : State) (group : Bool) (n wtr : Nat) (p : Prot) : State :=
  let old := (s.protection group n).mirrored
  let s := s.setProtection group n p
  if old = p.mirrored then s else s.mirrorProt group n wtr

/-! Evaluation at cycle 97,000 (R261) -/

/-- The hardware of a pair hears far requests (R267, Table 8.4). -/
def State.hears (s : State) (n : Nat) (w : Word) : Bool :=
  let p := s.protection false n
  lpBidir w && !p.mm && !p.fop

/-- A pair and a group keep running in Firkin (R276). -/
def State.pairRuns (s : State) (w : Word) : Bool := s.awake && (!s.inFirkin || s.pwr.ess.lanes.getLsbD (lpWork w))
def State.groupRuns (s : State) (pg : Nat) : Bool :=
  s.awake && (!s.inFirkin || s.pwr.ess.conns.any fun cid => let r := s.cfg.b.connAt cid; r.pgEn && decide (r.pg = pg))

/-- What does not run is evaluated afresh when it runs again. -/
def Prot.paused (p : Prot) : Prot := { p with sfW := .off, sfP := .off, sdW := .off, sdP := .off }

/-- The accepted K bytes of a lane. -/
def SdhLane.k2acc (l : SdhLane) : Byte := BitVec.ofNat 8 (l.k2hi.acc.toNat * 8 + l.k2lo.acc.toNat)

/-- APS defects of a pair, with their codes (Table 8.4). -/
def Prot.apsDefects (p : Prot) : List (Nat × Bool) := [(0x41, p.pm), (0x42, p.mm), (0x43, p.fop)]

/-- A pair's defects are set; each change raises APS_DEFECT. -/
def State.setAps (s : State) (n : Nat) (p : Prot) : State :=
  let old := (s.protection false n).apsDefects
  let s := s.setProtection false n p
  ((old.zip p.apsDefects).filter fun x => x.1.2 != x.2.2).foldl
    (fun s x => s.raise { src := 0x082, clr := !x.2.2, code := x.2.1, obj := n }) s

/-- One frame of APS-FOP's condition (R269). -/
def State.fopFrame (s : State) (n : Nat) (w : Word) : State :=
  let p := s.protection false n
  if !lpBidir w then s.setAps n { p with pm := false, mm := false, fop := false, fopBad := 0, fopGood := 0 }
  else
    let l := s.sdhLane (lpProt w)
    let bad := decide (fld l.k2acc 7 4 ≠ fld p.k1 3 0) || l.apsInc
    s.setProtection false n (if bad then { p with fopBad := Nat.min 400 (p.fopBad + 1), fopGood := 0 }
      else { p with fopBad := 0, fopGood := Nat.min 400 (p.fopGood + 1) })

def State.evalPair (s : State) (n : Nat) (w : Word) : State :=
  if !s.pairRuns w then s.setProtection false n (s.protection false n).paused
  else
    let s := s.fopFrame n w
    let k : ProtPar := ⟨lpArch w, lpRevert w, lpWtr w, lpHoldoff w, s.hears n w⟩
    let r := (s.protection false n).evaluate k (s.lpCriteria w) s.now (decide (fld (s.sdhLane (lpProt w)).k2acc 7 4 = 1))
    (s.putProt false n (lpWtr w) r.1).raiseIf r.2 { src := 0x083, obj := n }

def State.evalGroup (s : State) (pg : Nat) (r : PgRec) : State :=
  if !s.groupRuns pg then s.setProtection true pg (s.protection true pg).paused
  else
    let x := (s.protection true pg).evaluate ⟨false, r.revert, r.wtr, r.holdoff, false⟩ (s.pgCriteria r) s.now false
    (s.putProt true pg r.wtr x.1).raiseIf x.2 { src := 0x083, obj := pg }

/-- The commands handed over by now have been evaluated. -/
def Waits.evaluated : Waits → Waits
  | .group n _ => .group n true
  | .pair n _ => .pair n true
  | w => w

/-- The protection hardware evaluates every pair and group. -/
def State.protEvaluate (s : State) : State :=
  let s := s.cfg.b.lps.foldl (fun s x => s.evalPair x.1 x.2) s
  let s := s.cfg.b.pgs.foldl (fun s x => s.evalGroup x.1 x.2) s
  { s with cmd.deferred := s.cmd.deferred.map fun d => { d with waits := d.waits.evaluated } }

/-! Selection at the tick (R261, R263, R268) -/

/-- The egress ends whose octets come from a path of a lane. -/
def State.fedFrom (s : State) (lane : Nat) : List Eid :=
  (s.cfg.b.conns.flatMap fun x =>
    (if eidOnLane x.2.a lane then [x.2.z] else []) ++ (if x.2.bidir && eidOnLane x.2.z lane then [x.2.a] else [])).filter fun e =>
      decide (eidKind e = .line) && decide (eidLevelN e ≠ 2)

/-- A pair's selection changes: LP_SWITCH, its paths report from the other lane, and the egresses fed by them send the changed pointer with enabled
NDF (R248). -/
def State.switchPair (s : State) (n : Nat) (w : Word) (p : Prot) : State :=
  let s := s.setProtection false n { p with sel := p.next, bridge := p.bridgeNext }
  if p.next = p.sel then s
  else
    let s := s.raise { src := 0x081, code := p.level, aux := if p.next then lpProt w else lpWork w, obj := n }
    let s := s.count 0x0706 n 1
    let s := (s.fedFrom (lpWork w)).foldl (fun s e =>
      let x := s.path e
      s.setPath e { x with egress := { x.egress with wasAis := true } }) s
    let keys := s.sdh.paths.filterMap fun x =>
      let e : Eid := BitVec.ofNat 32 x.1
      if eidOnLane e (lpWork w) ∨ eidOnLane e (lpProt w) then some (setFld e 31 24 (lpWork w)) else none
    keys.eraseDups.foldl (fun s e => s.reportSeen e) s

/-- The groups' selections change: PG_SWITCH once for all of them. -/
def State.switchGroups (s : State) : State :=
  let hit := (s.cfg.b.pgs.map (·.1)).filter fun pg => let p := s.protection true pg; p.next != p.sel
  let s := hit.foldl (fun s pg =>
    let p := s.protection true pg
    (s.setProtection true pg { p with sel := p.next }).count 0x0705 pg 1) s
  match hit with
  | [] => s
  | pg :: _ => s.raise { src := 0x080, aux := hit.length, obj := pg }

/-- A deferred command of a group or pair is answered at this tick: evaluated, or its object is gone. -/
def Waits.protDone (b : BCfg) : Waits → Bool
  | .group n seen => seen || (b.pg n).isNone
  | .pair n seen => seen || (b.lp n).isNone
  | _ => false

/-- The selections found at the last evaluation take effect, and the commands that it saw are answered with the FN of this frame. -/
def State.protTick (s : State) : State :=
  let s := s.cfg.b.lps.foldl (fun s x => s.switchPair x.1 x.2 (s.protection false x.1)) s
  let s := s.switchGroups
  let fn : Word := BitVec.ofNat 64 s.fnNat
  { s with cmd.deferred := s.cmd.deferred.map fun d =>
      if d.waits.protDone s.cfg.b ∧ d.answer = none then { d with answer := some (BitVec.ofNat 8 stOk, [fn]) } else d }

/-! Timers -/

/-- A criterion by its number: SF-W, SF-P, SD-W, SD-P. -/
def Prot.crit (p : Prot) (i : Nat) : Crit := if i = 0 then p.sfW else if i = 1 then p.sfP else if i = 2 then p.sdW else p.sdP
def Prot.setCrit (p : Prot) (i : Nat) (c : Crit) : Prot :=
  if i = 0 then { p with sfW := c } else if i = 1 then { p with sfP := c } else if i = 2 then { p with sdW := c } else { p with sdP := c }

/-- A pair or group is defined in the active maps. -/
def State.protDefined (s : State) (group : Bool) (n : Nat) : Bool := if group then (s.cfg.b.pg n).isSome else (s.cfg.b.lp n).isSome

/-- HOLDOFF_EXPIRY (R258): a criterion present at every evaluation of its hold-off raises its request, which the next evaluation ranks. -/
def execHoldoffExpiry (group : Bool) (n : Nat) (crit : Fin 4) (s : State) : Host.Outcome State Fault Refusal :=
  let p := s.protection group n
  let c := p.crit crit.val
  .next (if s.protDefined group n && c.present && !c.raised && decide (c.need ≤ c.run) then
      s.setProtection group n (p.setCrit crit.val { c with raised := true })
    else s)

/-- WTR_EXPIRY (R259): WTR is over, and the evaluation that follows yields NR. -/
def execWtrExpiry (group : Bool) (n : Nat) (s : State) : Host.Outcome State Fault Refusal :=
  let p := s.protection group n
  .next (match p.wtrEnd with
    | some t => if s.due t then s.setProtection group n { p with wtrEnd := none } else s
    | none => s)

/-! APS (R264 to R269, R275) -/

/-- The K1 code of a level (Table 8.2). -/
def levelCode (n : Nat) : Nat :=
  if n = 0xA then 0xF else if n = 9 then 0xC else if n = 8 then 0xE else if n = 7 then 0xC else if n = 6 then 0xA else if n = 5 then 0xA
  else if n = 4 then 8 else if n = 3 then 8 else if n = 2 then 6 else n

/-- The far request of an accepted K1, 0 none, and whether the value is counted (R266). -/
def farRequest (k1 : Byte) : Nat × Bool :=
  let code := fld k1 7 4
  let ch := fld k1 3 0
  let byChan (one zero : Nat) : Nat × Bool := if ch = 1 then (one, false) else if ch = 0 then (zero, false) else (0, true)
  if code = 0xF then (0xA, false) else if code = 0xE then (8, false)
  else if code = 0xD ∨ code = 0xC then byChan 7 9
  else if code = 0xB ∨ code = 0xA then byChan 5 6
  else if code = 8 then byChan 4 3
  else if code = 6 then (2, false) else if code = 1 then (1, false)
  else (0, !(decide (code = 0 ∨ code = 2 ∨ code = 4)))

/-- The APS bytes of a pair for its request in force (Table 8.3); the bridge takes its place in K2 as a frame is sent. -/
def Prot.apsBytes (p : Prot) (w : Word) : Byte × Byte :=
  let ch := (levelLeg p.level).toNat
  let code := if p.farInForce then 2 else levelCode p.level
  (BitVec.ofNat 8 (code * 16 + ch), BitVec.ofNat 8 (ch * 16) ||| lpMode w)

/-- K2 of a pair as its lanes send it without MS-RDI (R265, R268). -/
def Prot.k2Sent (p : Prot) : Byte := if flag p.k2 3 then setFld p.k2 7 4 p.bridge.toNat else p.k2

/-- MS-RDI is inserted on a lane (Table 4.9). -/
def State.rdiTx (s : State) (n : Nat) : Bool :=
  let l := s.sdhLane n
  l.los || l.hasLof || l.hasAis

/-- K1 and K2 a lane sends (Table 4.2, R264). -/
def State.kSent (s : State) (n : Nat) : Byte × Byte :=
  let rdi := s.rdiTx n
  match s.cfg.b.pairOf n with
  | none => (0, if rdi then 6 else 0)
  | some x =>
    let p := s.protection false x.1
    (p.k1, if rdi then setFld p.k2Sent 2 0 6 else p.k2Sent)

/-- APS_SERVICE (R265 to R267, R275): the processor of the active writes the APS bytes and hands over the accepted far request. -/
def execApsService (pair : Fin 20) (s : State) : Host.Outcome State Fault Refusal :=
  let n := pair.val
  .next (match s.cfg.b.lp n with
    | none => s
    | some w =>
      let p := s.protection false n
      let acc := (s.sdhLane (lpProt w)).k1.acc
      let r := farRequest acc
      let own := p.apsBytes w
      let p' := { p with kWait := none, kSeen := acc }
      let p' := if s.isStandby then p' else { p' with k1 := own.1, k2 := own.2, far := if lpBidir w then r.1 else 0 }
      let s := s.putProt false n (lpWtr w) p'
      let s := s.count 0x010A (lpProt w) (lpBidir w && r.2 && decide (acc ≠ p.kSeen)).toNat
      if s.prot.fwStall then State.raise { s with prot.fwStall := false } { src := 0x084, clr := true } else s)

/-- APS_FOP (R269): the condition, or its absence, has held for 400 frames. -/
def execApsFop (pair : Fin 20) (s : State) : Host.Outcome State Fault Refusal :=
  let n := pair.val
  let p := s.protection false n
  .next (if (s.cfg.b.lp n).isNone then s
    else if 400 ≤ p.fopBad then s.setAps n { p with fop := true }
    else if 400 ≤ p.fopGood then s.setAps n { p with fop := false }
    else s)

/-- PROT_FW_STALL (R275): an accepted change of K bytes has waited 10 ms. -/
def execProtFwStall (s : State) : Host.Outcome State Fault Refusal :=
  let late := s.prot.pairs.any fun x => match x.2.kWait with | some t => decide (t + 80 ≤ s.now) | none => false
  .next (if late && !s.prot.fwStall then State.raise { s with prot.fwStall := true } { src := 0x084 } else s)

/-- The mismatch defects follow the accepted K2 of the protection lane (Table 8.4), once a value has been accepted. -/
def State.judgeK2 (s : State) (lane : Nat) : State :=
  match s.cfg.b.protOf lane with
  | none => s
  | some x =>
    let l := s.sdhLane lane
    let p := s.protection false x.1
    if !lpBidir x.2 then s
    else
      let pm := if 3 ≤ l.k2hi.run then flag l.k2acc 3 != lpArch x.2 else p.pm
      let low := fld l.k2acc 2 0
      let mm := if l.k2lo.run < 3 then p.mm else if low = 4 then true else if low = 5 then false else p.mm
      s.setAps x.1 { p with pm := pm, mm := mm }

/-- SDH_FRAME_RECEIVE (R91 to R116, R269). -/
def execSdhFrameReceive (f : SdhRx) (s : State) : Host.Outcome State Fault Refusal :=
  let s := s.sdhReceive f
  .next (if s.sdhRuns f.lane.val && decide ((s.sdhLane f.lane.val).framer = .sync) then s.judgeK2 f.lane.val else s)

/-! Commands of class 0x05 -/

def lpIdxMask : Word := maskOf [(4, 0)]
def pgWords (r : Option PgRec) : List Word := let x := r.getD PgRec.reset; [x.w0, x.w1]

/-- The owner check of the PG opcodes. -/
def State.pgOwn (s : State) (c : Cmd) (b : BCfg) : Option (Nat × Nat) := c.ownsAll (pgOwners b (fld (c.word 0) 13 0))

/-- PG_GET (R221, R279). -/
def State.pgGet (s : State) (c : Cmd) : State :=
  let b := s.viewOf c.view
  s.runOp c (plainOp 5 4 TEN [pgMask ||| viewBit]) [] (s.pgOwn c b) fun s => .ok s (pgWords (b.pg (fld (c.word 0) 13 0)))

/-- LP_GET. -/
def State.lpGet (s : State) (c : Cmd) : State :=
  let n := fld (c.word 0) 4 0
  s.runOp c (plainOp 5 9 OPR [lpIdxMask ||| viewBit]) [(decide (19 < n), 0)] none fun s =>
    .ok s [((s.viewOf c.view).lp n).getD lpCfgReset]

/-- A command is given to a group or pair: evaluated at the next evaluation, answered at the tick after it (R257, R262, R263). -/
def State.protCmd (s : State) (group : Bool) (n wtr code : Nat) : Answer :=
  let p := s.protection group n
  if (code = 3 ∨ code = 4) ∧ 3 ≤ p.level then refuse stState 0 s
  else .later (s.putProt group n wtr { p with cmd := code }) (if group then .group n false else .pair n false)

/-- PG_CMD. -/
def State.pgCmd (s : State) (c : Cmd) : State :=
  let pg := fld (c.word 0) 13 0
  s.runOp c { plainOp 5 5 TEN [pgMask, maskOf [(3, 0)]] with active := true } [(decide (4 < fld (c.word 1) 3 0), 1)] (s.pgOwn c s.cfg.b) fun s =>
    match s.cfg.b.pg pg with
    | none => refuse stState 0 s
    | some r => s.protCmd true pg r.wtr (fld (c.word 1) 3 0)

/-- LP_CMD. -/
def State.lpCmd (s : State) (c : Cmd) : State :=
  let n := fld (c.word 0) 4 0
  s.runOp c { plainOp 5 10 OPR [lpIdxMask, maskOf [(3, 0)]] with active := true } [(decide (19 < n), 0), (decide (4 < fld (c.word 1) 3 0), 1)]
    none fun s =>
    match s.cfg.b.lp n with
    | none => refuse stState 0 s
    | some w => s.protCmd false n (lpWtr w) (fld (c.word 1) 3 0)

/-- Merged selection runs on a group: MERGE = 1, the legs locked, neither LP nor FS held; in VERIFY only the preferred leg is taken (R270, R296). -/
def State.merging (s : State) (pg : Nat) : Bool :=
  let m := (s.alignGroup pg).mode
  let c := (s.protection true pg).cmd
  (match s.cfg.b.pg pg with | some r => r.merge | none => false) && decide (m = .locked ∨ m = .hold) && decide (c ≠ 1 ∧ c ≠ 2)

/-- The protection status word (Table 8.10), less its upper half. -/
def State.protStatus (s : State) (group : Bool) (n : Nat) : Word :=
  let p := s.protection group n
  let hold := (List.range 4).any fun i => let c := p.crit i; c.present && !c.raised
  let left := match p.wtrEnd with | some t => ceilDiv (t - s.now) 8000 | none => 0
  mkWord [(31, 16, left), (15, 15, hold.toNat), (14, 14, p.sdP.present.toNat), (13, 13, p.sfP.present.toNat), (12, 12, p.sdW.present.toNat),
    (11, 11, p.sfW.present.toNat), (10, 10, p.wtrEnd.isSome.toNat), (9, 9, (if group then s.merging n else p.bridge).toNat),
    (8, 8, p.sel.toNat), (7, 4, p.cmd), (3, 0, p.level)]

/-- PG_STATUS: its count of blocks clears with the read. -/
def State.pgStatus (s : State) (c : Cmd) : State :=
  let pg := fld (c.word 0) 13 0
  s.runOp c (plainOp 5 6 TEN [pgMask]) [] (s.pgOwn c s.cfg.b) fun s =>
    match s.cfg.b.pg pg with
    | none => refuse stState 0 s
    | some _ =>
      let p := s.protection true pg
      .ok (s.setProtection true pg { p with notPref := 0 }) [setFld (s.protStatus true pg) 63 32 p.notPref]

/-- LP_STATUS. -/
def State.lpStatus (s : State) (c : Cmd) : State :=
  let n := fld (c.word 0) 4 0
  s.runOp c (plainOp 5 11 OPR [lpIdxMask]) [(decide (19 < n), 0)] none fun s =>
    match s.cfg.b.lp n with
    | none => refuse stState 0 s
    | some w =>
      let p := s.protection false n
      let l := s.sdhLane (lpProt w)
      let k := s.kSent (lpProt w)
      .ok s [s.protStatus false n, mkWord [(63, 56, k.1.toNat), (55, 48, k.2.toNat), (47, 40, l.k1.acc.toNat), (39, 32, l.k2acc.toNat),
        (31, 28, p.far), (26, 26, p.fop.toNat), (25, 25, p.mm.toNat), (24, 24, p.pm.toNat)]]

/-- PG_SCAN (R278). -/
def State.pgScan (s : State) (c : Cmd) : State :=
  let start := fld (c.word 0) 13 0
  let any := flag (c.word 0) 16
  s.runOp c (plainOp 5 12 TEN [maskOf [(16, 16), (13, 0)]]) [] none fun s =>
    let hits := (s.cfg.b.pgs.filter fun x =>
      let p := s.protection true x.1
      decide (start ≤ x.1) && c.owns x.2.owner && (if any then decide (p.level ≠ 0) else p.sel)).take 64
    .ok s (BitVec.ofNat 64 hits.length :: hits.map fun x =>
      let p := s.protection true x.1
      mkWord [(18, 18, p.sel.toNat), (17, 14, p.level), (13, 0, x.1)])

def execPgAdd (c : Cmd) (s : State) : Host.Outcome State Fault Refusal := packet c s (·.changeOp c 5 1)
def execPgSet (c : Cmd) (s : State) : Host.Outcome State Fault Refusal := packet c s (·.changeOp c 5 2)
def execPgDel (c : Cmd) (s : State) : Host.Outcome State Fault Refusal := packet c s (·.changeOp c 5 3)
def execPgGet (c : Cmd) (s : State) : Host.Outcome State Fault Refusal := packet c s (·.pgGet c)
def execPgCmd (c : Cmd) (s : State) : Host.Outcome State Fault Refusal := packet c s (·.pgCmd c)
def execPgStatus (c : Cmd) (s : State) : Host.Outcome State Fault Refusal := packet c s (·.pgStatus c)
def execLpSet (c : Cmd) (s : State) : Host.Outcome State Fault Refusal := packet c s (·.changeOp c 5 7)
def execLpDel (c : Cmd) (s : State) : Host.Outcome State Fault Refusal := packet c s (·.changeOp c 5 8)
def execLpGet (c : Cmd) (s : State) : Host.Outcome State Fault Refusal := packet c s (·.lpGet c)
def execLpCmd (c : Cmd) (s : State) : Host.Outcome State Fault Refusal := packet c s (·.lpCmd c)
def execLpStatus (c : Cmd) (s : State) : Host.Outcome State Fault Refusal := packet c s (·.lpStatus c)
def execPgScan (c : Cmd) (s : State) : Host.Outcome State Fault Refusal := packet c s (·.pgScan c)

end Sys2Proof.Machine
end

