-- ==== Sys2Proof/Machine/Align.lean ====
section
/-!
DEFINITION. The Fathom: alignment of group legs, merged selection, symmetric paths, and the commands of class 0x06 (09_fathom_merge.md).
-/
namespace Sys2Proof.Machine

/-! States (R284, R294, R298) -/

/-- DMAX + J of a group, in frames. -/
def BCfg.fullDelay (b : BCfg) (pg : Nat) (r : PgRec) : Nat := b.dmax pg + holdJ (eidLevelN r.leg0)

/-- A leg is in SF (/I). -/
def State.legSf (s : State) (r : PgRec) (one : Bool) : Bool := (s.legCriteria (r.leg one) r.width false).1

/-- The legs count as locked for the read delays. -/
def AlignGroup.isLocked (g : AlignGroup) : Bool := decide (g.mode = .locked ∨ g.mode = .hold ∨ g.mode = .verify)

/-- A group enters a state; ALIGN_CHANGE is raised when the state changes (R298), with `step` when the output stepped. What a state gathers starts
afresh. -/
def State.alignTo (s : State) (pg : Nat) (g : AlignGroup) (m : AlignMode) (step : Bool := false) : State :=
  let old := (s.alignGroup pg).mode
  let base := match m with
    | .search => { g with delta := 0, method := 0, unverified := false, markRun := 0, compared := [], freeSince := none, searchFn := s.tick.fn }
    | .range => { g with delta := 0, method := 0, markRun := 0 }
    | .locked => { g with compared := [], markRun := 0, stuck := false }
    | .hold => { g with compared := [] }
    | .verify => { g with compared := [], markRun := 0, verifyAt := s.now + 16000 }
  let n := { base with mode := m, stepped := g.stepped && decide (m ≠ .search) }
  (s.setAlignGroup pg n).raiseIf (decide (old ≠ m))
    { src := 0x090, code := old.code * 16 + m.code, obj := pg,
      aux := step.toNat * 2 ^ 23 + n.method * 2 ^ 16 + ofSigned 8 n.delta }

/-- A lock is declared: the earlier leg is read at the full delay, the later one |Δ| sooner; the output steps when that changes the preferred
leg's delay (R284). -/
def State.alignLock (s : State) (pg : Nat) (r : PgRec) (g : AlignGroup) (delta : Int) (method : Nat) : State :=
  let full := s.cfg.b.fullDelay pg r
  let d := delta.natAbs
  let r0 := if 0 ≤ delta then full else full - d
  let r1 := if 0 ≤ delta then full - d else full
  let step := if (s.protection true pg).sel then decide (r1 ≠ g.read1) else decide (r0 ≠ g.read0)
  s.alignTo pg { g with delta := delta, method := method, unverified := false, stepped := step, read0 := r0, read1 := r1 } .locked step

/-! Signatures (R286 to R288, R295, R296) -/

/-- Signatures a leg keeps: enough for a run of 8 at every offset. -/
def sigsKept : Nat := 160

/-- The run of 8 that ends in the newest signature is flat: at least 6 equal another of the run (R287). -/
def flatRun (run : List (BitVec 32)) : Bool :=
  decide (8 ≤ run.length) && decide (6 ≤ ((List.range run.length).filter fun i =>
    (List.range run.length).any fun j => decide (i ≠ j) && decide (nth 0 run i = nth 0 run j)).length)

/-- A signature fit for acquisition and verification. -/
def Sig.good (x : Sig) : Bool := x.clean && !x.flat

/-- The fit signature of a leg that ended in a frame. -/
def sigAt (l : List Sig) (t : Int) : Option Sig := l.find? fun x => x.good && decide ((x.fn : Int) = t)

/-- The offsets a group can have: whole frames, or whole multiframes at LO level. -/
def offsets (dmax : Nat) (lo : Bool) : List Int :=
  ((List.range (2 * dmax + 1)).map fun (i : Nat) => (i : Int) - (dmax : Int)).filter fun d => !lo || decide (d % 4 = 0)

/-- The offsets at which the last 8 fit signatures of a leg equal those of the other (R288). -/
def AlignGroup.matches_ (g : AlignGroup) (one : Bool) (dmax : Nat) (lo : Bool) : List Int :=
  let mine := lastN 8 ((if one then g.sigs1 else g.sigs0).filter Sig.good)
  let other := if one then g.sigs0 else g.sigs1
  if mine.length < 8 then []
  else
    (offsets dmax lo).filter fun d => mine.all fun x =>
      match sigAt other (if one then (x.fn : Int) - d else (x.fn : Int) + d) with
      | some y => decide (y.sig = x.sig)
      | none => false

/-- The newest outcomes of compared pairs that all agree. -/
def agreeing (l : List Bool) : Nat := (l.reverse.takeWhile id).length

/-- A compared pair of signatures in LOCKED or VERIFY (R295, R296). -/
def State.alignCompare (s : State) (pg : Nat) (g : AlignGroup) (same : Bool) : State :=
  let s := s.count 0x0703 pg (!same).toNat
  let g := { g with compared := lastN 8 (g.compared ++ [same]), differed := satAdd 8 g.differed (!same).toNat }
  let bad := (g.compared.filter (! ·)).length
  match g.mode with
  | .locked =>
    if 3 ≤ bad then s.alignTo pg g .search
    else s.setAlignGroup pg { g with unverified := g.unverified && decide (agreeing g.compared < 4) }
  | .verify =>
    if 4 ≤ agreeing g.compared then s.alignTo pg { g with unverified := false } .locked
    else if g.compared.length ≤ 4 ∧ 2 ≤ bad then s.alignTo pg g .search
    else s.setAlignGroup pg g
  | _ => s.setAlignGroup pg g

/-- Frames of a signature span (Table 9.2) and of a judged block, by the level of the leg. -/
def spanFrames (lv : Nat) : Nat := if lv = 0 then 1 else if lv = 1 then 4 else 8

/-- A signature span that ends now overlaps SF of its leg: SF stands, or a tick or an evaluation in the span found it (R286; log entry 145). -/
def State.spanSf (s : State) (pg : Nat) (r : PgRec) (one : Bool) : Bool :=
  let g := s.alignGroup pg
  let seen := if one then g.sfSeen1 else g.sfSeen0
  let late := (decide (97000 ≤ s.tick.cycle)).toNat
  s.legSf r one || (decide (seen ≠ 0) && decide (s.now + late < seen + spanFrames (eidLevelN r.leg0)))

/-- SIGNATURE_SPAN (R286 to R288, R294 to R297). -/
def State.signatureSpan (s : State) (x : SigRx) : State :=
  let pg := x.pg.val
  match s.cfg.b.pg pg with
  | none => s
  | some r =>
    if !s.groupRuns pg then s else
    let g := s.alignGroup pg
    let sig : BitVec 32 := BitVec.ofNat 32 (crcOver 32 0x04C1_1DB7 0xFFFF_FFFF x.octets)
    let old := if x.leg1 then g.sigs1 else g.sigs0
    let flat := flatRun (lastN 7 (old.map (·.sig)) ++ [sig])
    let new : Sig := ⟨s.now, sig, !x.qb && !s.spanSf pg r x.leg1, flat⟩
    let kept := lastN sigsKept (old ++ [new])
    let s := s.count 0x0702 pg flat.toNat
    let g := { g with flats := satAdd 8 g.flats flat.toNat, sigs0 := if x.leg1 then g.sigs0 else kept, sigs1 := if x.leg1 then kept else g.sigs1 }
    let mode := s.cfg.b.alignModeOf pg
    let lo := decide (eidLevelN r.leg0 = 1)
    if mode = 2 ∨ !new.good then s.setAlignGroup pg g
    else
      match g.mode with
      | .search =>
        match g.matches_ x.leg1 (s.cfg.b.dmax pg) lo with
        | [d] => s.alignLock pg r g d 1
        | _ => s.setAlignGroup pg g
      | .locked | .verify =>
        match sigAt (if x.leg1 then g.sigs0 else g.sigs1) (if x.leg1 then (s.now : Int) - g.delta else (s.now : Int) + g.delta) with
        | some y => s.alignCompare pg g (decide (y.sig = sig))
        | none => s.setAlignGroup pg g
      | _ => s.setAlignGroup pg g

def execSignatureSpan (x : SigRx) (s : State) : Host.Outcome State Fault Refusal := .next (s.signatureSpan x)

/-! Marks (R289 to R292) -/

def markField (m : List Byte) (at_ n : Nat) : Nat := natOfOctets ((m.drop at_).take n)
def markKind (m : List Byte) : Nat := fld (nth 0 m 1) 7 4
def markStamp (m : List Byte) : Nat := markField m 2 6
def markLag (m : List Byte) : Nat := markField m 8 3
def markTraced (m : List Byte) : Bool := flag (nth 0 m 11) 7

/-- CRC-16 of a mark message. -/
def markCrc (m : List Byte) : Nat := crcOver 16 0x1021 0xFFFF (m.take 30)

/-- A pair of messages with equal STAMP gives a mark offset (R292, R294 to R296). -/
def State.markPair (s : State) (pg : Nat) (r : PgRec) (g0 : AlignGroup) (off : Int) : State :=
  let run := if 0 < g0.markRun ∧ g0.markOff = off then g0.markRun + 1 else 1
  let dmax : Int := s.cfg.b.dmax pg
  let inside := decide (-dmax ≤ off ∧ off ≤ dmax)
  let wasIn := decide (0 < g0.markRun) && decide (-dmax ≤ g0.markOff ∧ g0.markOff ≤ dmax)
  let wasOff := decide (0 < g0.markRun) && decide (g0.markOff ≠ g0.delta)
  let g := { g0 with markOff := off, markRun := run }
  match g.mode with
  | .search => if run < 2 then s.setAlignGroup pg g else if inside then s.alignLock pg r g off 2 else s.alignTo pg g .range
  | .range => if inside && wasIn then s.alignTo pg g .search else s.setAlignGroup pg g
  | .locked =>
    if off = g.delta then s.setAlignGroup pg { g with unverified := false }
    else if wasOff then s.alignTo pg g .search else s.setAlignGroup pg g
  | .verify => if off = g.delta then s.alignTo pg { g with unverified := false } .locked else s.alignTo pg g .search
  | .hold => s.setAlignGroup pg g

/-- A valid message on a leg of a group. -/
def State.markOnLeg (s : State) (pg : Nat) (r : PgRec) (one : Bool) (stamp : Nat) (fn : BitVec 48) : State :=
  let g := s.alignGroup pg
  let seen : MarkSeen := ⟨stamp, fn.toNat⟩
  let g := if one then { g with marks1 := lastN 16 (g.marks1 ++ [seen]), seen1 := some s.now }
           else { g with marks0 := lastN 16 (g.marks0 ++ [seen]), seen0 := some s.now }
  if s.cfg.b.alignModeOf pg = 1 then s.setAlignGroup pg g
  else
    match (if one then g.marks0 else g.marks1).reverse.find? fun m => decide (m.stamp = stamp) with
    | none => s.setAlignGroup pg g
    | some m =>
      let d := toSigned 48 (fn - BitVec.ofNat 48 m.arrival).toNat
      s.markPair pg r g (if one then d else -d)

/-! Symmetric paths (R304 to R307) -/

def SymMode.code : SymMode → Nat
  | .waitTime => 0
  | .search => 1
  | .settled => 2
  | .range => 3

/-- A symmetric record is written; SYM_STATE is raised when its state changes. -/
def State.symTo (s : State) (cid : Nat) (x : SymRec) : State :=
  (s.setSymRec cid x).raiseIf (decide ((s.symRec cid).mode ≠ x.mode)) { src := 0x093, code := x.mode.code, obj := cid }

/-- The line end a symmetric record's marks come from now, with the read delay of its leg in frames (R305); none while the preferred leg is no
mark leg. -/
def State.symMarks (s : State) (r : Conn) : Option (Eid × Nat) :=
  if r.pgEn then
    match s.cfg.b.pg r.pg with
    | none => none
    | some g =>
      let one := (s.protection true r.pg).sel
      let a := s.alignGroup r.pg
      let leg := g.leg one
      if s.markLeg leg then some (markPath leg, if one then a.read1 else a.read0) else none
  else
    let e := if localEnd r.a then r.z else r.a
    if s.markLeg e then some (markPath e, 0) else none

/-- Octet times in 500 µs of a record: 4 for grains, 140 or 104 for TUs. -/
def octetsPer500 (r : Conn) : Nat :=
  if r.level = 2 then 4 else if r.level = 1 then (if loTutOf (if eidKind r.a = .line then r.a else r.z) = 1 then 104 else 140) else 4

/-- A quotient rounded to the nearest integer, halves up. -/
def roundHalfUp (n d : Int) : Int := (2 * n + d) / (2 * d)

/-- Padding of a record in ns. -/
def State.symPadNs (s : State) (cid : Nat) : Nat := (s.symRec cid).padding * 500000 / octetsPer500 (s.cfg.b.connAt cid)

/-- The last n values lie within one octet time of each other. -/
def steady (n : Nat) (l : List (Nat × Bool)) : Bool :=
  let w := (lastN n l).map (·.1)
  decide (n ≤ l.length) && w.all fun a => w.all fun b => decide (a ≤ b + 1)

/-- One measurement's want (R305 to R307): the first padding after 4 steady wants, later ones after 8 that differ by more than one octet time. -/
def SymRec.want (x : SymRec) (k : Nat) (capped : Bool) : SymRec :=
  let ws := lastN 8 (x.wants ++ [(k, capped)])
  let y := { x with wants := ws }
  let cur := x.wantNext.getD x.padding
  let put (y : SymRec) : SymRec := { y with wantNext := if k = x.padding ∧ x.applied then none else some k, applied := true, wants := [] }
  if !x.applied then
    if steady 4 ws then put { y with mode := if capped then .range else .settled }
    else { y with mode := if capped then .range else .search }
  else if x.mode = .range then
    if !capped ∧ 4 ≤ ws.length ∧ (lastN 4 ws).all (fun w => !w.2) then put { y with mode := .settled } else y
  else
    let y := { y with mode := if capped then .range else .settled }
    if 8 ≤ ws.length ∧ ws.all (fun w => decide (cur + 1 < w.1 ∨ w.1 + 1 < cur)) then put y else y

/-- A kind 0x2 message whose TAG matches. -/
def State.symMeasure (s : State) (cid : Nat) (r : Conn) (m : MarkRx) (read : Nat) : State :=
  let x := { s.symRec cid with badTags := 0, tagRaised := false }
  let o := m.octets
  let traced := decide (s.tick.fnSrc = 1 ∨ s.tick.fnSrc = 2) && markTraced o
  let slipped := match s.align.lastSlip with | some t => decide (s.now < t + 8) | none => false
  if slipped then s.setSymRec cid x
  else if !traced then s.symTo cid { x with mode := .waitTime }
  else
    let frames := toSigned 48 (m.fn - BitVec.ofNat 48 (markStamp o)).toNat
    let nIn := frames * 125000 + roundHalfUp (((m.cycle.toNat : Int) - (markLag o : Int)) * 10000) 7776
    let x := { x with nIn := some (BitVec.ofInt 32 nIn) }
    let theirs := markField o 12 4
    if theirs = 0xFFFF_FFFF then s.symTo cid { x with mode := .search }
    else
      let gIn : Int := (markField o 20 4 : Int) + nIn + m.dIn.toNat + (read * 125000 : Nat)
      let gOut : Int := (m.dOut.toNat : Int) + theirs + markField o 16 4
      let n := octetsPer500 r
      let k := roundHalfUp ((gOut - gIn) * n) 500000
      let most := s.cfg.b.padMax cid * n / 4
      let k' := Nat.min k.toNat most
      s.symTo cid ({ x with gIn := BitVec.ofInt 32 gIn, gOut := BitVec.ofInt 32 gOut }.want k' (decide ((most : Int) < k)))

/-- A valid message on the line end of a symmetric record. A standby measures nothing (R309). -/
def State.markOnSym (s : State) (cid : Nat) (r : Conn) (m : MarkRx) (read : Nat) : State :=
  if s.isStandby then s
  else if markField m.octets 28 2 = s.cfg.b.symTag cid then s.symMeasure cid r m read
  else
    let x := s.symRec cid
    let n := x.badTags + 1
    (s.setSymRec cid { x with badTags := n, tagRaised := x.tagRaised || decide (8 ≤ n) }).raiseIf (decide (8 ≤ n) && !x.tagRaised)
      { src := 0x095, obj := cid }

/-- MARK_MESSAGE_RECEIVE (R291). -/
def State.markReceive (s : State) (m : MarkRx) : State :=
  let e := m.eid
  let o := m.octets
  let hunts := decide (eidKind e = .line) && eidForm e && decide (eidLevelN e ≤ 1) && decide (markPosOf (s.pathOh e) ≠ 0) &&
    s.cfg.b.marksHeld e && !s.pathDown (s.seen e) && decide (o.length = 32) && decide (nth 0 o 0 = 0x7E)
  if !hunts then s
  else if markField o 30 2 ≠ markCrc o then s.count 0x0704 e.toNat 1
  else if markKind o ≠ 1 ∧ markKind o ≠ 2 then s
  else
    let s : State := { s with align.lastMark := s.align.lastMark.put [] e.toNat o }
    let onLeg (s : State) (x : Nat × PgRec) (one : Bool) : State :=
      let leg := x.2.leg one
      if decide (eidKind leg = .line) && decide (markPath leg = e) && s.groupRuns x.1 then s.markOnLeg x.1 x.2 one (markStamp o) m.fn else s
    let s := s.cfg.b.pgs.foldl (fun s x => onLeg (onLeg s x false) x true) s
    if markKind o ≠ 2 then s
    else
      (s.cfg.b.conns.filter (·.2.sym)).foldl (fun s x =>
        match s.symMarks x.2 with
        | some (f, read) => if f = e then s.markOnSym x.1 x.2 m read else s
        | none => s) s

def execMarkMessageReceive (m : MarkRx) (s : State) : Host.Outcome State Fault Refusal := .next (s.markReceive m)

/-! Every frame -/

/-- SF of the legs moves a group between LOCKED, HOLD and VERIFY (R294), and starts or ends the time a group stands unaligned (R298). -/
def State.alignSf (s : State) (pg : Nat) (r : PgRec) : State :=
  let g := s.alignGroup pg
  let sf := s.legSf r false || s.legSf r true
  match g.mode with
  | .locked => if sf then s.alignTo pg g .hold else s
  | .verify => if sf then s.alignTo pg g .hold else s
  | .hold => if sf then s else s.alignTo pg g .verify
  | _ => s.setAlignGroup pg { g with freeSince := if sf then none else some (g.freeSince.getD s.now) }

/-- A pending ALIGN_RESTART takes effect (R294, R312). -/
def State.alignRestarts (s : State) (pg : Nat) : State :=
  let g := s.alignGroup pg
  if !g.restart then s
  else
    let s := if g.mode = .search then s.setAlignGroup pg { g with restart := false } else s.alignTo pg { g with restart := false } .search
    s.fix (.alignRestart pg) stOk [BitVec.ofNat 64 (s.alignGroup pg).searchFn.toNat]

/-- Padding takes effect: for grains at an FN that starts a block of 8 frames, else at the tick (R306; log entry 29). -/
def State.symApply (s : State) (cid : Nat) (r : Conn) : State :=
  let x := s.symRec cid
  match x.wantNext with
  | none => s
  | some k =>
    if r.level = 2 ∧ s.fnNat % 8 ≠ 0 then s
    else
      let s := (s.setSymRec cid { x with padding := k, wantNext := none }).raise { src := 0x094, obj := cid }
      if s.mirroring then s.mirror 7 [BitVec.ofNat 64 cid, BitVec.ofNat 64 k] else s

/-! Judgement of the legs' blocks (R116, R138, R145, R299) -/

/-- The blocks of a leg are judged by its framing; those of any other leg by QB and SF (Table 9.5). -/
def State.judges (s : State) (e : Eid) : Bool :=
  match eidKind e with
  | .line | .queue => true
  | .trib => decide (s.tribMode (eidTrib e) = 1 ∨ s.tribMode (eidTrib e) = 3)
  | _ => false

/-- What a tick finds of a leg: the judgement it was given last, or that it has no SF. -/
def State.legJudged (s : State) (e0 : Eid) (w : Nat) : Bool :=
  let e := s.seen e0
  let e1Clean (x : Eid) : Bool := (s.e1 x).clean && !s.e1ClkLoss x && !s.e1Masked x
  match eidKind e with
  | .line => if eidLevelN e = 2 then e1Clean (e1EidOf e0) else (s.path e).clean
  | .trib =>
    let p := eidTrib e
    if s.tribMode p = 1 then e1Clean (portE1 p)
    else if s.tribMode p = 3 then (s.c37 p).clean && !(s.trib p).clkLoss && !s.c37Beyond p (gPortK e + w - 1)
    else s.tribOn p
  | .queue => (s.queue (eidQid e)).blockClean
  | _ => !(s.legCriteria e0 w false).1

/-- Judgements kept: one more than the deepest read delay in frames (R284). -/
def judgedKept : Nat := 81

/-- A tick adds to the judgements of a group's legs. -/
def State.alignJudge (s : State) (pg : Nat) (r : PgRec) : State :=
  let g := s.alignGroup pg
  s.setAlignGroup pg { g with judged0 := (s.legJudged r.leg0 r.width :: g.judged0).take judgedKept,
                              judged1 := (s.legJudged r.leg1 r.width :: g.judged1).take judgedKept }

/-- The judgement of the block that a leg's ring gives in the present frame. One judged by framing is known J frames after its first frame, J as in
R281; any other is its QB and the SF of its frames (Table 9.5; log entry 144). -/
def State.legClean (s : State) (pg : Nat) (r : PgRec) (one : Bool) (qb : Bool) : Bool :=
  let g := s.alignGroup pg
  let h := if one then g.judged1 else g.judged0
  let rd := if one then g.read1 else g.read0
  let lv := eidLevelN r.leg0
  if s.judges (r.leg one) then nth false h (rd - holdJ lv)
  else
    let n := spanFrames lv
    let l := (h.drop (rd - n)).take n
    !qb && decide (l.length = n) && l.all id

/-- A tick and an evaluation note which legs have SF. -/
def State.alignSee (s : State) (pg : Nat) (r : PgRec) : State :=
  let g := s.alignGroup pg
  let at_ (one : Bool) (old : Nat) : Nat := if s.legSf r one then s.now + 1 else old
  s.setAlignGroup pg { g with sfSeen0 := at_ false g.sfSeen0, sfSeen1 := at_ true g.sfSeen1 }

/-- SF of the legs is taken with the criteria, at cycle 97,000 (R261; log entry 145). -/
def State.alignEvaluate (s : State) : State :=
  s.cfg.b.pgs.foldl (fun s x => if s.groupRuns x.1 then (s.alignSee x.1 x.2).alignSf x.1 x.2 else s) s

/-- The Fathom's part of a frame tick. -/
def State.alignTick (s : State) : State :=
  let s := s.spoilMasked
  let s := s.cfg.b.pgs.foldl (fun s x =>
    ((s.alignRestarts x.1).alignSee x.1 x.2).alignJudge x.1 x.2) s
  let gone := s.cmd.deferred.filterMap fun d => match d.waits with | .alignRestart pg => if (s.cfg.b.pg pg).isNone then some pg else none | _ => none
  let s := gone.foldl (fun s pg => s.fix (.alignRestart pg) stOk [BitVec.ofNat 64 s.fnNat]) s
  (s.cfg.b.conns.filter (·.2.sym)).foldl (fun s x => s.symApply x.1 x.2) s

/-- Every group but those that a test keeps goes to SEARCH (R309). -/
def State.alignAfresh (s : State) (keep : Nat → Bool) : State :=
  s.cfg.b.pgs.foldl (fun s x => if keep x.1 then s else s.alignTo x.1 (s.alignGroup x.1) .search) s

/-- VERIFY_TIMEOUT (R294): the lock is taken up again, unverified. -/
def execVerifyTimeout (pg : Fin 16384) (s : State) : Host.Outcome State Fault Refusal :=
  let g := s.alignGroup pg.val
  .next (if decide (g.mode = .verify) && s.due g.verifyAt && (s.cfg.b.pg pg.val).isSome then
      s.alignTo pg.val { g with unverified := true } .locked
    else s)

/-- Why a group is stuck (R298): 0 flat payload, 1 no unique match, 2 no marks, 3 range. -/
def State.stuckCause (s : State) (pg : Nat) (g : AlignGroup) : Nat :=
  if g.mode = .range then 3
  else if s.cfg.b.alignModeOf pg = 2 then 2
  else if (match g.sigs0.getLast?, g.sigs1.getLast? with | some a, some b => a.flat || b.flat | _, _ => false) then 0 else 1

/-- ALIGN_STUCK (R298). -/
def execAlignStuck (pg : Fin 16384) (s : State) : Host.Outcome State Fault Refusal :=
  let g := s.alignGroup pg.val
  .next (match g.freeSince with
    | none => s
    | some t =>
      if g.stuck || !(decide (g.mode = .search ∨ g.mode = .range)) || !s.due (t + 16000) then s
      else (s.setAlignGroup pg.val { g with stuck := true }).raise
        { src := 0x091, code := (Config.causeCode 0x091 (s.stuckCause pg.val g)).toNat, obj := pg.val })

/-! Merged selection (R270 to R272, R299 to R301) -/

/-- A double-failure block: MERGE_DOUBLE_FAIL at most once per second (R301). -/
def State.doubleFail (s : State) (pg : Nat) : State :=
  let p := s.protection true pg
  let n := p.double + 1
  let s := s.count 0x0700 pg 1
  if !s.mayReport p.doubleEvent then s.setProtection true pg { p with double := n }
  else (s.setProtection true pg { p with double := 0, doubleEvent := s.now + 1 }).raise { src := 0x092, aux := Nat.min n 0xFFFFFF, obj := pg }

/-- MERGED_SELECTION: a judged block reaches the selector. A ring that has not been written that far back gives no block (log entry 144). -/
def State.mergedBlock (s : State) (x : BlockIn) : State :=
  let pg := x.pg.val
  match s.cfg.b.pg pg with
  | none => s
  | some r =>
    let g := s.alignGroup pg
    let s := s.setAlignGroup pg { g with skew := g.isLocked && x.skew, pick := none }
    let one := (s.protection true pg).sel
    if !s.merging pg || decide (g.judged0.length ≤ (if one then g.read1 else g.read0)) then s
    else
      let c0 := s.legClean pg r false x.qb0
      let c1 := s.legClean pg r true x.qb1 && (!x.skew || x.covered)
      let pref := if one then c1 else c0
      let other := if one then c0 else c1
      let take := if pref then one else if other then !one else one
      let s := s.setAlignGroup pg { s.alignGroup pg with pick := some take }
      let away := take != one
      let p := s.protection true pg
      let s := s.setProtection true pg { p with notPref := satAdd 32 p.notPref away.toNat }
      let s := s.count 0x0701 pg away.toNat
      if !pref && !other then s.doubleFail pg else s

def execMergedSelection (x : BlockIn) (s : State) : Host.Outcome State Fault Refusal := .next (s.mergedBlock x)

/-- The leg whose block the selector puts out (Table 9.5, R270). -/
def State.legOut (s : State) (pg : Nat) : Bool :=
  let g := s.alignGroup pg
  let p := s.protection true pg
  let merges := match s.cfg.b.pg pg with | some r => r.merge | none => false
  if !merges || !g.isLocked then p.sel
  else if p.cmd = 1 then false
  else if p.cmd = 2 then true
  else if g.mode = .verify then p.sel else g.pick.getD p.sel

/-! Commands of class 0x06 -/

def alignPg (c : Cmd) : Nat := fld (c.word 0) 13 0
def symCid (c : Cmd) : Nat := fld (c.word 0) 18 0

def State.alignGet (s : State) (c : Cmd) : State :=
  let b := s.viewOf c.view
  s.runOp c (plainOp 6 2 TEN [pgMask ||| viewBit]) [] (s.pgOwn c b) fun s => .ok s [b.align.align.look alignCfgReset (alignPg c)]

/-- Marks were seen on a leg in the last 2 s. -/
def seenLately (now : Nat) (t : Option Nat) : Bool := match t with | some t => decide (now < t + 16000) | none => false

/-- ALIGN_STATUS (Table 9.9): its counts clear with the read. -/
def State.alignStatus (s : State) (c : Cmd) : State :=
  let pg := alignPg c
  s.runOp c (plainOp 6 3 TEN [pgMask]) [] (s.pgOwn c s.cfg.b) fun s =>
    if (s.cfg.b.pg pg).isNone then refuse stState 0 s
    else
      let g := s.alignGroup pg
      .ok (s.setAlignGroup pg { g with differed := 0, flats := 0 })
        [mkWord [(63, 56, if g.isLocked then ofSigned 8 g.delta else 0), (55, 48, g.differed), (47, 40, g.flats), (39, 36, g.mode.code),
          (35, 34, g.method), (33, 33, g.unverified.toNat), (32, 32, g.stepped.toNat), (31, 31, (g.isLocked && g.skew).toNat),
          (30, 30, (seenLately s.now g.seen1).toNat), (29, 29, (seenLately s.now g.seen0).toNat), (15, 0, g.ring0.length + g.ring1.length)]]

/-- ALIGN_RESTART (R312): it takes effect at the next tick, and its reply follows that tick. -/
def State.alignRestart (s : State) (c : Cmd) : State :=
  let pg := alignPg c
  s.runOp c (plainOp 6 4 TEN [pgMask]) [] (s.pgOwn c s.cfg.b) fun s =>
    if (s.cfg.b.pg pg).isNone then refuse stState 0 s
    else .later (s.setAlignGroup pg { s.alignGroup pg with restart := true }) (.alignRestart pg)

def State.symGet (s : State) (c : Cmd) : State :=
  let b := s.viewOf c.view
  s.runOp c (plainOp 6 6 TEN [cidMask ||| viewBit]) [] (c.ownsAll (connOwners b (symCid c))) fun s =>
    .ok s [b.align.sym.look symCfgReset (symCid c)]

/-- SYM_STATUS (Table 9.8). -/
def State.symStatus (s : State) (c : Cmd) : State :=
  let cid := symCid c
  s.runOp c (plainOp 6 7 TEN [cidMask]) [] (c.ownsAll (connOwners s.cfg.b cid)) fun s =>
    let x := s.symRec cid
    .ok s [mkWord [(63, 60, x.mode.code), (59, 59, (decide (0 < x.padding)).toNat)], mkWord [(63, 32, x.gIn.toNat), (31, 0, x.gOut.toNat)],
      mkWord [(63, 32, s.symPadNs cid), (31, 0, (x.nIn.getD 0xFFFF_FFFF).toNat)]]

/-- MARK_SET (R290). -/
def State.markSet (s : State) (c : Cmd) : State :=
  let e := c.eid
  s.runOp c (setting 6 8 OPR [eidMask, maskOf [(0, 0)]]) [(badPathEid e, 0)] none fun s =>
    if markPosOf (s.pathOh e) = 0 then refuse stState 0 s
    else .ok { s with cfg.mark.tx := s.cfg.mark.tx.put false e.toNat (flag (c.word 1) 0) } []

/-- MARK_CAPTURE: the last valid message, zeros while there was none (log entry 30). -/
def State.markCapture (s : State) (c : Cmd) : State :=
  let e := c.eid
  s.runOp c (plainOp 6 9 OPR [eidMask]) [(badPathEid e, 0)] none fun s =>
    .ok s (takeWords 4 (s.align.lastMark.look [] e.toNat ++ List.replicate 32 0))

/-- VCAT_ALIGN_SET (R303). -/
def State.vcatAlignSet (s : State) (c : Cmd) : State :=
  let g := fld (c.word 0) 11 0
  let d := fld (c.word 1) 7 0
  s.runOp c (setting 6 10 OPR [maskOf [(11, 0)], maskOf [(7, 0)]]) [(decide (d = 0 ∨ 64 < d), 1)] none fun s =>
    if s.cfg.fram.members.look [] g ≠ [] then refuse stState 0 s
    else .ok { s with cfg.mark.vcatDmax := s.cfg.mark.vcatDmax.put 16 g d } []

/-- FATHOM_MAP. -/
def State.fathomMap (s : State) (c : Cmd) : State :=
  let kind := fld (c.word 1) 1 0
  let start := fld (c.word 1) 31 16
  let m0 := if kind = 0 then pgMask else if kind = 2 then cidMask else eidMask
  s.runOp c (plainOp 6 11 SUP [m0, maskOf [(31, 16), (1, 0)]]) [(decide (kind = 3), 1)] none fun s =>
    let blocks := if kind = 0 then (let g := s.alignGroup (alignPg c); g.ring0 ++ g.ring1)
      else if kind = 1 then s.align.members.look [] c.eid.toNat else (s.symRec (symCid c)).blocks
    let at_ (i : Nat) : Nat := nth 0 blocks (start + i)
    .ok s (BitVec.ofNat 64 blocks.length ::
      (List.range 16).map fun i => mkWord [(63, 48, at_ (4 * i)), (47, 32, at_ (4 * i + 1)), (31, 16, at_ (4 * i + 2)), (15, 0, at_ (4 * i + 3))])

def execAlignSet (c : Cmd) (s : State) : Host.Outcome State Fault Refusal := packet c s (·.changeOp c 6 1)
def execAlignGet (c : Cmd) (s : State) : Host.Outcome State Fault Refusal := packet c s (·.alignGet c)
def execAlignStatus (c : Cmd) (s : State) : Host.Outcome State Fault Refusal := packet c s (·.alignStatus c)
def execAlignRestart (c : Cmd) (s : State) : Host.Outcome State Fault Refusal := packet c s (·.alignRestart c)
def execSymSet (c : Cmd) (s : State) : Host.Outcome State Fault Refusal := packet c s (·.changeOp c 6 5)
def execSymGet (c : Cmd) (s : State) : Host.Outcome State Fault Refusal := packet c s (·.symGet c)
def execSymStatus (c : Cmd) (s : State) : Host.Outcome State Fault Refusal := packet c s (·.symStatus c)
def execMarkSet (c : Cmd) (s : State) : Host.Outcome State Fault Refusal := packet c s (·.markSet c)
def execMarkCapture (c : Cmd) (s : State) : Host.Outcome State Fault Refusal := packet c s (·.markCapture c)
def execVcatAlignSet (c : Cmd) (s : State) : Host.Outcome State Fault Refusal := packet c s (·.vcatAlignSet c)
def execFathomMap (c : Cmd) (s : State) : Host.Outcome State Fault Refusal := packet c s (·.fathomMap c)

end Sys2Proof.Machine
end

