-- ==== Sys2Proof/Machine/Ecdsa.lean ====
section
/-!
DEFINITION. ECDSA over P-256 as R567 names it (FIPS 186-4; its constants are of that standard, log entry 3).
-/
namespace Sys2Proof.Machine

def p256 : Nat := 0xFFFFFFFF00000001000000000000000000000000FFFFFFFFFFFFFFFFFFFFFFFF
def p256B : Nat := 0x5AC635D8AA3A93E7B3EBBD55769886BC651D06B0CC53B0F63BCE3C3E27D2604B
def p256N : Nat := 0xFFFFFFFF00000000FFFFFFFFFFFFFFFFBCE6FAADA7179E84F3B9CAC2FC632551
def p256G : Nat × Nat :=
  (0x6B17D1F2E12C4247F8BCE6E563A440F277037D812DEB33A0F4A13945D898C296, 0x4FE342E2FE1A7F9B8EE7EB4A7C0F9E162BCE33576B315ECECBB6406837BF51F5)

/-- x to the power e modulo m, over the low `bits` bits of e, most significant first. -/
def powMod (m x e : Nat) : Nat → Nat
  | 0 => 1 % m
  | k + 1 =>
    let r := powMod m x (e / 2) k
    if e % 2 = 1 then r * r % m * x % m else r * r % m

/-- The inverse modulo a prime below 2^256. -/
def invMod (m x : Nat) : Nat := powMod m x (m - 2) 256

/-- A point in Jacobian coordinates: x / z^2 and y / z^3, the point at infinity where z is 0. -/
structure EcPoint where
  x : Nat
  y : Nat
  z : Nat
  deriving DecidableEq, Repr

def EcPoint.none : EcPoint := ⟨1, 1, 0⟩

def pMul (a b : Nat) : Nat := a * b % p256
def pSub (a b : Nat) : Nat := (a + (p256 - b % p256)) % p256

/-- Twice a point. -/
def EcPoint.twice (a : EcPoint) : EcPoint :=
  let d := pMul a.z a.z
  let g := pMul a.y a.y
  let b := pMul a.x g
  let l := pMul (3 * pSub a.x d) (a.x + d)
  let x := pSub (l * l) (8 * b)
  ⟨x, pSub (l * pSub (4 * b) x) (8 * (g * g)), pMul (2 * a.y) a.z⟩

/-- A sum of two points. -/
def EcPoint.plus (a b : EcPoint) : EcPoint :=
  if a.z = 0 then b
  else if b.z = 0 then a
  else
    let za := pMul a.z a.z
    let zb := pMul b.z b.z
    let u := pMul a.x zb
    let v := pMul a.y (b.z * zb)
    let h := pSub (b.x * za) u
    let r := pSub (b.y * (a.z * za)) v
    if h = 0 then (if r = 0 then a.twice else .none)
    else
      let hh := pMul h h
      let x := pSub (r * r) (h * hh + 2 * (u * hh))
      ⟨x, pSub (r * pSub (u * hh) x) (v * (h * hh)), pMul (a.z * b.z) h⟩

/-- k times a point, over `bits` bits of k. -/
def EcPoint.times (pt : EcPoint) : Nat → Nat → EcPoint
  | 0, _ => .none
  | bits + 1, k =>
    let d := (pt.times bits (k / 2)).twice
    if k % 2 = 1 then d.plus pt else d

/-- A signature (r, s) over a digest verifies under a public key (x, y). -/
def ecdsaVerifies (x y r s digest : Nat) : Bool :=
  let onCurve := decide (x < p256) && decide (y < p256) && decide (y * y % p256 = (x * x * x + (p256 - 3) * x + p256B) % p256)
  let w := invMod p256N s
  let q := (EcPoint.times ⟨p256G.1, p256G.2, 1⟩ 256 (digest * w % p256N)).plus (EcPoint.times ⟨x, y, 1⟩ 256 (r * w % p256N))
  let zi := invMod p256 q.z
  onCurve && decide (0 < r ∧ r < p256N ∧ 0 < s ∧ s < p256N) && decide (q.z ≠ 0) && decide (pMul q.x (zi * zi) % p256N = r)

end Sys2Proof.Machine
end

