-- ==== Sys2Proof/Machine/Mem.lean ====
section
/-!
DEFINITION. The words of the stores and their SECDED code (15_memories_journal.md R486 to R489).
-/
namespace Sys2Proof.Machine

/-- The key of octet `off` of a store. -/
def octetKey (store off : Nat) : Nat := store * 2 ^ 32 + off

/-- The octets of word a of a store, lowest address first. -/
def State.storeOctets (s : State) (store a : Nat) : List Byte := (List.range 8).map fun i => Tab.look 0 s.mem.octets (octetKey store (8 * a + i))

/-- Word a of a store: octet 0 is bits 7 to 0 (log entry 48). -/
def State.storeWord (s : State) (store a : Nat) : Word := BitVec.ofNat 64 (natOfOctets (s.storeOctets store a).reverse)

/-- The octets of a word as the buses carry it (log entry 48). -/
def leWord (w : Word) : List Byte := (wordOctets w).reverse

def leWords (ws : List Word) : List Byte := ws.flatMap leWord

/-- Octets written from an address up. -/
def putOctets (store : Nat) : Nat → List Byte → List Host.Cell → List Host.Cell
  | _, [], t => t
  | off, b :: l, t => putOctets store (off + 1) l (Tab.put 0 t (octetKey store off) b)

/-- What the check bits of a word say. -/
def State.ecc (s : State) (store a : Nat) : Ecc := s.mem.marks.look .clean (octetKey store a)

def State.setEcc (s : State) (store a : Nat) (e : Ecc) : State := { s with mem.marks := s.mem.marks.put .clean (octetKey store a) e }

def State.storeCounts (s : State) (store : Nat) : StoreCounts := s.mem.counts.look StoreCounts.reset store

def State.setStoreCounts (s : State) (store : Nat) (c : StoreCounts) : State :=
  { s with mem.counts := s.mem.counts.put StoreCounts.reset store c }

/-- An error is captured: the first that is no CE since the capture was cleared, a CE only while none is held; the last 16 captures are kept
(R488). Kinds: 1 CE, 2 UE, 3 poison read, 4 poison write, 5 scrub UE. -/
def State.eccCapture (s : State) (store kind master a : Nat) : State :=
  let m := s.mem
  let held := flag m.eccInfo 31
  let info := mkHalf [(31, 31, 1), (30, 27, store), (26, 24, kind), (23, 20, master)]
  if !held || (decide (kind ≠ 1) && decide (fld m.eccInfo 26 24 = 1)) then
    { s with mem.eccInfo := info, mem.eccAddr := BitVec.ofNat 32 a,
             mem.errLog := lastN 16 (m.errLog ++ [⟨s.tick.fn, info, BitVec.ofNat 32 a⟩]) }
  else s

/-- A corrected error. -/
def State.noteCe (s : State) (store master a : Nat) : State :=
  let c := s.storeCounts store
  let s := s.setStoreCounts store { c with ce := c.ce + 1, ceSince := c.ceSince + 1 }
  State.eccCapture { s with mem.statCe := satAdd 16 s.mem.statCe 1 } store 1 master a

/-- An uncorrectable word: it is stored again with the poison syndrome, and MEM_UE is raised. -/
def State.noteUe (s : State) (store master a : Nat) : State :=
  let c := s.storeCounts store
  let s := (s.setStoreCounts store { c with ue := c.ue + 1 }).setEcc store a .poison
  (State.eccCapture { s with mem.statUe := satAdd 8 s.mem.statUe 1 } store (if master = 9 then 5 else 2) master a).raise
    { src := 0x121, code := store, obj := a }

def State.notePoisonRead (s : State) (store master a : Nat) : State :=
  let c := s.storeCounts store
  let s := s.setStoreCounts store { c with poisonReads := c.poisonReads + 1 }
  State.eccCapture { s with mem.statPoison := satAdd 8 s.mem.statPoison 1 } store 3 master a

/-- A poison write: MEM_POISON_WRITE with the master as its object. -/
def State.notePoisonWrite (s : State) (store master a : Nat) : State :=
  let c := s.storeCounts store
  let s := s.setStoreCounts store { c with poisonWrites := c.poisonWrites + 1 }
  (State.eccCapture { s with mem.statPoison := satAdd 8 s.mem.statPoison 1 } store 4 master a).raise { src := 0x122, obj := master }

/-- A map word that must be repaired (R491). -/
def State.noteMap (s : State) (store a : Nat) : State :=
  if store = 1 ∧ !s.bush.badMapWords.contains a then { s with bush.badMapWords := s.bush.badMapWords ++ [a] } else s

/-- What a datapath block, the scrub or an always-on engine found in a word (Table 15.2). -/
def State.eccFound (s : State) (e : EccEvent) : State :=
  let st := e.store.val
  let a := e.addr.toNat
  let m := e.master.toNat
  match e.found with
  | .clean => s
  | .correctable => (s.noteCe st m a).setEcc st a .clean
  | .uncorrectable => (s.noteUe st m a).noteMap st a
  | .poison =>
    let s := s.noteMap st a
    if m = 9 then s
    else if m = 8 then
      let c := s.storeCounts st
      s.setStoreCounts st { c with qbCarried := c.qbCarried + 1 }
    else s.notePoisonRead st m a

/-- A matrix master reads a word: the data, and whether the answer is an error response (Table 15.2). -/
def State.memRead (s : State) (store a master : Nat) : Word × Bool × State :=
  let w := s.storeWord store a
  match s.ecc store a with
  | .clean => (w, false, s)
  | .correctable => (w, false, (s.noteCe store master a).setEcc store a .clean)
  | .uncorrectable => (w, true, s.noteUe store master a)
  | .poison => (w, true, s.notePoisonRead store master a)

/-- How a write changes the enabled octets: plain, or through the bit-set or bit-clear alias (R489). -/
inductive WriteKind where
  | plain
  | setBits
  | clearBits
  deriving DecidableEq, Repr

/-- The octet a write leaves. -/
def WriteKind.apply : WriteKind → Byte → Byte → Byte
  | .plain, _, d => d
  | .setBits, o, d => o ||| d
  | .clearBits, o, d => o &&& ~~~d

/-- An armed injection takes effect on a word just written (MEM_INJECT). -/
def State.injected (s : State) (store a : Nat) : State :=
  match s.mem.injects.find? fun i => decide (i.store = store) && decide (i.addr = a) with
  | none => s
  | some i =>
    let s : State := { s with mem.injects := s.mem.injects.erase i }
    if i.kind = 1 then s.setEcc store a .correctable
    else if i.kind = 3 then s.setEcc store a .poison
    else
      let w := s.storeWord store a ^^^ BitVec.ofNat 64 (2 ^ i.bit) ^^^ BitVec.ofNat 64 (2 ^ (i.bit + 1))
      State.setEcc { s with mem.octets := putOctets store (8 * a) (leWord w) s.mem.octets } store a .uncorrectable

/-- A matrix master writes a word: eight octets with their enables. Answers whether the answer is an error response (Table 15.2). -/
def State.memWrite (s : State) (store a master : Nat) (kind : WriteKind) (octets : List Byte) (enables : List Bool) : Bool × State :=
  let old := s.storeOctets store a
  let merged := (List.range 8).map fun i => if nth false enables i then kind.apply (nth 0 old i) (nth 0 octets i) else nth 0 old i
  let put : State := { s with mem.octets := putOctets store (8 * a) merged s.mem.octets }
  let full := decide (kind = .plain) && (List.range 8).all fun i => nth false enables i
  if full then (false, (put.setEcc store a .clean).injected store a)
  else
    match s.ecc store a with
    | .clean => (false, put.injected store a)
    | .correctable => (false, ((put.noteCe store master a).setEcc store a .clean).injected store a)
    | _ => (true, ((put.notePoisonWrite store master a).setEcc store a .poison).injected store a)

/-- A write of octets from an offset up, word by word; whether any word answered an error (R489: each word is atomic for itself). -/
def State.memWriteRun (s : State) (store off master : Nat) (kind : WriteKind) (octets : List Byte) (enables : List Bool) : Bool × State :=
  if octets.isEmpty then (false, s)
  else
    let first := off / 8
    let words := (off + octets.length - 1) / 8 - first + 1
    (List.range words).foldl (fun (r : Bool × State) k =>
      let at_ (i : Nat) : Nat := 8 * (first + k) + i
      let os := (List.range 8).map fun i => if at_ i < off then 0 else nth 0 octets (at_ i - off)
      let es := (List.range 8).map fun i => if at_ i < off then false else nth false enables (at_ i - off)
      let x := r.2.memWrite store (first + k) master kind os es
      (r.1 || x.1, x.2)) (false, s)

/-- MEM_CE, at the end of a second that had CEs in a store (R488; log entry 49). -/
def State.ceSecond (s : State) : State :=
  s.mem.counts.foldl (fun s x =>
    if x.2.ceSince = 0 then s
    else (s.setStoreCounts x.1 { s.storeCounts x.1 with ceSince := 0 }).raise { src := 0x120, aux := x.2.ceSince, obj := x.1 }) s

end Sys2Proof.Machine
end

