-- ==== Sys2Proof/Machine/Matrix.lean ====
section
/-!
DEFINITION. The control matrix (13_host_ports_dma.md §13.4): permitted accesses, decode errors, locks, the error capture and the filters of matrix
accesses.
-/
namespace Sys2Proof.Machine

/-- Kinds of a capture (MATRIX_ERR_INFO). -/
def kDecode : Nat := 1
def kDenied : Nat := 2
def kLockBroken : Nat := 3
def kLockedField : Nat := 4
def kSize : Nat := 5
def kSecondLock : Nat := 6

/-- DMA status codes (Table 13.8). -/
def dmOk : Nat := 0x00
def dmLenZero : Nat := 0x01
def dmTooShort : Nat := 0x02
def dmTooLong : Nat := 0x03
def dmBadDesc : Nat := 0x04
def dmHostErr : Nat := 0x05
def dmPoison : Nat := 0x06
def dmAborted : Nat := 0x07
def dmDenied : Nat := 0x08
def dmDecode : Nat := 0x09
def dmBadInstr : Nat := 0x0A
def dmLockBroken : Nat := 0x0B
def dmDropped : Nat := 0x0C

/-- An error is counted, and captured when nothing is held (R436). -/
def State.matrixCapture (s : State) (master unit target kind : Nat) (write : Bool) (off : Nat) : State :=
  let x := s.host.matrix
  let s : State := { s with host.matrix.errCount := satAdd 16 x.errCount 1 }
  let s : State := if flag x.errInfo 31 then s
    else { s with host.matrix.errInfo := mkHalf [(31, 31, 1), (30, 28, master), (27, 24, target), (23, 20, kind), (19, 19, write.toNat),
        (18, 13, if master = 2 ∨ master = 3 then unit else 0)],
                  host.matrix.errAddr := BitVec.ofNat 32 off }
  s.count 0x0912 kind 1

/-- A decode, denied or access-size error: captured, and MATRIX_ERROR raised with the kind and the offset (log entry 50). -/
def State.matrixError (s : State) (master unit target kind : Nat) (write : Bool) (off : Nat) : State :=
  (s.matrixCapture master unit target kind write off).raise { src := 0x0D0, code := kind, obj := off }

/-- A write to a locked field (R3, R436). -/
def State.lockedField (s : State) (master target off : Nat) : State :=
  (s.matrixCapture master 0 target kLockedField true off).raise { src := 0x0D2, code := master, aux := target, obj := off }

/-- The accesses of Table 13.5: master, ring or channel, target, and the direction. -/
def matrixPermits (m unit t : Nat) (write : Bool) : Bool :=
  match m with
  | 0 => decide (t ≤ 6) && !(write && decide (t = 1))
  | 1 => (decide (t = 0 ∨ t = 2 ∨ t = 6)) || (decide (t = 1) && !write)
  | 2 => decide (t = 0 ∨ t = 5)
  | 3 => decide (t = 0 ∨ t = 5) || (decide (t = 1) && (!write || decide (unit = 0))) || (decide (t = 2) && !write) ||
      (decide (t = 3) && decide (unit = 3)) || (decide (t = 6) && !write)
  | 4 => decide (t = 0 ∨ t = 6) || (decide (t = 2) && !write)
  | 5 => decide (t = 0 ∨ t = 6) || (decide (t = 2) && !write)
  | 6 => decide (t = 0) || (decide (t = 6) && !write)
  | _ => false

/-- The targets a master may lock (R432). -/
def matrixLocks (m unit t : Nat) : Bool :=
  match m with
  | 0 => decide (t = 0 ∨ t = 2 ∨ t = 6)
  | 1 => decide (t = 0 ∨ t = 6)
  | 3 => decide (unit < 4) && decide (t = 0)
  | _ => false

/-- Octets of a target; 0 for a code without one. -/
def State.targetSize (s : State) (t : Nat) : Nat :=
  match t with
  | 0 => 0x60000
  | 1 => 0x400000
  | 2 => 0x10000
  | 3 => 0x80000
  | 4 => 0x40000
  | 5 => 64 * s.tunCells
  | 6 => 0x10000
  | _ => 0

/-- DECODE_MODE. -/
def State.hangMode (s : State) : Bool := flag s.host.matrix.ctrl 0

/-- The host privilege of a port (R418). -/
def State.hostPriv (s : State) (portB : Bool) : Nat := if portB then fld s.host.matrix.ctrl 5 4 else fld s.host.matrix.ctrl 3 2

/-- A filter matches a matrix access (R471). -/
def filterMatrix (r : Rec2) (m t off : Nat) (write : Bool) (priv : Option Nat) : Bool :=
  flag r.1 63 && !flag r.1 62 && flag r.1 (54 + m) && decide (t ≤ 6) && flag r.1 (46 + t) && flag r.1 (if write then 45 else 44) &&
    decide (fld r.2 31 0 ≤ off) && decide (off ≤ fld r.2 63 32) && (match priv with | some p => flag r.1 (24 + p) | none => true)

/-- Filter hits of an access: each adds one to the counters that select 0x0911 (R471). -/
def State.filterAccess (s : State) (m t off : Nat) (write : Bool) (priv : Option Nat) : State :=
  s.cfg.ev.filters.foldl (fun s x => if filterMatrix x.2 m t off write priv then s.count 0x0911 x.1 1 else s) s

/-- A master stalls at a decode error in hang mode: a processor, a ring or a channel; a host's request is only retired (R434). -/
def State.stall (s : State) (m unit : Nat) : State :=
  if m = 2 then s.setRing unit { s.ring unit with stalled := true }
  else if m = 3 then { s with host.chans := s.host.chans.put Chan.reset unit { s.host.chans.look Chan.reset unit with stalled := true } }
  else if m = 4 ∨ m = 5 then s
  else { s with host.matrix.stalled := setFlag s.host.matrix.stalled m true }

/-- A decode error (R434). -/
def State.decodeError (s : State) (m unit t : Nat) (write : Bool) (off : Nat) : State :=
  let s := s.matrixError m unit t kDecode write off
  if s.hangMode then s.stall m unit else s

/-- The registers host boot exposes (R569). -/
def bootRegister (off : Nat) : Bool := decide (off < 8) || decide (0x80 ≤ off ∧ off < 0x98)

/-- A BAR0 access that decodes to nothing: the remainder, the other port's rings, and before the firmware runs all but the boot registers. -/
def State.barHole (s : State) (portB : Bool) (off : Nat) : Bool :=
  decide (0x80000 ≤ off) || (if portB then decide (0x1000 ≤ off ∧ off < 0x1800) else decide (0x1800 ≤ off ∧ off < 0x2000)) ||
    (decide (s.boot.mode ≠ .running) && !bootRegister off)

/-- The answer a refused read gets: Completer Abort at a host port, else an error response. -/
def State.refuseRead (s : State) (m : Nat) : State := if m = 4 ∨ m = 5 then s.emit (.completerAbort (m = 5)) else s.emit (.busError m)

/-- A master's accesses reach the matrix: a stalled processor and a frozen one send none, and nor does any master of a device asleep. -/
def State.busLive (s : State) (m : Nat) : Bool := s.awake && !s.host.matrix.stalled.getLsbD m && !(s.boot.frozen && decide (m < 2))

/-- A host's read of BAR0 that decodes to nothing: an error, or in hang mode no completion (R434). -/
def State.readHole (s : State) (m off : Nat) : State :=
  let t := s.decodeError m 0 15 false off
  if s.hangMode then t else t.refuseRead m

/-- A register at an offset answers a read of this master. -/
def State.regReadable (s : State) (m off : Nat) : Bool :=
  s.busLive m && !(decide (m = 4 ∨ m = 5) && s.barHole (m = 5) off) && matrixPermits m 0 6 false

/-- A 4-octet read of a register with an effect of its own, as the matrix serves it (R429, R430, R434, R471; log entry 137). `own`: the register
is one this master may read. -/
def State.readReg (s : State) (m off : Nat) (own : Bool) (read : State → Half × State) : State :=
  if !s.busLive m then s
  else if decide (m = 4 ∨ m = 5) && s.barHole (m = 5) off then s.readHole m off
  else
    let s := s.filterAccess m 6 off false none
    if !(matrixPermits m 0 6 false && own) then (s.matrixError m 0 6 kDenied false off).refuseRead m
    else
      let r := read s
      r.2.emit (.regRead (r.1.setWidth 64))

/-- How an access fares. -/
inductive Access where
  | go
  /-- An error response, with the DMA status that tells it. -/
  | error (status : Nat)
  /-- Never answered (hang mode). -/
  | hang
  /-- The target is locked by another master. -/
  | wait
  deriving DecidableEq, Repr

/-- The lock of a target. -/
def State.lockOf (s : State) (t : Nat) : Option MatrixLock := s.host.matrix.locks.find? fun l => decide (l.target = t)

/-- An access is judged, and its lock marks take effect (R429 to R434). `len` octets from `off` of target t. -/
def State.matrixJudge (s : State) (m unit t off len : Nat) (write lockBegin lockEnd : Bool) (priv : Option Nat) : Access × State :=
  let s := s.filterAccess m t off write priv
  if 7 ≤ t ∨ s.targetSize t < off + len then
    (if s.hangMode then .hang else .error dmDecode, s.decodeError m unit (if 7 ≤ t then 15 else t) write off)
  else if !matrixPermits m unit t write || (lockBegin && !matrixLocks m unit t) then
    if t = 1 ∧ write then
      (.error dmDenied, (s.matrixCapture m unit t kDenied write off).raise { src := 0x075, code := m, obj := off })
    else (.error dmDenied, s.matrixError m unit t kDenied write off)
  else
    let x := s.host.matrix
    match x.broken.find? fun b => decide (b.master = m) && decide (b.target = t) && (!b.told || lockEnd) with
    | some b =>
      let rest := x.broken.erase b
      (.error dmLockBroken, { s with host.matrix.broken := if lockEnd then rest else rest ++ [{ b with told := true }] })
    | none =>
      match s.lockOf t with
      | some l =>
        if l.master ≠ m then (.wait, s)
        else (.go, if lockEnd then { s with host.matrix.locks := x.locks.erase l } else s)
      | none =>
        if lockBegin then
          if x.locks.any fun l => decide (l.master = m) then (.error dmDenied, s.matrixCapture m unit t kSecondLock write off)
          else (.go, if lockEnd then s else { s with host.matrix.locks := x.locks ++ [⟨t, m⟩] })
        else (.go, s)

/-- The error response of a write reaches its master: a bus error to a processor or engine; a host's write is posted (R430, R487). -/
def State.busFault (s : State) (m : Nat) : State := if m = 4 ∨ m = 5 then s else s.emit (.busError m)

/-- The store a matrix target stands for (ECC_ERR_INFO STORE). -/
def targetStore (t : Nat) : Nat := if t = 0 then 0 else if t = 1 then 1 else if t = 2 then 6 else if t = 3 then 8 else if t = 4 then 7 else 4

/-- Control SRAM has a plain, a bit-set and a bit-clear view (R489): the view an offset lies in, and the offset within the 128 KiB. -/
def sramView (off : Nat) : WriteKind × Nat :=
  (if off < 0x20000 then .plain else if off < 0x40000 then .setBits else .clearBits, off % 0x20000)

/-- A permitted write of octets to a memory target; one that runs on from one view of control SRAM into the next acts in each. What the maps
hold is the compiler's own (R203). -/
def State.targetWrite (s : State) (m t off : Nat) (octets : List Byte) (enables : List Bool) : Bool × State :=
  if t = 1 then (false, s)
  else if t = 0 then
    let v := sramView off
    let n := 0x20000 - v.2
    let r := s.memWriteRun 0 v.2 m v.1 (octets.take n) (enables.take n)
    if octets.length ≤ n then r
    else
      let x := r.2.memWriteRun 0 0 m (sramView (off + n)).1 (octets.drop n) (enables.drop n)
      (r.1 || x.1, x.2)
  else s.memWriteRun (targetStore t) off m .plain octets enables

end Sys2Proof.Machine
end

