-- ==== Sys2Proof/Machine/Pie.lean ====
section
/-!
DEFINITION. The packet interworking engine: frames, pseudowire packets, the jitter buffer, stores, transmit order, and the commands of class 0x07
(10_packet_interworking.md).
-/
namespace Sys2Proof.Machine

/-! Ethernet frames -/

/-- A frame's header: destination address, the VIDs of its tags, outermost first, the EtherType, and the octets after it. -/
structure EthHead where
  dst : Nat
  vids : List Nat
  etype : Nat
  rest : List Byte
  deriving DecidableEq, Repr

/-- The tags at the head of a list of octets, the EtherType and what follows (tag EtherTypes 0x8100 and 0x88A8; log entry 32). -/
def ethTags : List Byte → List Nat × Nat × List Byte
  | a :: b :: c :: d :: l =>
    let t := a.toNat * 256 + b.toNat
    if t = 0x8100 ∨ t = 0x88A8 then
      let r := ethTags l
      ((c.toNat * 256 + d.toNat) % 4096 :: r.1, r.2)
    else ([], t, c :: d :: l)
  | a :: b :: l => ([], a.toNat * 256 + b.toNat, l)
  | l => ([], 0, l)

def ethHead (o : List Byte) : EthHead :=
  let r := ethTags (o.drop 12)
  ⟨natOfOctets (o.take 6), r.1, r.2.1, r.2.2⟩

/-- The outer VLAN, 0xFFF untagged. -/
def EthHead.vid (h : EthHead) : Nat := h.vids.headD 0xFFF

/-- The octets at a place, as a number. -/
def at_ (o : List Byte) (i n : Nat) : Nat := natOfOctets ((o.drop i).take n)

/-- The one's complement sum of 16-bit words. -/
def ipSum : List Byte → Nat
  | a :: b :: l => a.toNat * 256 + b.toNat + ipSum l
  | _ => 0

/-- A sum folded into 16 bits. -/
def fold16 (n : Nat) : Nat := let a := n % 65536 + n / 65536; a % 65536 + a / 65536

/-- The checksum of an IPv4 header whose checksum field is 0. -/
def ipChecksum (h : List Byte) : Nat := 65535 - fold16 (ipSum h)

/-! Pseudowire encapsulations (R316) -/

/-- The bottom label and what follows it, for one or two entries. -/
def mplsBottom (o : List Byte) : Option (Nat × List Byte) :=
  if o.length < 4 then none
  else if flag (nth 0 o 2) 0 then some (at_ o 0 3 / 16, o.drop 4)
  else if o.length < 8 then none
  else if flag (nth 0 o 6) 0 then some (at_ o 4 3 / 16, o.drop 8) else none

/-- An IPv4 packet shows a UDP destination port: version 4, protocol 17, the first fragment (log entry 32). -/
def udpPort (o : List Byte) : Option Nat :=
  let ihl := fld (nth 0 o 0) 3 0
  if o.length < 4 * ihl + 4 || decide (fld (nth 0 o 0) 7 4 ≠ 4) || decide (nth 0 o 9 ≠ 17) || decide (at_ o 6 2 % 8192 ≠ 0) then none
  else some (at_ o (4 * ihl + 2) 2)

/-- The receive conditions of UDP over IPv4 (Table 10.2), less the port. -/
def ipOk (o : List Byte) (dest : Nat) : Bool :=
  decide (28 ≤ o.length) && decide (nth 0 o 0 = 0x45) && decide (at_ o 6 2 % 0x4000 = 0) && decide (fold16 (ipSum (o.take 20)) = 0xFFFF) &&
    decide (nth 0 o 9 = 17) && decide (at_ o 16 4 = dest)

/-- A template parses under an encapsulation, up to where the control word goes (R335). -/
def templateOk (encap : Bool) (t : List Byte) : Bool :=
  let h := ethHead t
  decide (14 ≤ t.length) && decide (t.length ≤ 60) && decide (h.vids.length ≤ 2) &&
    (if encap then decide (h.etype = 0x0800) && decide (h.rest.length = 28) && decide (nth 0 h.rest 0 = 0x45) &&
        decide (at_ h.rest 6 2 % 0x4000 = 0) && decide (nth 0 h.rest 9 = 17)
     else decide (h.etype = 0x8847) && (match mplsBottom h.rest with | some x => x.2.isEmpty | none => false))

/-- Octets with a run of them replaced from a place on. -/
def patch (o : List Byte) (i : Nat) (new : List Byte) : List Byte := o.take i ++ new ++ o.drop (i + new.length)

/-- The header sent: a template with the IPv4 total length, identification, header checksum and UDP length filled in (R318). -/
def fillHeader (encap : Bool) (t : List Byte) (payload : Nat) : List Byte :=
  if !encap then t
  else
    let b := t.length - 28
    let ip := patch (patch (patch ((t.drop b).take 20) 2 (octetsOf 2 (28 + payload))) 4 [0, 0]) 10 [0, 0]
    let ip := patch ip 10 (octetsOf 2 (ipChecksum ip))
    let udp := patch (patch (t.drop (b + 20)) 4 (octetsOf 2 (8 + payload))) 6 [0, 0]
    t.take b ++ ip ++ udp

/-! Defects (R331) -/

def State.pwDefects (s : State) (q : Nat) : List (Nat × Bool × Bool) :=
  let x := s.queue q
  let m := s.queueLinkDown (s.cfg.b.queue q)
  [(0x51, x.lops, m), (0x52, x.exc, m || x.lops), (0x53, x.deg, m || x.lops), (0x54, x.rdi.on, m || x.lops), (0x55, x.ais.on, m || x.lops)]

def State.reportQueue (s : State) (q : Nat) : State :=
  let x := s.queue q
  let cs := defectChanges (s.pwDefects q) x.reported
  (s.setQueue q { x with reported := applyChanges cs x.reported }).raiseChanges 0x0A0 q cs

/-! The jitter buffer (R327 to R330) -/

/-- The reference of a queue is sent to the standby (type 0x09): Q-ID, SEQ, playout FN. -/
def State.mirrorRef (s : State) (q : Nat) : State :=
  if !s.mirroring then s
  else
    let x := s.queue q
    s.mirror 9 [mkWord [(31, 16, q), (15, 0, x.refSeq.toNat)],
      BitVec.ofNat 64 (s.tick.fn + BitVec.ofNat 48 x.refFn - BitVec.ofNat 48 s.now).toNat]

/-- A queue re-centres when at least 4 of the last 16 expected packets were late, or 4 early, and at least 8 of them came (log entry 33). -/
def offCentre (l : List (BitVec 16 × Nat)) : Bool :=
  let n (k : Nat) : Nat := (l.filter fun x => decide (x.2 = k)).length
  (decide (4 ≤ n 2) || decide (4 ≤ n 3)) && decide (8 ≤ (l.filter fun x => decide (x.2 ≠ 1)).length)

/-- The outcomes of expected packets change; a re-centre may follow (R330). -/
def State.setRecent (s : State) (q : Nat) (l : List (BitVec 16 × Nat)) : State :=
  let x := s.queue q
  if offCentre l && !x.recentre then
    ((s.setQueue q { x with recent := [], noted := [], recentre := true, blockClean := false }).count 0x0607 q 1).raise { src := 0x0A1, obj := q }
  else s.setQueue q { x with recent := l }

/-- The frames of a packet's payload. -/
def framesOf : Nat → Nat → List Byte → List (List Byte)
  | 0, _, _ => []
  | n + 1, b, l => l.take b :: framesOf n b (l.drop b)

/-- A well-formed packet enters the jitter buffer: SEQ, L, payload of PKT frames. A standby takes its references from the mirror (R517). -/
def State.pwStore (s : State) (q : Nat) (seq : BitVec 16) (l : Bool) (payload : List Byte) : State :=
  let r := s.cfg.b.queue q
  let x := s.queue q
  let frames := if l then List.replicate r.pkt (List.replicate r.octets 0xFF) else framesOf r.pkt r.octets payload
  let anew := decide (x.mode = .idle) || x.recentre
  if anew && s.isStandby then s
  else
    let x := if !anew then x
      else { x with refSeq := seq, refFn := s.now + r.pd, recentre := false, jb := x.jb.filter fun f => decide (f.fn < s.now + r.pd), idleFrames := 0 }
    let s := s.queueTo q (if x.mode = .idle then { x with mode := .fill } else x)
    let s := if anew then s.mirrorRef q else s
    let x := s.queue q
    let d := toSigned 16 (seq - x.refSeq).toNat
    let h : Int := (x.refFn : Int) + (r.pkt : Int) * d - s.now
    if h ≤ 0 then
      (s.count 0x0601 q 1).setRecent q (x.recent.map fun e => if e.1 = seq ∧ e.2 = 1 then (seq, 2) else e)
    else if (r.jbMax : Int) - r.pkt < h then (s.setQueue q { x with noted := lastN 64 (x.noted ++ [seq]) }).count 0x0602 q 1
    else
      let first := (s.now + h).toNat
      if x.jb.any fun f => decide (first ≤ f.fn) && decide (f.fn < first + r.pkt) then s.count 0x0603 q 1
      else
        let new := (List.range r.pkt).map fun i => (⟨first + i, nth [] frames i, l⟩ : JbFrame)
        (s.setQueue q { x with jb := x.jb ++ new, lastSeq := seq, minH := Nat.min x.minH h.toNat, maxH := Nat.max x.maxH h.toNat }).count 0x0600 q 1

/-- A pseudowire packet after its header (Table 10.3, R319). -/
def State.pwReceive (s : State) (q : Nat) (o : List Byte) : State :=
  let r := s.cfg.b.queue q
  let x := s.queue q
  let cw : Half := BitVec.ofNat 32 (at_ o 0 4)
  let len := fld cw 21 16
  let avail := o.length - 4
  let pay := if len = 0 then avail else len - 4
  let l := flag cw 27
  let s := s.count 0x060B q (decide (r.kind = 1 ∧ fld cw 25 24 ≠ 0)).toNat
  if decide (x.mode = .dormant) then s.count 0x0609 q 1
  else if !s.queueOn q then s
  else if decide (o.length < 4) || decide (fld cw 31 28 ≠ 0) || decide (fld cw 23 22 ≠ 0) || decide (len ≠ 0 ∧ len < 4) || decide (avail < pay) ||
      !(decide (pay = r.pkt * r.octets) || (l && decide (pay = 0))) then s.count 0x0604 q 1
  else
    let s := s.setQueue q { x with rxCount := satAdd 32 x.rxCount 1, rdi := x.rdi.step (flag cw 26) 3 3, ais := x.ais.step l 3 3 }
    ((s.pwStore q (BitVec.ofNat 16 (fld cw 15 0)) l ((o.drop 4).take pay)).reportQueue q)

/-! Playout (R327, R329, R331 to R333) -/

/-- The fill of an underrun. -/
def Queue.fillFrame (x : Queue) (r : QueueRec) : List Byte :=
  let ones : List Byte := List.replicate r.octets 0xFF
  if r.fill = 1 then List.replicate r.octets (BitVec.ofNat 8 r.fillOct) else if r.fill = 2 then x.lastFrame.getD ones else ones

/-- A packet's playout begins: what became of it, PW-LOPS, and the windows of PW-EXC and PW-DEG. -/
def State.packetDue (s : State) (q : Nat) : State :=
  let r := s.cfg.b.queue q
  let x := s.queue q
  let mine := x.jb.filter fun f => decide (s.now ≤ f.fn) && decide (f.fn < s.now + r.pkt)
  let got := mine.any fun f => decide (f.fn = s.now)
  let early := x.noted.contains x.refSeq
  let masked := s.queueLinkDown r || x.lops
  let wc := if masked then 0 else x.winCount + 1
  let wm := if masked then 0 else x.winMiss + (!got).toNat
  let full := decide (1024 ≤ wc)
  let missRun := if got then 0 else x.missRun + 1
  let playRun := if got then x.playRun + 1 else 0
  let lops := if 8 ≤ missRun then true else if 8 ≤ playRun then false else x.lops
  let clean := decide (mine.length = r.pkt) && !(mine.any fun f => f.l) && !s.queueSfI q
  let s := s.setQueue q { x with
    missRun := missRun, playRun := playRun, lops := lops, blockClean := clean, noted := x.noted.erase x.refSeq,
    winCount := if full then 0 else wc, winMiss := if full then 0 else wm, winEnded := if full then some wm else x.winEnded }
  let s := s.count 0x0605 q (!got).toNat
  s.setRecent q (lastN 16 (x.recent ++ [(x.refSeq, if got then 0 else if early then 3 else 1)]))

/-- One frame of PLAY. -/
def State.playFrame (s : State) (q : Nat) : State :=
  let r := s.cfg.b.queue q
  let ones : Payload := ⟨List.replicate r.octets 0xFF, true⟩
  let x := s.queue q
  let s := if x.refFn = s.now then s.packetDue q else s
  let x := s.queue q
  if x.lops && decide (8 ≤ x.missRun) then
    (s.queueTo q { x.toIdle with lops := true, out := ones, playAt := s.now + 1 }).reportQueue q
  else
    let hit := x.jb.find? fun f => decide (f.fn = s.now)
    let sf := s.queueSfI q
    let out : Payload := match hit with
      | some f => if f.l || sf then ones else ⟨f.octets, false⟩
      | none => if sf then ones else ⟨x.fillFrame r, true⟩
    let last := decide (x.refFn ≤ s.now) && decide (s.now + 1 = x.refFn + r.pkt)
    let s := s.count 0x0606 q hit.isNone.toNat
    (s.setQueue q { x with
      out := out, playAt := s.now + 1, jb := x.jb.filter fun f => decide (s.now < f.fn),
      lastFrame := match hit with | some f => some f.octets | none => x.lastFrame,
      refSeq := if last then x.refSeq + 1 else x.refSeq, refFn := if last then x.refFn + r.pkt else x.refFn }).reportQueue q

/-- JITTER_BUFFER_PLAYOUT: once per frame for every pseudowire queue that runs. -/
def State.playout (s : State) (q : Nat) : State :=
  let r := s.cfg.b.queue q
  let x := s.queue q
  let ones : Payload := ⟨List.replicate r.octets 0xFF, true⟩
  if !r.pw || !s.queueOn q || decide (s.now < x.playAt) then s
  else
    match x.mode with
    | .dormant => s.setQueue q { x with out := ones, playAt := s.now + 1 }
    | .idle =>
      let n := x.idleFrames + 1
      let masked := x.lops || s.queueLinkDown r
      (s.setQueue q { x with
        out := ones, playAt := s.now + 1, idleFrames := n, lops := x.lops || decide (8 * r.pkt ≤ n), playRun := 0,
        winCount := if masked then 0 else x.winCount, winMiss := if masked then 0 else x.winMiss }).reportQueue q
    | .fill =>
      if s.now < x.refFn then s.setQueue q { x with out := ones, playAt := s.now + 1 }
      else (s.queueTo q { x with mode := .play }).playFrame q
    | .play => s.playFrame q

def execJitterBufferPlayout (q : BitVec 16) (s : State) : Host.Outcome State Fault Refusal := .next (s.playout q.toNat)

/-- PW_WINDOW_END (R331): the two defects are judged on their own. -/
def execPwWindowEnd (q : BitVec 16) (s : State) : Host.Outcome State Fault Refusal :=
  let x := s.queue q.toNat
  .next (match x.winEnded with
    | none => s
    | some n =>
      (s.setQueue q.toNat { x with winEnded := none, exc := if 64 ≤ n then true else if n ≤ 8 then false else x.exc,
                                   deg := if 8 ≤ n then true else if n ≤ 1 then false else x.deg }).reportQueue q.toNat)

/-! Stores (R325) -/

/-- Cells of a list of frames. -/
def cellsOf (l : List (List Byte)) : Nat := (l.map fun f => ceilDiv f.length 64).sum

/-- A frame finds its store full: discarded, counted, QUEUE_OVERFLOW at most once per second. -/
def State.storeFull (s : State) (q : Nat) : State :=
  let x := s.queue q
  let s := s.count 0x060A q 1
  if !s.mayReport x.overflow then s
  else (s.setQueue q { x with overflow := s.now + 1 }).raise { src := 0x0A3, obj := q }

/-- A frame enters one store of a GFP flow or host queue: that of frames from the packet side, or that towards it. -/
def State.storeFrame (s : State) (q : Nat) (toPacket : Bool) (f : List Byte) : State :=
  let r := s.cfg.b.queue q
  let x := s.queue q
  if !s.queueOn q then s
  else if r.cells < cellsOf (if toPacket then x.txStore else x.rxStore) + ceilDiv f.length 64 then s.storeFull q
  else
    (s.setQueue q (if toPacket then { x with txStore := x.txStore ++ [f] } else { x with rxStore := x.rxStore ++ [f] })).count 0x0600 q 1

/-- The queue a GFP channel serves (R315). -/
def State.chanQueue (s : State) (ch : Nat) : Option Nat :=
  (s.cfg.b.queues.find? fun x => x.2.usesChan && decide (x.2.chan = ch)).map (·.1)

/-! Reception (R321) -/

def PsnRec.mac (p : PsnRec) : Nat := fld p.w0 47 0
def PsnRec.ipv4 (p : PsnRec) : Nat := fld p.w1 63 32
def PsnRec.udpBase (p : PsnRec) : Nat := fld p.w1 31 16
def PsnRec.vid (p : PsnRec) : Nat := fld p.w1 11 0
def PsnRec.labelBase (p : PsnRec) : Nat := fld p.w2 19 0

/-- No queue: what cannot be laid to one is counted under this object, which only a counter of every object sees. -/
def noObject : Nat := 0xFFFF_FFFF

/-- A packet whose Q-ID is known by label or port (R321). -/
def State.pwClassified (s : State) (lane : Nat) (encap : Bool) (q : Int) (body : Option (List Byte)) : State :=
  let n := q.toNat
  let r := s.cfg.b.queue n
  if q < 0 ∨ 65535 < q then s.count 0x0611 lane 1
  else if !r.pw || r.encap != encap || decide (r.lane ≠ lane) then s.count 0x0611 lane 1
  else
    match body with
    | some o => s.pwReceive n o
    | none => s.count 0x0604 n 1

/-- Steps 3 to 6 of R321. -/
def State.ethForward (s : State) (lane : Nat) (h : EthHead) (frame : List Byte) : State :=
  let p := s.psn lane
  let own := decide (h.vid = p.vid) && decide (h.dst = p.mac)
  let few := decide (h.vids.length ≤ 2)
  let port := udpPort h.rest
  if own && decide (h.etype = 0x8847) then
    match mplsBottom h.rest with
    | none => s.count 0x0604 noObject 1
    | some x => s.pwClassified lane false ((x.1 : Int) - p.labelBase) (if few then some x.2 else none)
  else if own && decide (h.etype = 0x0800) && port.isSome && decide (p.udpBase ≤ port.getD 0) then
    s.pwClassified lane true ((port.getD 0 : Int) - p.udpBase)
      (if few && ipOk h.rest p.ipv4 then some ((h.rest.take (at_ h.rest 2 2)).drop 28) else none)
  else
    match s.cfg.pie.fwd.find? fun x => flag x.2 63 && decide (fld x.2 61 56 = lane) && decide (fld x.2 55 44 = h.vid) with
    | none => s.count 0x0610 lane 1
    | some x =>
      let q := fld x.2 15 0
      let y := s.queue q
      (s.setQueue q { y with rxCount := satAdd 32 y.rxCount 1 }).storeFrame q false frame

/-! Transmission (R317, R318, R325) -/

/-- Words the fabric brings to a queue in this frame are gathered for its packet. -/
def State.pwGather (s : State) (q : Nat) (p : Payload) : State :=
  let r := s.cfg.b.queue q
  let x := s.queue q
  if !r.pw then s
  else
    let start := decide (s.fnNat % Nat.max 1 r.pkt = 0)
    s.setQueue q { x with txFrames := (if start then [] else x.txFrames) ++ [p.octets], txAllQb := (start || x.txAllQb) && p.qb }

/-- The packet of a queue: header, control word, payload, padding to 64 octets with the FCS (R316 to R318, Table 10.3). -/
def pwPacket (r : QueueRec) (x : Queue) (template : List Byte) : List Byte :=
  let pay := if x.txAllQb then List.replicate (r.pkt * r.octets) 0xFF else x.txFrames.flatten
  let head := fillHeader r.encap template (4 + pay.length)
  let short := 60 - (head.length + 4 + pay.length)
  let cw : Half := mkHalf [(27, 27, x.txAllQb.toNat), (26, 26, x.lops.toNat), (21, 16, if short = 0 then 0 else 4 + pay.length), (15, 0, x.txSeq.toNat)]
  head ++ octetsOf 4 cw.toNat ++ pay ++ List.replicate short 0

/-- PW_PACKET_SEND: in the frame after the last frame of the packet. -/
def State.pwSend (s : State) (q : Nat) : State :=
  let r := s.cfg.b.queue q
  let x := s.queue q
  let t := s.cfg.pie.hdr.look [] q
  if !r.pw || !s.queueOn q || decide (x.mode = .dormant) || decide (x.txFrames.length ≠ r.pkt) then s
  else
    let done := { x with txFrames := [] }
    if s.queueLinkDown r then s.setQueue q done
    else if t.isEmpty then (s.setQueue q done).count 0x0608 q 1
    else
      let s := s.setQueue q { done with txSeq := x.txSeq + 1 }
      { s with pie.pw := s.pie.pw.put [] r.lane (s.pie.pw.look [] r.lane ++ [pwPacket r x t]) }

def execPwPacketSend (q : BitVec 16) (s : State) : Host.Outcome State Fault Refusal := .next (s.pwSend q.toNat)

/-- The queue a lane serves next among those with a frame for it: the next one after the queue served last (R325). -/
def nextTurn (qs : List Nat) (last : Nat) : Option Nat :=
  match qs.find? fun q => decide (last < q + 1) with
  | some q => some q
  | none => qs.head?

/-- ETHERNET_FRAME_TRANSMIT: pseudowire packets, then GFP-flow frames whose reserved rate has credit, then all other frames in turn. -/
def State.ethSend (s : State) (lane : Nat) (credit : List Nat) : State :=
  let out (s : State) (f : List Byte) : State := (s.count 0x0109 lane 1).emit (.ethFrame lane f)
  if !s.laneEth lane || !s.linkUp lane then s
  else
    match s.pie.pw.look [] lane with
    | f :: rest => out { s with pie.pw := s.pie.pw.put [] lane rest } f
    | [] =>
      let ready := (s.cfg.b.queues.filter fun x => (decide (x.2.kind = 3) || (decide (x.2.kind = 4) && !x.2.src)) && decide (x.2.lane = lane) &&
        s.queueOn x.1 && !(s.queue x.1).txStore.isEmpty)
      let first := (ready.find? fun x => decide (x.2.kind = 3) && decide (x.2.rate ≠ 0) && credit.contains x.1).map (·.1)
      let pick := match first with | some q => some q | none => nextTurn (ready.map (·.1)) (s.pie.turn.look 0 lane)
      match pick with
      | none => s
      | some q =>
        let x := s.queue q
        let s := s.setQueue q { x with txStore := x.txStore.drop 1 }
        let s : State := if first.isSome then s else { s with pie.turn := s.pie.turn.put 0 lane (q + 1) }
        out s (x.txStore.headD [])

def execEthernetFrameTransmit (lane : Fin 40) (credit : List Nat) (s : State) : Host.Outcome State Fault Refusal :=
  .next (s.ethSend lane.val credit)

/-! Commands of class 0x07 -/

def cmdQ (c : Cmd) : Nat := fld (c.word 0) 15 0
def State.queueOwn (s : State) (c : Cmd) (b : BCfg) : Option (Nat × Nat) := c.ownsAll (queueOwners b (cmdQ c))

def State.queueGet (s : State) (c : Cmd) : State :=
  let b := s.viewOf c.view
  s.runOp c (plainOp 7 4 TEN [qidMask ||| viewBit]) [] (s.queueOwn c b) fun s =>
    let r := b.queue (cmdQ c)
    .ok s [r.w0, r.w1, r.w2]

/-- QUEUE_STATUS (Table 10.11): what it reports since the last read clears with it. -/
def State.queueStatus (s : State) (c : Cmd) : State :=
  let q := cmdQ c
  s.runOp c (plainOp 7 5 TEN [qidMask]) [] (s.queueOwn c s.cfg.b) fun s =>
    let r := s.cfg.b.queue q
    let x := s.queue q
    let ds := s.pwDefects q
    let on (code : Nat) : Nat := (unmasked ds code).toNat
    let base := [(63, 60, x.mode.code), (0, 0, (s.queueLinkDown r).toNat)]
    let more := [(47, 32, x.lastSeq.toNat), (31, 21, x.minH), (20, 10, x.maxH), (7, 7, (!(s.cfg.pie.hdr.look [] q).isEmpty).toNat),
      (6, 6, x.blockClean.toNat), (5, 5, on 0x53), (4, 4, on 0x52), (3, 3, on 0x54), (2, 2, on 0x55), (1, 1, on 0x51)]
    .ok (s.setQueue q { x with minH := 0x7FF, maxH := 0, rxCount := 0 })
      [mkWord (if r.kind = 3 ∨ r.kind = 4 then base else base ++ more), mkWord [(63, 32, x.rxCount), (31, 0, if x.built then r.tun else 0)]]

/-- HDR_SET (R335). A template for a free queue is judged as MPLS, as its record reads (log entry 31). -/
def State.hdrSet (s : State) (c : Cmd) : State :=
  let q := cmdQ c
  let n := fld (c.word 1) 5 0
  let octs := wordsOctets ((List.range 8).map fun i => c.word (i + 2))
  let extra := (List.range 64).find? fun i => decide (n ≤ i) && decide (nth 0 octs i ≠ 0)
  s.runOp c (setting 7 6 TEN (qidMask :: maskOf [(5, 0)] :: List.replicate 8 allBits))
    [(decide (n < 14 ∨ 60 < n), 1), (extra.isSome, extra.getD 0 / 8 + 2)] (s.queueOwn c s.cfg.b) fun s =>
    let r := s.cfg.b.queue q
    if r.kind = 3 ∨ r.kind = 4 then refuse stState 0 s
    else if !templateOk r.encap (octs.take n) then badParam 2 s
    else .ok { s with cfg.pie.hdr := s.cfg.pie.hdr.put [] q (octs.take n) } []

def State.hdrGet (s : State) (c : Cmd) : State :=
  s.runOp c (plainOp 7 7 TEN [qidMask]) [] (s.queueOwn c s.cfg.b) fun s =>
    let t := s.cfg.pie.hdr.look [] (cmdQ c)
    .ok s (BitVec.ofNat 64 t.length :: takeWords 8 (t ++ List.replicate 64 0))

def pieLaneMask : Word := maskOf [(5, 0)]
def pieLane (c : Cmd) : Nat := fld (c.word 0) 5 0

/-- PSN_SET (R320). -/
def State.psnSet (s : State) (c : Cmd) : State :=
  let n := pieLane c
  let p : PsnRec := ⟨c.word 1, c.word 2, c.word 3⟩
  s.runOp c (setting 7 8 OPR [pieLaneMask, maskOf [(47, 0)], maskOf [(63, 16), (11, 0)], maskOf [(19, 0)]])
    [(decide (39 < n), 0), (decide (p.udpBase < 1024), 2), (decide (p.labelBase < 16 ∨ 983040 < p.labelBase), 3)] none fun s =>
    .ok { s with cfg.pie.psn := s.cfg.pie.psn.put PsnRec.reset n p } []

def State.psnGet (s : State) (c : Cmd) : State :=
  s.runOp c (plainOp 7 9 OPR [pieLaneMask]) [(decide (39 < pieLane c), 0)] none fun s =>
    let p := s.psn (pieLane c)
    .ok s [p.w0, p.w1, p.w2]

/-- FWD_SET (R320): the target is judged in the active configuration and in that after accepted bushels (log entry 12). -/
def State.fwdSet (s : State) (c : Cmd) : State :=
  let n := fld (c.word 0) 12 0
  let w := c.word 1
  let lane := fld w 61 56
  s.runOp c (setting 7 10 OPR [maskOf [(12, 0)], maskOf [(63, 63), (61, 44), (15, 0)]]) [(decide (39 < lane), 1)] none fun s =>
    let clash := s.cfg.pie.fwd.any fun x => decide (x.1 ≠ n) && flag x.2 63 && decide (fld x.2 61 44 = fld w 61 44)
    let bad (b : BCfg) : Bool :=
      let r := b.queue (fld w 15 0)
      !(decide (r.kind = 3) || (decide (r.kind = 4) && !r.src)) || decide (r.lane ≠ lane)
    if flag w 63 && (clash || s.either bad) then refuse stState 0 s
    else .ok { s with cfg.pie.fwd := s.cfg.pie.fwd.put 0 n w } []

def State.fwdGet (s : State) (c : Cmd) : State :=
  s.runOp c (plainOp 7 11 OPR [maskOf [(12, 0)]]) [] none fun s => .ok s [s.cfg.pie.fwd.look 0 (fld (c.word 0) 12 0)]

/-- PIE_STATUS. -/
def State.pieStatus (s : State) (c : Cmd) : State :=
  s.runOp c (plainOp 7 12 OPR []) [] none fun s =>
    let b := s.cfg.b
    .ok s [mkWord [(31, 0, (b.queues.map fun x => x.2.reserved).sum / (pktLcm * 1000))],
      mkWord [(31, 0, s.tunCells - s.tunUsed b s.view)], mkWord [(16, 0, b.queues.length)]]

def execQueueAdd (c : Cmd) (s : State) : Host.Outcome State Fault Refusal := packet c s (·.changeOp c 7 1)
def execQueueSet (c : Cmd) (s : State) : Host.Outcome State Fault Refusal := packet c s (·.changeOp c 7 2)
def execQueueDel (c : Cmd) (s : State) : Host.Outcome State Fault Refusal := packet c s (·.changeOp c 7 3)
def execQueueGet (c : Cmd) (s : State) : Host.Outcome State Fault Refusal := packet c s (·.queueGet c)
def execQueueStatus (c : Cmd) (s : State) : Host.Outcome State Fault Refusal := packet c s (·.queueStatus c)
def execHdrSet (c : Cmd) (s : State) : Host.Outcome State Fault Refusal := packet c s (·.hdrSet c)
def execHdrGet (c : Cmd) (s : State) : Host.Outcome State Fault Refusal := packet c s (·.hdrGet c)
def execPsnSet (c : Cmd) (s : State) : Host.Outcome State Fault Refusal := packet c s (·.psnSet c)
def execPsnGet (c : Cmd) (s : State) : Host.Outcome State Fault Refusal := packet c s (·.psnGet c)
def execFwdSet (c : Cmd) (s : State) : Host.Outcome State Fault Refusal := packet c s (·.fwdSet c)
def execFwdGet (c : Cmd) (s : State) : Host.Outcome State Fault Refusal := packet c s (·.fwdGet c)
def execPieStatus (c : Cmd) (s : State) : Host.Outcome State Fault Refusal := packet c s (·.pieStatus c)

end Sys2Proof.Machine
end

