-- ==== Sys2Proof/Machine/Rings.lean ====
section
/-!
DEFINITION. Ring DMA (13_host_ports_dma.md §13.5), the device log and the event rings (14_events_counters.md §14.3), and reshuffling (§13.7).
-/
namespace Sys2Proof.Machine

/-! Fields of the ring registers -/

def Ring.kind (r : Ring) : Nat := fld r.cfg 31 28
def Ring.en (r : Ring) : Bool := flag r.cfg 27
def Ring.portB (r : Ring) : Bool := flag r.cfg 26
def Ring.reshuf (r : Ring) : Bool := flag r.cfg 25
def Ring.size (r : Ring) : Nat := 2 ^ fld r.cfg 24 20
def Ring.poll (r : Ring) : Nat := fld r.cfg 15 0
def Ring.obj (r : Ring) : Nat := fld r.bind 31 16
def Ring.blk (r : Ring) : Nat := fld r.bind 15 8

/-- The address of the descriptor at HEAD. -/
def Ring.at_ (r : Ring) : Word := r.base + BitVec.ofNat 64 (32 * r.head)

/-- HEAD moves on. -/
def Ring.next (r : Ring) : Ring := { r with head := (r.head + 1) % r.size }

/-! Descriptors (Table 13.7) -/

def descLen (d : DescRx) : Nat := fld d.w1 63 48
def descIrq (d : DescRx) : Bool := flag d.w1 33
def descEnd (d : DescRx) : Bool := flag d.w1 32
def descOwn (d : DescRx) : Bool := flag d.w3 63

/-- The status with which a device-owned descriptor is completed at once, carrying nothing (R441, R449). -/
def descFault (d : DescRx) (kind : Nat) : Option Nat :=
  if (descLen d) = 0 then some dmLenZero
  else if fld d.w1 47 34 ≠ 0 ∨ fld d.w3 62 0 ≠ 0 ∨ fld d.w0 2 0 ≠ 0 ∨ ((descEnd d) ∧ kind ≠ 5) then some dmBadDesc
  else if d.failed then some dmHostErr
  else none

/-- What a write-back reports beside the status. -/
structure Back where
  len : Nat := 0
  first : Bool := false
  last : Bool := false
  qb : Bool := false
  info : Nat := 0
  deriving DecidableEq, Repr

/-- RING_FAULT, at most once per second per ring, with the status as its code. -/
def State.ringFault (s : State) (n status : Nat) : State :=
  let r := s.ring n
  if (status = dmHostErr ∨ status = dmPoison ∨ status = dmDenied ∨ status = dmDecode ∨ status = dmBadDesc) ∧ s.mayReport r.faultEvent = true then
    (s.setRing n { r with faultEvent := s.now + 1 }).raise { src := 0x0D3, code := status, obj := n }
  else s

/-- A descriptor is written back: word 2, then word 3 with OWN = 0, then the completion source (R440). -/
def State.writeBack (s : State) (n : Nat) (at_ : Word) (irq : Bool) (status : Nat) (b : Back) : State :=
  let r := s.ring n
  let w2 := mkWord [(63, 48, b.len), (47, 40, status), (39, 39, b.first.toNat), (38, 38, b.last.toNat), (37, 37, b.qb.toNat), (31, 0, b.info)]
  let s := s.setRing n { r with lastStatus := BitVec.ofNat 8 status }
  let s := (s.emit (.hostWrite r.portB (at_ + 16) (leWord w2))).emit (.hostWrite r.portB (at_ + 24) (leWord 0))
  let s := s.ringFault n status
  if irq then s.fire (0x0E0 + n) else s

/-- The descriptor at HEAD is completed. -/
def State.completeHead (s : State) (n : Nat) (d : DescRx) (status : Nat) (b : Back) : State :=
  let a := (s.ring n).at_
  (s.setRing n (s.ring n).next).writeBack n a (descIrq d) status b

/-- A frame or block is dropped: counted, and RING_DROP at most once per second per ring (R444, R446, R447). -/
def State.ringDrop (s : State) (n : Nat) : State :=
  let r := s.ring n
  let first := s.mayReport r.dropEvent
  let s := (s.setRing n { r with drops := satAdd 32 r.drops 1, dropEvent := if first then s.now + 1 else r.dropEvent }).count 0x090C n 1
  s.raiseIf first { src := 0x0D4, obj := n }

/-! The device log and event rings (R466, R467) -/

/-- The ring bound to an event ring and enabled. Event rings 0 to 3 are host port A's. -/
def State.eventRingOf (s : State) (er : Nat) : Option Nat :=
  (s.host.rings.find? fun x => decide (x.2.kind = 3) && x.2.en && decide (x.2.obj = er) && x.2.portB == decide (4 ≤ er)).map (·.1)

def State.evRing (s : State) (er : Nat) : EvRing := s.ev.rings.look EvRing.reset er
def State.setEvRing (s : State) (er : Nat) (x : EvRing) : State := { s with ev.rings := s.ev.rings.put EvRing.reset er x }

/-- The open event descriptor of a ring is completed. -/
def State.closeEvents (s : State) (n : Nat) : State :=
  let r := s.ring n
  match r.open_ with
  | none => s
  | some o =>
    let k := o.placed.length / 2
    (s.setRing n { r with open_ := none }).writeBack n o.at_ o.irq dmOk { len := 16 * k, info := k }

/-- PRIO of a record. -/
def EvRec.prio (x : EvRec) : Nat := fld x.w0 51 48

/-- A record is placed in the open descriptor, which is completed when it is full or the record asks for it. -/
def State.placeEvent (s : State) (n er : Nat) (o : OpenDesc) (x : EvRec) : State :=
  let r := s.ring n
  let c := (s.evRing er).cfg
  let o' := { o with placed := o.placed ++ [x.w0, x.w1] }
  let s := (s.setRing n { r with open_ := some o' }).emit
    (.hostWrite r.portB (o.buf + BitVec.ofNat 64 (8 * o.placed.length)) (leWords [x.w0, x.w1]))
  if o'.placed.length / 2 = o.len / 16 ∨ fld c 15 12 ≤ x.prio ∨ fld c 31 16 = 0 then s.closeEvents n else s

/-- Records of an event ring are lost (R467): EVENT_RING_OVERFLOW once when losses begin. -/
def State.loseEvent (s : State) (er : Nat) : State :=
  let x := s.evRing er
  (s.setEvRing er { x with lost := satAdd 16 x.lost 1, ovf := true, raised := true }).raiseIf (!x.raised) { src := 0x000, obj := er }

/-- A record is delivered to an event ring. -/
def State.deliverEvent (s : State) (er : Nat) (rec_ : EvRec) : State :=
  let x := s.evRing er
  match s.eventRingOf er with
  | none => s.loseEvent er
  | some n =>
    let marked : EvRec := if x.ovf then { rec_ with w0 := setFlag rec_.w0 54 true } else rec_
    let s' := s.setEvRing er { x with ovf := false }
    match (s.ring n).open_ with
    | some o => s'.placeEvent n er o marked
    | none => if 512 ≤ x.backlog.length then s.loseEvent er else s.setEvRing er { x with ovf := false, backlog := x.backlog ++ [marked] }

/-- The backlog drains into the open descriptor; at 0 the overflow has ended. -/
def State.drainBacklog : Nat → State → Nat → Nat → State
  | 0, s, _, _ => s
  | k + 1, s, n, er =>
    let x := s.evRing er
    match x.backlog, (s.ring n).open_ with
    | b :: l, some o =>
      let s := (s.setEvRing er { x with backlog := l }).placeEvent n er o b
      let s := if l.isEmpty && x.raised then
          (s.setEvRing er { s.evRing er with raised := false }).raise { src := 0x000, clr := true, obj := er }
        else s
      drainBacklog k s n er
    | _, _ => s

/-- EVENT_STAGING_DRAIN: the oldest staged record takes the next log index (R466) and goes to its event ring. -/
def State.drainStaging (s : State) : State :=
  match s.ev.staging with
  | [] => s
  | x :: l =>
    let i := s.jr.nextIdx
    let held := i.toNat - s.jr.oldest
    let s : State := { s with ev.staging := l, jr.devLog := s.jr.devLog.put ⟨0, 0⟩ (i.toNat % 4096) x, jr.nextIdx := i + 1,
                              jr.oldest := if 4096 ≤ held then s.jr.oldest + 1 else s.jr.oldest }
    let er := fld (s.srcCfg (fld x.w0 63 55)) 19 16
    if er ≤ 7 then s.deliverEvent er x else s

def execEventStagingDrain (s : State) : Host.Outcome State Fault Refusal := .next s.drainStaging

/-- EVENT_RING_FLUSH: FLUSH_US has passed since the first record of the open descriptor. -/
def execEventRingFlush (er : Fin 8) (s : State) : Host.Outcome State Fault Refusal :=
  .next (match s.eventRingOf er.val with
    | none => s
    | some n => match (s.ring n).open_ with
      | some o => if o.placed.isEmpty then s else s.closeEvents n
      | none => s)

/-- ERING_STAT. -/
def State.eringStat (s : State) (er : Nat) : Half :=
  mkHalf [(25, 16, (s.evRing er).backlog.length), (15, 0, (s.evRing er).lost)]

/-- ERING_STAT_READ. -/
def execEringStatRead (er : Fin 8) (master : BitVec 3) (s : State) : Host.Outcome State Fault Refusal :=
  .next (s.readReg master.toNat (0xA004 + 0x10 * er.val) true fun s =>
    (s.eringStat er.val, s.setEvRing er.val { s.evRing er.val with lost := 0 }))

/-! The kinds of ring that carry no commands -/

/-- Reshuffles of Table 13.11: W octets a record and F records, to W records of F octets; and back. -/
def toGrains (w f : Nat) (o : List Byte) : List Byte := (List.range (w * f)).map fun i => nth 0 o (i % f * w + i / f)
def toFrames (w f : Nat) (o : List Byte) : List Byte := (List.range (w * f)).map fun i => nth 0 o (i % w * f + i / w)

/-- A reply ring's port. -/
def replyPort (n : Nat) : Nat := if n = 1 then 0 else 1

/-- A reply goes into the reply descriptor at HEAD (R442, R443). -/
def State.fillReply (s : State) (n : Nat) (d : DescRx) : State :=
  match s.host.replies.find? fun x => decide (x.1 = replyPort n) with
  | none => s
  | some x =>
    let r := s.ring n
    let s : State := { s with host.replies := s.host.replies.erase x }
    let s := s.setRing n { r with reserved := r.reserved - 1 }
    if (descLen d) < x.2.2.length then s.completeHead n d dmTooShort { info := x.2.1.toNat }
    else (s.emit (.hostWrite r.portB d.w0 x.2.2)).completeHead n d dmOk { len := x.2.2.length, info := x.2.1.toNat }

/-- A frame of a host transmit ring enters its queue's store, padded to 60 octets, or is refused (R445). -/
def State.hostSend (s : State) (q : Nat) (f : List Byte) : Bool × State :=
  let r := s.cfg.b.queue q
  let up := r.src || (s.lane r.lane).linkUp
  if r.kind ≠ 4 ∨ !up then (false, s)
  else
    let t := s.storeFrame q true (f ++ List.replicate (60 - f.length) 0)
    (decide ((s.queue q).txStore.length < (t.queue q).txStore.length), t)

/-- The descriptors of a transmit frame are completed. -/
def State.completeFrame (s : State) (n status : Nat) (l : List (Word × List Byte × Bool)) : State :=
  l.foldl (fun s x => s.writeBack n x.1 x.2.2 status { len := if status = dmOk then x.2.1.length else 0 }) s

/-- A descriptor of a host transmit ring (R445). -/
def State.takeTransmit (s : State) (n : Nat) (d : DescRx) : State :=
  let r := s.ring n
  let l := r.frame ++ [(r.at_, d.octets.take (descLen d), (descIrq d))]
  if !descEnd d then s.setRing n { r.next with frame := l }
  else
    let s := s.setRing n { r.next with frame := [], spoilt := false }
    let f := l.flatMap (·.2.1)
    if r.spoilt then s.completeFrame n dmDropped l
    else if 9600 < f.length then s.completeFrame n dmTooLong l
    else
      let x := s.hostSend r.obj f
      x.2.completeFrame n (if x.1 then dmOk else dmDropped) l

/-- A device-owned descriptor that is sound, on a ring that carries no commands. -/
def State.takeDescriptor (s : State) (n : Nat) (d : DescRx) : State :=
  let r := s.ring n
  match r.kind with
  | 2 => s.fillReply n d
  | 3 =>
    if (descLen d) < 16 then s.completeHead n d dmTooShort {}
    else
      let s := s.setRing n { r.next with open_ := some ⟨r.at_, d.w0, (descLen d), (descIrq d), []⟩ }
      State.drainBacklog 512 s n r.obj
  | 5 => s.takeTransmit n d
  | _ => s

/-- The ring reads the descriptor at HEAD (R439): a host-owned one stops it; one that is at fault is completed at once. `k` handles a sound one. -/
def State.readDescriptor (s : State) (n : Nat) (d : DescRx) (k : State → State) : State :=
  let r := s.ring n
  if !r.en || !r.rung || r.open_.isSome || r.stalled then s
  else if !descOwn d then s.setRing n { r with rung := false, waiting := true }
  else
    let s := s.setRing n { r with waiting := false }
    match descFault d r.kind with
    | some st =>
      let s := if st = dmHostErr ∧ r.kind = 5 then
          (if (descEnd d) then (s.completeFrame n dmDropped r.frame).setRing n { r with waiting := false, frame := [], spoilt := false, faultEvent := (s.ring n).faultEvent }
           else s.setRing n { r with waiting := false, spoilt := true })
        else s
      s.completeHead n d st {}
    | none => k s

/-- RING_POLL: the scheduled poll (R439). -/
def execRingPoll (ring : Fin 64) (s : State) : Host.Outcome State Fault Refusal :=
  let r := s.ring ring.val
  .next (if r.en && decide (r.poll ≠ 0) then s.setRing ring.val { r with rung := true } else s)

/-- RING_IDLE: a disabled ring has ended its descriptor in progress (R448). -/
def execRingIdle (ring : Fin 64) (s : State) : Host.Outcome State Fault Refusal :=
  let n := ring.val
  .next (if (s.ring n).en then s
    else
      let s := s.closeEvents n
      let s := if (s.ring n).stalled then s.writeBack n (s.ring n).at_ false dmAborted {} else s
      s.setRing n { s.ring n with idle := true, rung := false, frame := [], spoilt := false, stalled := false })

/-- The descriptors from HEAD that the device owns: none before a doorbell or a poll had the ring read (R439). -/
def Ring.owned (r : Ring) (ds : List DescRx) : List DescRx := if r.rung || r.waiting then ds.takeWhile descOwn else []

/-- A frame is written into descriptors, each filled to its LEN but the last (R444). -/
def State.fillFrame : List DescRx → Nat → Nat → Bool → List Byte → State → State
  | [], _, _, _, _, s => s
  | d :: ds, n, q, first, f, s =>
    if f.isEmpty then s
    else
      match descFault d 4 with
      | some st => fillFrame ds n q first f (s.completeHead n d st { info := q })
      | none =>
        let part := f.take (descLen d)
        let rest := f.drop (descLen d)
        let s := s.emit (.hostWrite (s.ring n).portB d.w0 part)
        fillFrame ds n q false rest (s.completeHead n d dmOk { len := part.length, first := first, last := rest.isEmpty, info := q })

/-- HOST_RECEIVE_FRAME (R444): the frame at the head of the store of the ring's queue, and the descriptors from HEAD as the device reads them, those
it has seen with OWN = 0 read once more. -/
def execHostReceiveFrame (ring : Fin 64) (ds : List DescRx) (s : State) : Host.Outcome State Fault Refusal :=
  let n := ring.val
  let r := s.ring n
  let q := r.obj
  .next (if !r.en || decide (r.kind ≠ 4) || decide ((s.cfg.b.queue q).kind ≠ 4) || !s.queueOn q then s
    else
      match (s.queue q).rxStore with
      | [] => s
      | f :: rest =>
        let s := s.setQueue q { s.queue q with rxStore := rest }
        let own := r.owned ds
        let room := (own.map fun d => if (descFault d 4).isNone then (descLen d) else 0).sum
        if room < f.length then (s.setRing n { r with rung := if own.length < ds.length then false else r.rung, waiting := r.waiting || decide (own.length < ds.length) }).ringDrop n
        else State.fillFrame own n q true f s)

/-- GRAIN_CAPTURE_BLOCK (R446, R456): a block of BLK frames of the analyser's grains, in frame order, and the descriptor at HEAD. -/
def execGrainCaptureBlock (ring : Fin 64) (d : DescRx) (fn : BitVec 48) (grains : List Byte) (qb : Bool) (s : State) :
    Host.Outcome State Fault Refusal :=
  let n := ring.val
  let r := s.ring n
  .next (match s.analyserRecord r.obj with
    | none => s
    | some x =>
      let size := x.2.width * r.blk
      if !r.en || decide (r.kind ≠ 6) || decide (r.blk = 0) || decide (fn.toNat % r.blk ≠ 0) then s
      else if (r.owned [d]).isEmpty then s.ringDrop n
      else
        match descFault d 6 with
        | some st => s.completeHead n d st { info := fn.toNat % 2 ^ 32 }
        | none =>
          if (descLen d) < size then s.completeHead n d dmTooShort { info := fn.toNat % 2 ^ 32 }
          else
            let block := if r.reshuf then toGrains x.2.width r.blk grains else (grains ++ List.replicate size 0).take size
            (s.emit (.hostWrite r.portB d.w0 block)).completeHead n d dmOk { len := size, qb := qb, info := fn.toNat % 2 ^ 32 })

/-- The record a test generator supplies. -/
def State.generatorRecord (s : State) (inst : Nat) : Option (Nat × Conn) :=
  s.cfg.b.conns.find? fun x => !x.2.isFree && decide (eidKind x.2.a = .test) && decide (testInst x.2.a = inst)

/-- GRAIN_PLAYBACK_BLOCK (R447, R456): the block that starts at FN b, with its buffer as read by frame b - BLK. -/
def execGrainPlaybackBlock (ring : Fin 64) (d : DescRx) (fn : BitVec 48) (s : State) : Host.Outcome State Fault Refusal :=
  let n := ring.val
  let r := s.ring n
  .next (match s.generatorRecord r.obj with
    | none => s
    | some x =>
      let size := x.2.width * r.blk
      if !r.en || decide (r.kind ≠ 7) || decide (r.blk = 0) || decide (fn.toNat % r.blk ≠ 0) then s
      else if (r.owned [d]).isEmpty then s.ringDrop n
      else
        match descFault d 7 with
        | some st => s.completeHead n d st { info := fn.toNat % 2 ^ 32 }
        | none =>
          if (descLen d) < size then s.completeHead n d dmTooShort { info := fn.toNat % 2 ^ 32 }
          else
            let block := if r.reshuf then toFrames x.2.width r.blk d.octets else d.octets.take size
            (s.emit (.traffic x.2.a block false)).completeHead n d dmOk { len := size, info := fn.toNat % 2 ^ 32 })

/-- RING_CFG of a ring. -/
def ringCfgOff (n : Nat) : Nat := if n < 2 then 0x1008 + 0x40 * n else if n < 4 then 0x1808 + 0x40 * (n - 2) else 0x2008 + 0x40 * (n - 4)

/-- RING_DROPS_READ. -/
def execRingDropsRead (ring : Fin 64) (master : BitVec 3) (s : State) : Host.Outcome State Fault Refusal :=
  .next (s.readReg master.toNat (ringCfgOff ring.val + 0xC) true fun s =>
    (BitVec.ofNat 32 (s.ring ring.val).drops, s.setRing ring.val { s.ring ring.val with drops := 0 }))

/-! Ring registers -/

/-- RING_STAT. -/
def Ring.stat (r : Ring) : Half := mkHalf [(31, 16, r.head), (15, 15, r.idle.toNat), (14, 14, r.waiting.toNat), (7, 0, r.lastStatus.toNat)]

/-- Another enabled ring already has the object of this kind (R437). -/
def State.boundTwice (s : State) (n : Nat) (r : Ring) : Bool :=
  decide (4 ≤ r.kind ∧ r.kind ≤ 7) && r.en &&
    s.host.rings.any fun x => decide (x.1 ≠ n) && x.2.en && decide (x.2.kind = r.kind) && decide (x.2.obj = r.obj)

/-- The fields of RING_CFG a write asks for: held values and fields a ring does not have keep what they were (R5, R437). -/
def ringCfgAsked (n : Nat) (old v : Half) : Half :=
  let k := if n < 4 ∨ fld v 31 28 = 1 ∨ fld v 31 28 = 2 ∨ 8 ≤ fld v 31 28 then fld old 31 28 else fld v 31 28
  let p := if n < 4 then fld old 26 26 else fld v 26 26
  let z := if 3 ≤ fld v 24 20 ∧ fld v 24 20 ≤ 16 then fld v 24 20 else fld old 24 20
  let sh := if k = 6 ∨ k = 7 then fld v 25 25 else 0
  mkHalf [(31, 28, k), (27, 27, fld v 27 27), (26, 26, p), (25, 25, sh), (24, 20, z), (15, 0, fld v 15 0)]

/-- A reply ring is disabled: the replies that wait for it are dropped, with their reservations (R419). -/
def State.dropReplies (s : State) (n : Nat) : State :=
  let r := s.ring n
  let own := s.host.replies.filter fun x => decide (x.1 = replyPort n)
  if r.kind = 2 then
    State.setRing { s with host.replies := s.host.replies.filter fun x => decide (x.1 ≠ replyPort n) } n
      { r with reserved := r.reserved - own.length }
  else s

/-- A write of RING_CFG (R437, R448), by a master, at an offset. -/
def State.writeRingCfg (s : State) (m n off : Nat) (v : Half) : State :=
  let r := s.ring n
  let ask := ringCfgAsked n r.cfg v
  let fixed (w : Half) : Half := setFld (setFld w 27 27 0) 15 0 0
  let locked := r.en && decide (fixed ask ≠ fixed r.cfg)
  let new := if locked then setFld (setFld r.cfg 27 27 (fld ask 27 27)) 15 0 (fld ask 15 0) else ask
  if s.boundTwice n { r with cfg := new } then s.lockedField m 6 off
  else
    let s := if locked then s.lockedField m 6 off else s
    let on := flag new 27
    let r' := { r with cfg := new }
    if on && !r.en then s.setRing n { r' with head := 0, idle := false, waiting := false, rung := false, frame := [], spoilt := false, open_ := none }
    else if !on && r.en then
      (s.setRing n r').dropReplies n
    else s.setRing n r'

/-- A write of RING_BIND (R448, R467). -/
def State.writeRingBind (s : State) (m n off : Nat) (v : Half) : State :=
  let r := s.ring n
  let grain := decide (r.kind = 6 ∨ r.kind = 7)
  let obj := if grain ∧ 63 < fld v 31 16 then r.obj else fld v 31 16
  let blk := if grain ∧ fld v 15 8 = 0 then r.blk else fld v 15 8
  let new := mkHalf [(31, 16, obj), (15, 8, blk)]
  if r.en then (if new = r.bind then s else s.lockedField m 6 off)
  else if r.kind = 3 ∧ (8 ≤ obj ∨ r.portB ≠ decide (4 ≤ obj)) then s.lockedField m 6 off
  else s.setRing n { r with bind := new }

/-- A write of RING_BASE_LO or RING_BASE_HI (R448). -/
def State.writeRingBase (s : State) (m n off : Nat) (hi : Bool) (v : Half) : State :=
  let r := s.ring n
  let new := if hi then setFld r.base 63 32 v.toNat else setFld r.base 31 6 (fld v 31 6)
  if r.en then (if new = r.base then s else s.lockedField m 6 off) else s.setRing n { r with base := new }

/-- A doorbell (R439, R450). -/
def State.doorbell (s : State) (m n : Nat) (v : Half) : State :=
  let r := s.ring n
  if !r.en || (decide (m = 4) && r.portB) || (decide (m = 5) && !r.portB) then s.matrixError m 0 6 kDenied true (0x100 + 4 * n)
  else s.setRing n { r with tail := BitVec.ofNat 16 (fld v 15 0), rung := true }

end Sys2Proof.Machine
end

