-- ==== Sys2Proof/Machine/Chan.lean ====
section
/-!
DEFINITION. How a program DMA channel ends and how rings and channels are stopped (13_host_ports_dma.md R448, R455).
-/
namespace Sys2Proof.Machine

def State.chan (s : State) (c : Nat) : Chan := s.host.chans.look Chan.reset c

def State.setChan (s : State) (c : Nat) (x : Chan) : State := { s with host.chans := s.host.chans.put Chan.reset c x }

/-- PORT of CH_CFG. -/
def Chan.portB (x : Chan) : Bool := flag x.cfg 0

/-- A channel stops: its program is gone, its lock released. -/
def State.chanStop (s : State) (c : Nat) : State :=
  let x := s.chan c
  let s : State := if 4 ≤ c then s
    else { s with host.matrix.locks := s.host.matrix.locks.filter fun l => decide (l.master ≠ 3),
                  host.matrix.broken := s.host.matrix.broken.filter fun b => decide (b.master ≠ 3) }
  s.setChan c { x with mode := .idle, abort := false, code := [], pc := 0, loops := [], done_ := 0, stalled := false }

/-- A channel ends: the completion word, and PDMA_END with the status and the channel when that is not OK (R455). -/
def State.chanEnd (s : State) (c status : Nat) : State :=
  let x := s.chan c
  let word := mkWord [(63, 63, 1), (55, 48, status), (39, 32, x.index), (31, 0, Nat.min x.moved 0xFFFF_FFFF)]
  let s := (s.setChan c { x with lastStatus := BitVec.ofNat 8 status }).chanStop c
  let s := s.emit (.hostWrite x.portB x.done (leWord word))
  s.raiseIf (decide (status ≠ dmOk)) { src := 0x0D6, code := status, obj := c }

/-- An abort of a channel that runs (R455). -/
def State.chanAbort (s : State) (c : Nat) : State := if (s.chan c).mode = .idle then s else s.chanEnd c dmAborted

/-- A ring's EN is cleared and its descriptor in progress completed (R448). -/
def State.ringOff (s : State) (n : Nat) : State :=
  let r := s.ring n
  if !r.en then s
  else
    let s := (s.setRing n { r with cfg := setFlag r.cfg 27 false }).closeEvents n
    s.setRing n { s.ring n with idle := true, rung := false, frame := [], spoilt := false }

def State.ringsOff (s : State) : State := (s.host.rings.map (·.1)).foldl State.ringOff s

end Sys2Proof.Machine
end

