-- ==== Sys2Proof/Machine/Tenants.lean ====
section
/-!
DEFINITION. The opcodes of class 0x00, System, and class 0x09, Tenants and security (Tables 12.10 and 12.11), the quiet state of a command port
(R402) and CMD_SEC.
-/
namespace Sys2Proof.Machine

/-! Identity -/

/-- DEV_ID. -/
def devId : Half := 0x4872_0100

/-- MAP_FORMAT of the running firmware. -/
def mapFormat : Nat := 1

def Profile.code : Profile → Nat
  | .broad => 0
  | .deep => 1
  | .packet => 2

/-- DEV_CONFIG. -/
def State.devConfig (s : State) : Half :=
  let i := s.ident
  mkHalf [(10, 9, i.profile.code), (8, 8, i.profileValid.toNat), (6, 6, i.strapTestN.toNat), (5, 5, i.strapCompat.toNat),
    (4, 4, i.strapHome.toNat), (2, 0, i.strapBoot.toNat)]

/-! Streams and keys -/

/-- The index of a stream: tenant, slot and port. -/
def streamIndex (t : Nat) (slot : Bool) (port : Nat) : Nat := t * 8 + slot.toNat * 4 + port

/-- H of a stream (R396). -/
def State.streamH (s : State) (t : Nat) (slot : Bool) (port : Nat) : Nat := s.cmd.streams.look 0 (streamIndex t slot port)

def State.setStreamH (s : State) (t : Nat) (slot : Bool) (port h : Nat) : State :=
  { s with cmd.streams := s.cmd.streams.put 0 (streamIndex t slot port) h }

/-- H of every stream of a slot (R392, R399). -/
def State.setStreams (s : State) (t : Nat) (slot : Bool) (h : Nat) : State :=
  (List.range 4).foldl (fun s n => s.setStreamH t slot n h) s

/-- A key slot is filled: its streams and reserve start at 0 (R392). -/
def State.putKey (s : State) (t : Nat) (slot : Bool) (key : Key) : State :=
  let k := (((s.tenantKeys t).setKey slot (some key)).setRes slot 0).setLow slot false
  ((s.setTenantKeys t k).setStreams t slot 0).journalKey t slot (some ⟨t, slot, key, 0⟩)

/-- A key slot is emptied, with its reserve. -/
def State.clearKey (s : State) (t : Nat) (slot : Bool) : State :=
  let k := (((s.tenantKeys t).setKey slot none).setRes slot 0).setLow slot false
  ((s.setTenantKeys t k).setStreams t slot 0).journalKey t slot none

/-! Class 0x00 -/

/-- DEV_INFO. -/
def State.devInfo (s : State) (c : Cmd) : State :=
  s.runOp c (plainOp 0 1 TEN []) [] none fun s =>
    .ok s [mkWord [(63, 32, s.devConfig.toNat), (31, 0, devId.toNat)], mkWord [(63, 16, s.boot.version.toNat), (3, 0, mapFormat)],
      mkWord [(0, 0, s.commissioning.toNat)]]

/-- SEQ_SYNC (R399). -/
def State.seqSync (s : State) (c : Cmd) : State :=
  s.runOp c (plainOp 0 2 TEN []) [] none fun s =>
    if c.key.isNone then .ok s [0, 0]
    else .ok s [mkWord [(63, 32, s.streamH c.t c.slot c.port.val), (31, 0, ((s.tenantKeys c.t).res c.slot).toNat)],
      mkWord [(0, 0, c.slot.toNat)]]

/-- ECHO. -/
def State.echo (s : State) (c : Cmd) : State :=
  s.runOp c { plainOp 0 3 TEN [] with anyWords := true } [(decide (c.word 0 ≠ 0), 0)] none fun s =>
    .ok s ((c.words.take (ceilDiv c.plen 8)).drop 1)

/-- FN_GET. -/
def State.fnGet (s : State) (c : Cmd) : State :=
  s.runOp c (plainOp 0 4 TEN []) [] none fun s =>
    let y := s.sampleCycle
    .ok y.2 [mkWord [(50, 48, s.tick.fnSrc.toNat), (47, 0, s.tick.fn.toNat)], mkWord [(16, 0, y.1.toNat)]]

/-- The quiet state of a port ends: CMD_PORT_QUIET with CLR = 1 (R402). -/
def State.endQuiet (s : State) (n : Nat) : State :=
  let p := s.port n
  if p.quietEnd.isNone then s else (s.setPort n { p with quietEnd := none }).raise { src := 0x0C1, clr := true, obj := n }

/-- CMD_PORT_SET (R402, R412). -/
def State.cmdPortSet (s : State) (c : Cmd) : State :=
  let n := fld (c.word 0) 1 0
  let w := c.word 1
  let en := flag w 0
  let limit := fld w 15 8
  let quiet := fld w 27 16
  s.runOp c (setting 0 5 SUP [maskOf [(1, 0)], maskOf [(27, 8), (1, 0)]])
    [(decide (limit = 0 ∨ quiet = 0 ∨ 3600 < quiet) || (!en && decide (n = 0)), 1)] none fun s =>
    if !en && decide (n = c.port.val) then refuse stState 0 s
    else
      let s : State := { s with cfg.cmd.ports := s.cfg.cmd.ports.put PortCfg.reset n ⟨en, BitVec.ofNat 8 limit, BitVec.ofNat 12 quiet⟩ }
      .ok (if flag w 1 && decide (n ≠ c.port.val) then s.endQuiet n else s) []

/-- Whole seconds left, rounded up. -/
def State.secondsLeft (s : State) (t : Nat) : Nat := ceilDiv (t - s.now) 8000

/-- CMD_PORT_STATUS. -/
def State.cmdPortStatus (s : State) (c : Cmd) : State :=
  s.runOp c (plainOp 0 6 OPR [maskOf [(1, 0)]]) [] none fun s =>
    let n := fld (c.word 0) 1 0
    let p := s.port n
    let g := s.portCfg n
    let used := (s.cmd.deferred.filter fun d => decide (d.cmd.port.val = n)).length
    .ok s [mkWord [(63, 32, p.nSilent), (31, 0, p.nAccepted)], mkWord [(63, 32, p.nAuthFail), (31, 0, p.nBadLength)],
      mkWord [(63, 32, p.nDuplicate), (31, 0, p.nReplay)],
      mkWord [(51, 40, g.quietS.toNat), (39, 32, g.authLimit.toNat), (27, 16, s.secondsLeft (p.quietEnd.getD 0)), (9, 9, p.quietEnd.isSome.toNat),
        (8, 8, g.en.toNat), (5, 0, used)]]

/-! Class 0x09 -/

/-- A field of T-ID of a first parameter word. -/
def tidOf (c : Cmd) : Nat := fld (c.word 0) 11 0

def tidMask : Word := maskOf [(11, 0)]

/-- T-ID and slot. -/
def tidSlotMask : Word := maskOf [(16, 16), (11, 0)]

/-- A sender below SUP may name only its own T-ID (R413). -/
def Cmd.ownTid (c : Cmd) : Option (Nat × Nat) :=
  if c.rank < SUP ∧ tidOf c ≠ c.t then some (stNotPermitted, 0x06) else none

/-- Word 1 of a record that TENANT_SET must reject (R385, R386, R5). -/
def badRec0 (t : Nat) (old new : Word) : Bool :=
  let st := fld new 63 62
  let mp := fld new 61 60
  decide (st = 0 ∨ st = 3 ∨ mp = 3) || (decide (t ≠ 0) && decide (mp = 2)) ||
    (decide (t = 0) && (decide (setFld new 59 56 0 ≠ setFld old 59 56 0) || decide (fld new 59 56 = 0)))

/-- Word 2 of a record that TENANT_SET must reject. -/
def badRec1 (t : Nat) (old new : Word) : Bool := decide (524288 < fld new 45 26) || (decide (t = 0) && decide (new ≠ old))

/-- A tenant record is written; TENANT_CHANGE carries the new STATE (R386; log entry 47). -/
def State.putTenant (s : State) (t : Nat) (r : Rec2) : State :=
  State.raise { s with cfg.cmd.tenants := s.cfg.cmd.tenants.put (0, 0) t r } { src := 0x0C4, code := tenState r, obj := t }

/-- A tenant whose use exceeds a quota is marked; marks that no longer hold clear (R231). The quotas of tenant 0 are never applied. -/
def State.judgeQuota (s : State) (t : Nat) : State :=
  let s := s.settleQuotas
  if decide (t ≠ 0) && overNow (s.use s.cfg.b s.view t) (s.tenant t) && !s.bush.overQuota.look false t then
    State.raise { s with bush.overQuota := s.bush.overQuota.put false t true } { src := 0x073, obj := t }
  else s

/-- TENANT_SET. -/
def State.tenantSet (s : State) (c : Cmd) : State :=
  let t := tidOf c
  let old := s.tenant t
  s.runOp c (setting 9 1 SUP [tidMask, maskOf [(63, 56), (51, 12)], maskOf [(63, 26)]] 4)
    [(badRec0 t old.1 (c.word 1), 1), (badRec1 t old.2 (c.word 2), 2)] none fun s =>
    .ok ((s.putTenant t (c.word 1, c.word 2)).judgeQuota t) []

/-- TENANT_GET. -/
def State.tenantGet (s : State) (c : Cmd) : State :=
  s.runOp c (plainOp 9 2 TEN [tidMask]) [] c.ownTid fun s =>
    let t := tidOf c
    let r := s.tenant t
    let k := s.tenantKeys t
    .ok s [r.1, r.2, mkWord [(2, 2, (s.bush.overQuota.look false t).toNat), (1, 1, k.key1.isSome.toNat), (0, 0, k.key0.isSome.toNat)],
      mkWord [(63, 32, k.res0.toNat), (31, 0, k.res1.toNat)]]

/-- A tenant owns something that keeps it (R387). -/
def State.tenantOwns (s : State) (t : Nat) : Bool :=
  s.either (fun b => b.conns.any (fun x => !x.2.isFree && decide (x.2.owner = t)) || b.pgs.any (fun x => decide (x.2.owner = t)) ||
    b.queues.any fun x => decide (x.2.kind ≠ 0) && decide (x.2.owner = t)) ||
  s.bush.list.any fun b => decide (b.owner = t) && (decide (b.mode = .open_) || b.live)

/-- TENANT_DEL (R387). -/
def State.tenantDel (s : State) (c : Cmd) : State :=
  let t := tidOf c
  s.runOp c (setting 9 3 SUP [tidMask] 4) [(decide (t = 0), 0)] none fun s =>
    if tenState (s.tenant t) = 0 ∨ s.tenantOwns t then refuse stState 0 s
    else .ok ((((s.clearKey t false).clearKey t true).putTenant t (0, 0)).settleQuotas) []

/-- TENANT_LIST. -/
def State.tenantList (s : State) (c : Cmd) : State :=
  s.runOp c (plainOp 9 4 OPR [tidMask]) [] none fun s =>
    let l := (s.cfg.cmd.tenants.filter fun x => decide (tidOf c ≤ x.1) && decide (tenState x.2 ≠ 0)).take 64
    .ok s (mkWord [(6, 0, l.length)] :: l.map fun x =>
      mkWord [(19, 16, tenPorts x.2), (15, 14, tenMaxPriv x.2), (13, 12, tenState x.2), (11, 0, x.1)])

/-- The pad of a wrapped key (R392). -/
def Cmd.keyPad (c : Cmd) (kv : Key) (t : Nat) (slot : Bool) : Key :=
  BitVec.ofNat 256 (natOfOctets (hmac kv ([0x44, 0x51, 0x4C, 0x2D, 0x4B, 0x57] ++ octetsOf 2 t ++ octetsOf 1 slot.toNat ++ octetsOf 1 c.port.val ++
    octetsOf 4 c.seq.toNat)))

/-- The check value of a key (R392). -/
def kcvOf (k : Key) : Word := BitVec.ofNat 64 (natOfOctets ((hmac k [0x44, 0x51, 0x4C, 0x2D, 0x4B, 0x43, 0x56]).take 8))

/-- The key that a KEY_LOAD brings: unwrapped, or in clear in the commissioning state (R392, R394). -/
def Cmd.newKey (c : Cmd) : Key :=
  let w : Key := BitVec.ofNat 256 (natOfOctets (wordsOctets ((c.words.drop 1).take 4)))
  match c.key with
  | none => w
  | some kv => w ^^^ c.keyPad kv (tidOf c) (flag (c.word 0) 16)

/-- KEY_LOAD (R392, R394, R500). -/
def State.keyLoad (s : State) (c : Cmd) : State :=
  let t := tidOf c
  let slot := flag (c.word 0) 16
  s.runOp c { plainOp 9 5 TEN (tidSlotMask :: List.replicate 5 allBits) with mirror := 4 } [] c.ownTid fun s =>
    let key := c.newKey
    unlessFail s [(decide (tenState (s.tenant t) = 0) || ((s.tenantKeys t).key slot).isSome, stState, 0),
      (decide (kcvOf key ≠ c.word 5 ∨ key = 0), stBadParam, 5), (decide (1024 ≤ s.jr.keys.length), stNoResource, 0)]
      (let was := s.commissioning
       let s := (s.putKey t slot key).raise { src := 0x0C3, code := slot.toNat, aux := t }
       .ok (s.raiseIf (was && !s.commissioning) { src := 0x0C6, clr := true }) [])

/-- KEY_RETIRE (R393). The reply keeps the key that verified the command. -/
def State.keyRetire (s : State) (c : Cmd) : State :=
  let t := tidOf c
  let slot := flag (c.word 0) 16
  s.runOp c { plainOp 9 6 TEN [tidSlotMask] with mirror := 4 } [] c.ownTid fun s =>
    let k := s.tenantKeys t
    if (k.key slot).isNone || (decide (t = 0) && (k.key (!slot)).isNone) then refuse stState 0 s
    else .ok ((s.clearKey t slot).raise { src := 0x0C3, clr := true, code := slot.toNat, aux := t }) []

/-- AUTH_LOG_GET (R413). -/
def State.authLogGet (s : State) (c : Cmd) : State :=
  s.runOp c (plainOp 9 7 SUP []) [] none fun s =>
    .ok s (mkWord [(4, 0, s.cmd.authLog.length)] :: s.cmd.authLog.reverse.flatMap fun e =>
      [mkWord [(63, 56, e.status.toNat), (49, 48, e.port.val), (47, 0, e.fn.toNat)],
       mkWord [(63, 32, e.seq.toNat), (15, 4, e.tid.toNat), (3, 2, e.priv.toNat)]])

def execDevInfo (c : Cmd) (s : State) : Host.Outcome State Fault Refusal := packet c s (·.devInfo c)
def execSeqSync (c : Cmd) (s : State) : Host.Outcome State Fault Refusal := packet c s (·.seqSync c)
def execEcho (c : Cmd) (s : State) : Host.Outcome State Fault Refusal := packet c s (·.echo c)
def execFnGet (c : Cmd) (s : State) : Host.Outcome State Fault Refusal := packet c s (·.fnGet c)
def execCmdPortSet (c : Cmd) (s : State) : Host.Outcome State Fault Refusal := packet c s (·.cmdPortSet c)
def execCmdPortStatus (c : Cmd) (s : State) : Host.Outcome State Fault Refusal := packet c s (·.cmdPortStatus c)
def execTenantSet (c : Cmd) (s : State) : Host.Outcome State Fault Refusal := packet c s (·.tenantSet c)
def execTenantGet (c : Cmd) (s : State) : Host.Outcome State Fault Refusal := packet c s (·.tenantGet c)
def execTenantDel (c : Cmd) (s : State) : Host.Outcome State Fault Refusal := packet c s (·.tenantDel c)
def execTenantList (c : Cmd) (s : State) : Host.Outcome State Fault Refusal := packet c s (·.tenantList c)
def execKeyLoad (c : Cmd) (s : State) : Host.Outcome State Fault Refusal := packet c s (·.keyLoad c)
def execKeyRetire (c : Cmd) (s : State) : Host.Outcome State Fault Refusal := packet c s (·.keyRetire c)
def execAuthLogGet (c : Cmd) (s : State) : Host.Outcome State Fault Refusal := packet c s (·.authLogGet c)

/-- PORT_QUIET_END (R402). -/
def execPortQuietEnd (port : Fin 4) (s : State) : Host.Outcome State Fault Refusal :=
  .next (match (s.port port.val).quietEnd with | some t => if s.due t then s.endQuiet port.val else s | none => s)

/-- CMD_SEC. -/
def State.cmdSec (s : State) : Half :=
  mkHalf [(31, 31, (s.cmd.journalRead && s.commissioning).toNat), (19, 16, (List.range 4).foldl (fun a n => a + ((s.port n).quietEnd.isSome).toNat * 2 ^ n) 0),
    (15, 0, s.cmd.secFails)]

/-- CMD_SEC_READ. -/
def execCmdSecRead (_master : BitVec 3) (s : State) : Host.Outcome State Fault Refusal :=
  .next (State.emit { s with cmd.secFails := 0 } (.regRead (s.cmdSec.setWidth 64)))

end Sys2Proof.Machine
end

