-- ==== Sys2Proof/Machine/Events.lean ====
section
/-!
DEFINITION. The EVIC, event pins, the counter hub, word tracing, and the commands of classes 0x0A and 0x0F (14_events_counters.md).
-/
namespace Sys2Proof.Machine

/-! The EVIC (R462 to R465) -/

/-- Sources that a chapter names (Table 14.2, R462). -/
def namedSource (n : Nat) : Bool :=
  [(0x000, 0x004), (0x010, 0x017), (0x020, 0x026), (0x030, 0x038), (0x040, 0x046), (0x050, 0x057), (0x060, 0x060), (0x070, 0x075),
    (0x080, 0x084), (0x090, 0x095), (0x0A0, 0x0A3), (0x0B0, 0x0B6), (0x0C0, 0x0C6), (0x0D0, 0x0D8), (0x0E0, 0x11F), (0x120, 0x128),
    (0x140, 0x147), (0x160, 0x166), (0x180, 0x187), (0x1F0, 0x1FF)].any fun r => decide (r.1 ≤ n) && decide (n ≤ r.2)

/-- Sources that interrupt only: no event ring (R460). -/
def interruptOnly (n : Nat) : Bool := decide (0x0E0 ≤ n ∧ n ≤ 0x11F) || decide (0x1F0 ≤ n)

/-- A target's pin rises when nothing it could claim is left (R465). -/
def State.dropPin (s : State) (t : Nat) : State :=
  let x := s.target t
  if x.outstanding && decide (t < 2) && !(s.hostPort (t = 1)).msixEn && (s.bestClaim t).isNone then
    (s.setTarget t { x with outstanding := false }).emit (.pin (intPin t) true)
  else s

/-- Pins and notifications after the pending state or a configuration changed. -/
def State.renotify (s : State) : State := State.notify ((s.dropPin 0).dropPin 1)

/-- A write of EVIC_SRC (R462, R463). -/
def State.writeEvicSrc (s : State) (n : Nat) (v : Half) : State :=
  if !namedSource n then s
  else
    let old := s.srcCfg n
    let ering := if interruptOnly n then 15 else if 8 ≤ fld v 19 16 ∧ fld v 19 16 ≤ 14 then fld old 19 16 else fld v 19 16
    let new := mkHalf [(31, 20, fld v 31 20), (19, 16, ering)]
    let s : State := { s with ev.srcCfg := s.ev.srcCfg.put 0x000F_0000 n new }
    State.renotify (if flag new 31 then s else { s with ev.pend := setFlag s.ev.pend n false })

/-- A claim read of a target (R464): the value it returns. -/
def State.claim (s : State) (t : Nat) : Half × State :=
  let x := s.target t
  let s := if x.outstanding && decide (t < 2) && !(s.hostPort (t = 1)).msixEn then s.emit (.pin (intPin t) true) else s
  match s.bestClaim t with
  | none => (0, s.setTarget t { x with outstanding := false })
  | some src =>
    let p := srcPrio (s.srcCfg src)
    let s : State := { s with ev.pend := setFlag s.ev.pend src false, ev.active := setFlag s.ev.active src true }
    (mkHalf [(31, 31, 1), (19, 16, p), (8, 0, src)],
      (s.setTarget t { x with outstanding := false, stack := (src, s.running t) :: x.stack }).notify)

/-- An end of interrupt (R464). -/
def State.endOfInterrupt (s : State) (t : Nat) (v : Half) : State :=
  let x := s.target t
  let n := fld v 8 0
  match x.stack with
  | (src, _) :: rest =>
    if src = n then State.renotify ({ s with ev.active := setFlag s.ev.active src false }.setTarget t { x with stack := rest })
    else s.raise { src := 0x001, code := t, aux := n, obj := src }
  | [] => s.raise { src := 0x001, code := t, aux := n, obj := 0x1FF }

/-- TGT_STAT. -/
def State.targetStat (s : State) (t : Nat) : Half :=
  let x := s.target t
  mkHalf [(31, 31, x.outstanding.toNat), (30, 30, (x.stack.isEmpty && !x.outstanding).toNat), (29, 29, (!x.stack.isEmpty).toNat),
    (28, 24, x.stack.length), (23, 20, (s.running t).getD 0), (8, 0, match x.stack with | (n, _) :: _ => n | [] => 0)]

/-- An event pin: EVT_IN0 to EVT_IN7, and FRZ_N as 8. -/
def State.evPin (s : State) (n : Nat) : EvPin := s.ev.pins.look (EvPin.reset n) n

def State.setEvPin (s : State) (n : Nat) (p : EvPin) : State := { s with ev.pins := s.ev.pins.put (EvPin.reset n) n p }

/-- A 4-octet read in the EVIC range; offsets that name no register read zero (R462). -/
def State.evicRead (s : State) (off : Nat) : Half × State :=
  if off < 0x8800 then (let n := (off - 0x8000) / 4; (if namedSource n then s.srcCfg n else 0, s))
  else if off < 0x8840 then (BitVec.ofNat 32 (fld s.ev.pend (32 * ((off - 0x8800) / 4) + 31) (32 * ((off - 0x8800) / 4))), s)
  else if off < 0x8880 then (BitVec.ofNat 32 (fld s.ev.active (32 * ((off - 0x8840) / 4) + 31) (32 * ((off - 0x8840) / 4))), s)
  else if 0x9000 ≤ off ∧ off < 0x9100 then
    let t := (off - 0x9000) / 0x40
    let r := off % 0x40
    if r = 0 then s.claim t else if r = 8 then ((s.target t).cfg, s) else if r = 12 then (s.targetStat t, s) else (0, s)
  else if 0xA000 ≤ off ∧ off < 0xA080 then
    let er := (off - 0xA000) / 0x10
    let r := off % 0x10
    if r = 0 then ((s.evRing er).cfg, s)
    else if r = 4 then (s.eringStat er, s.setEvRing er { s.evRing er with lost := 0 })
    else (0, s)
  else if 0xB000 ≤ off ∧ off < 0xB024 then
    let p := s.evPin ((off - 0xB000) / 4)
    (setFlag p.cfg 29 p.level, s)
  else (0, s)

/-- The lowest privilege of a write in the EVIC range; none where a write is discarded. -/
def evicPriv (off : Nat) : Option Nat :=
  if 0x8000 ≤ off ∧ off < 0x8800 then some SUP
  else if off = 0x8880 then some TEN
  else if 0x9000 ≤ off ∧ off < 0x9100 then (if off % 0x40 = 4 then some TEN else if off % 0x40 = 8 then some OPR else none)
  else if 0xA000 ≤ off ∧ off < 0xA080 then (if off % 0x10 = 0 then some OPR else none)
  else if 0xB000 ≤ off ∧ off < 0xB024 then some SUP
  else none

/-- A write of a register in the EVIC range that is permitted. -/
def State.evicWrite (s : State) (off : Nat) (v : Half) : State :=
  if off < 0x8800 then s.writeEvicSrc ((off - 0x8000) / 4) v
  else if off = 0x8880 then s.fire (0x1F0 + fld v 3 0)
  else if 0x9000 ≤ off ∧ off < 0x9100 then
    let t := (off - 0x9000) / 0x40
    if off % 0x40 = 4 then s.endOfInterrupt t v
    else (s.setTarget t { s.target t with cfg := mkHalf [(31, 16, fld v 31 16), (3, 0, fld v 3 0)] }).renotify
  else if off < 0xA080 then
    let er := (off - 0xA000) / 0x10
    s.setEvRing er { s.evRing er with cfg := mkHalf [(31, 12, fld v 31 12)] }
  else
    let n := (off - 0xB000) / 4
    let p := s.evPin n
    s.setEvPin n { p with cfg := mkHalf [(31, 30, fld v 31 30), (15, 0, if fld v 15 0 = 0 then fld p.cfg 15 0 else fld v 15 0)] }

/-- A target block a master reaches: a host port its own (R430), a processor its own. -/
def ownTarget (m t : Nat) : Bool := decide ((m = 4 ∧ t = 0) ∨ (m = 5 ∧ t = 1) ∨ (m = 0 ∧ t = 2) ∨ (m = 1 ∧ t = 3))

/-- TGT_CLAIM. -/
def execTgtClaim (t : Fin 4) (master : BitVec 3) (s : State) : Host.Outcome State Fault Refusal :=
  let m := master.toNat
  let off := 0x9000 + 0x40 * t.val
  .next (s.readReg m off (ownTarget m t.val) fun s => s.claim t.val)

/-- MODERATION_EXPIRY (R465). -/
def execModerationExpiry (t : Fin 4) (s : State) : Host.Outcome State Fault Refusal :=
  .next ((s.setTarget t.val { s.target t.val with timer := false }).notifyOne t.val)

/-! Event pins (R468) -/

/-- A filtered level changed: whether its edge is one that EDGE names. -/
def EvPin.edge (p : EvPin) (level : Bool) : Bool := if level then flag p.cfg 30 else flag p.cfg 31

/-- EXT_EVENT. -/
def execExtEvent (pin : Fin 8) (level : Bool) (s : State) : Host.Outcome State Fault Refusal :=
  let p := s.evPin pin.val
  .next (if !s.awake || p.level == level then s
    else (s.setEvPin pin.val { p with level := level }).raiseIf (p.edge level) { src := 0x010 + pin.val, clr := !level, obj := pin.val })

/-- FRZ_N_EDGE. -/
def execFrzNEdge (level : Bool) (s : State) : Host.Outcome State Fault Refusal :=
  let p := s.evPin 8
  .next (if !s.awake || p.level == level then s
    else
      let s := s.setEvPin 8 { p with level := level }
      if p.edge level then { s with ev.snapReq := true } else s)

/-! Snapshots and checkpoints (R475, R476) -/

/-- A setting of counter 2k governs a chained pair (R474). -/
def State.pairFlag (s : State) (i bit : Nat) : Bool :=
  let w := (s.counterCfg i).1
  if i % 2 = 1 ∧ flag w 46 then flag (s.counterCfg (i - 1)).1 bit else flag w bit

/-- The sample at cycle 0 of a frame when a snapshot was requested. -/
def State.snapSample (s : State) : State :=
  if !s.ev.snapReq then s
  else
    let s := s.ev.counters.foldl (fun s x =>
      s.setCounter x.1 ⟨if s.pairFlag x.1 44 then 0 else x.2.live, x.2.live⟩) s
    { s with ev.snapFn := s.tick.fn, ev.snapSeq := s.ev.snapSeq + 1, ev.snapReq := false, ev.snapRunning := true }

/-- SNAPSHOT_DONE. -/
def State.snapDone (s : State) : State :=
  if !s.ev.snapRunning then s
  else
    let seq := s.ev.snapSeq + 1
    let s := State.raise { s with ev.snapSeq := seq, ev.snapRunning := false } { src := 0x003 }
    let s := s.fix (.snapshot seq.toNat) stOk [s.ev.snapFn.setWidth 64, seq.setWidth 64]
    { s with cmd.deferred := s.cmd.deferred.map fun d =>
        match d.waits with
        | .counterDump a => { d with waits := .counterWrite a }
        | _ => d }

def execSnapshotDone (s : State) : Host.Outcome State Fault Refusal := .next s.snapDone

/-- Counters with CKPT are sampled into the journal. -/
def State.checkpoint (s : State) : State :=
  let on := (s.cfg.ev.counters.filter fun x => s.pairFlag x.1 41).map (·.1)
  { s with jr.checkpoints := on.foldl (fun t i => Tab.put 0 t i (s.counter i).live) [], jr.checkpointFn := s.tick.fn }

/-- COUNTER_CHECKPOINT: at an FN that is a multiple of 8,000 (R475). -/
def execCounterCheckpoint (s : State) : Host.Outcome State Fault Refusal :=
  .next (if s.fnNat % 8000 = 0 then s.checkpoint else s)

/-! Counter windows (R472, R477) -/

/-- The 8 octets at an offset of the counter hub window (Table 14.7). -/
def State.hubWord (s : State) (a : Nat) : Word :=
  if a < 0x2000 then (s.counter (a / 8)).live.setWidth 64
  else if a < 0x4000 then (s.counter ((a - 0x2000) / 8)).snap.setWidth 64
  else if a < 0x8000 then (let w := s.counterCfg ((a - 0x4000) / 16); if a % 16 < 8 then w.1 else w.2)
  else if a < 0x8008 then s.ev.snapFn.setWidth 64
  else if a < 0x8010 then s.ev.snapSeq.setWidth 64
  else 0

/-- The counters a user slot shows, in ascending index; a chained pair takes two entries when its lower counter qualifies. -/
def State.userCounters (s : State) (t : Nat) : List Nat :=
  let mine (i : Nat) : Bool := let w := (s.counterCfg i).1; flag w 47 && flag w 45 && decide (fld w 35 24 = t)
  let chained (i : Nat) : Bool := decide (i % 2 = 1) && flag (s.counterCfg i).1 46
  (List.range 1024).filter fun i => if chained i then mine (i - 1) else mine i

/-- The 8 octets at an offset of the user window. -/
def State.userWord (s : State) (a : Nat) : Word :=
  let w := s.cfg.ev.slots.look 0 (a / 4096)
  let o := a % 4096
  if !flag w 63 then 0
  else if o / 8 = 255 then s.ev.snapSeq.setWidth 64
  else if o / 8 = 511 then s.ev.snapFn.setWidth 64
  else
    match (s.userCounters (fld w 11 0))[o % 0x800 / 8]? with
    | some i => if o < 0x800 then (s.counter i).live.setWidth 64 else (s.counter i).snap.setWidth 64
    | none => 0

/-- The place of a latch: host port, window, offset of the 8 octets. -/
def latchIndex (portB user : Bool) (a : Nat) : Nat := portB.toNat * 2 ^ 18 + user.toNat * 2 ^ 17 + a / 8

/-- COUNTER_HUB_READ: a read of a host port in the counter hub window or, `user`, the user window. -/
def execCounterHubRead (portB user : Bool) (offset : BitVec 16) (octets : Nat) (s : State) : Host.Outcome State Fault Refusal :=
  let o := offset.toNat
  let m := 4 + portB.toNat
  let fits := if user then decide (octets = 4 ∧ o % 4 = 0) || decide (octets = 8 ∧ o % 8 = 0)
    else decide (1 ≤ octets ∧ octets ≤ 64 ∧ o + octets ≤ 0x10000)
  let word (a : Nat) : Word := if user then s.userWord a else s.hubWord a
  .next (
    if !s.busLive m then s
    else if !user && s.boot.mode ≠ .running then s.readHole m (0x10000 + o)
    else
    let s := if user then s else s.filterAccess m 2 o false none
    if !fits then (s.matrixError m 0 2 kSize false o).refuseRead m
    else if octets = 4 ∧ o % 8 = 0 then
      let w := word o
      State.emit { s with ev.latches := s.ev.latches.put none (latchIndex portB user o) (some (BitVec.ofNat 32 (fld w 63 32))) }
        (.hostRead portB ((leWord w).take 4))
    else if octets = 4 ∧ o % 8 = 4 then
      let k := latchIndex portB user o
      let hi := match s.ev.latches.look none k with | some h => h.toNat | none => fld (word (o - 4)) 63 32
      State.emit { s with ev.latches := s.ev.latches.put none k none } (.hostRead portB (octetsOf 4 hi).reverse)
    else
      s.emit (.hostRead portB (((leWords ((List.range ((o + octets - 1) / 8 - o / 8 + 1)).map fun i => word (8 * (o / 8 + i)))).drop (o % 8)).take octets)))

/-! Class 0x0A (Table 14.9) -/

/-- The event-select catalogue (Table 14.6). -/
def selectListed (sel : Nat) : Bool :=
  [(0x0100, 0x010A), (0x0200, 0x0207), (0x0300, 0x0308), (0x0400, 0x0402), (0x0500, 0x050A), (0x0600, 0x060B), (0x0610, 0x0612),
    (0x0700, 0x0706), (0x0800, 0x0808), (0x0900, 0x0912), (0x0A00, 0x0A01)].any fun r => decide (r.1 ≤ sel) && decide (sel ≤ r.2)

/-- An E1 endpoint or a tributary port, which counters of group 3 take (log entry 52). -/
def e1Object (e : Eid) : Bool :=
  eidForm e && (if eidKind e = .trib then decide (eidLevel e = 1) else decide (eidKind e ≠ .null) && decide (1 ≤ eidLevel e))

/-- An object is well formed for its kind (R469, Table 14.6). -/
def objectForm (sel obj : Nat) : Bool :=
  let e : Eid := BitVec.ofNat 32 obj
  if sel < 0x0200 then decide (obj ≤ 43)
  else if sel < 0x0300 then eidForm e && decide (eidKind e = .line ∨ eidKind e = .mate) && decide (eidLevel e ≤ 1)
  else if sel < 0x0400 then e1Object e
  else if sel = 0x0400 then decide (obj ≤ 13)
  else if sel = 0x0401 then eidForm e
  else if sel = 0x0402 then decide (obj = 0)
  else if sel < 0x0600 then decide (obj ≤ 4095)
  else if sel < 0x0610 then decide (obj ≤ 65535)
  else if sel < 0x0700 then decide (obj ≤ 39) || (decide (sel = 0x0612) && decide (obj = 40))
  else if sel = 0x0704 then eidForm e
  else if sel = 0x0706 then decide (obj ≤ 19)
  else if sel < 0x0800 then decide (obj ≤ 16383)
  else if sel = 0x0800 ∨ sel = 0x0808 then decide (obj ≤ 7)
  else if sel = 0x0801 then decide (obj ≤ 112)
  else if sel < 0x0900 then decide (obj ≤ 15)
  else if sel ≤ 0x0905 then decide (obj ≤ 3)
  else if sel ≤ 0x0908 then true
  else if sel ≤ 0x090B then decide (obj ≤ 1)
  else if sel = 0x090C then decide (obj ≤ 63)
  else if sel = 0x090D then decide (obj ≤ 7)
  else if sel = 0x090E ∨ sel = 0x0910 then decide (obj ≤ 4095)
  else if sel = 0x090F then decide (obj ≤ 255)
  else if sel = 0x0911 then decide (obj ≤ 7)
  else if sel = 0x0912 then decide (obj ≤ 15)
  else decide (obj ≤ 63)

/-- The home of a counter suits a record. -/
def State.homeSuits (s : State) (i : Nat) (w : Rec2) : Bool :=
  let sel := fld w.1 63 48
  if flag w.1 40 then homeCounts i sel else s.homeHolds i sel (fld w.2 31 0)

def counterMask1 : Word := maskOf [(63, 40), (35, 24)]
def counterMask2 : Word := maskOf [(31, 0)]

/-- COUNTER_SET (R469, R474, R481). -/
def State.counterSet (s : State) (c : Cmd) : State :=
  let w : Rec2 := (c.word 1, c.word 2)
  let any := flag (c.word 0) 63
  let at_ := fld (c.word 0) 9 0
  let sel := fld w.1 63 48
  let obj := fld w.2 31 0
  let all := flag w.1 40
  let chain := flag w.1 46
  let was := (s.counterCfg at_).1
  let badChain := chain && ((!any && decide (at_ % 2 = 0)) || all || (!any && flag was 46 && decide (fld was 63 48 ≠ sel)))
  s.runOp c (setting 0x0A 0x01 OPR [maskOf [(63, 63), (9, 0)], counterMask1, counterMask2])
    [(any && decide (at_ ≠ 0), 0), (!selectListed sel || badChain, 1), (if all then decide (obj ≠ 0) else !objectForm sel obj, 2)] none fun s =>
    let pick := if any then (List.range 1024).find? fun i => !flag (s.counterCfg i).1 47 && !(chain && decide (i % 2 = 0)) && s.homeSuits i w
      else some at_
    match pick with
    | none => refuse stNoResource 0 s
    | some i =>
      if !s.homeSuits i w then refuse stState 0 s
      else .ok { s with cfg.ev.counters := s.cfg.ev.counters.put (0, 0) i w } [BitVec.ofNat 64 i]

/-- A TEN sender may use only counters of its own (R481). -/
def State.counterOwn (s : State) (c : Cmd) (first n : Nat) : Option (Nat × Nat) :=
  if c.rank = TEN ∧ (List.range n).any fun k => decide (fld (s.counterCfg (first + k)).1 35 24 ≠ c.t) then some (stNotPermitted, 0x06) else none

/-- COUNTER_GET. -/
def State.counterGet (s : State) (c : Cmd) : State :=
  let i := fld (c.word 0) 9 0
  s.runOp c (plainOp 0x0A 0x02 TEN [maskOf [(9, 0)]]) [] (s.counterOwn c i 1) fun s =>
    let w := s.counterCfg i
    .ok s [w.1, w.2, (s.counter i).live.setWidth 64, (s.counter i).snap.setWidth 64]

/-- A range of counters that does not lie within 0 to 1,023, or whose count is not 1 to 64. -/
def badCounterRange (c : Cmd) : Bool :=
  let n := fld (c.word 0) 22 16
  decide (n = 0 ∨ 64 < n ∨ 1024 < fld (c.word 0) 9 0 + n)

/-- COUNTER_READ. -/
def State.counterRead (s : State) (c : Cmd) : State :=
  let first := fld (c.word 0) 9 0
  let n := fld (c.word 0) 22 16
  s.runOp c (plainOp 0x0A 0x03 TEN [maskOf [(32, 32), (22, 16), (9, 0)]]) [(badCounterRange c, 0)] (s.counterOwn c first n) fun s =>
    .ok s ((List.range n).map fun k =>
      let x := s.counter (first + k)
      (if flag (c.word 0) 32 then x.snap else x.live).setWidth 64)

/-- COUNTER_CLEAR: a chained pair is cleared whole. -/
def State.counterClear (s : State) (c : Cmd) : State :=
  s.runOp c (plainOp 0x0A 0x04 OPR [maskOf [(22, 16), (9, 0)]]) [(badCounterRange c, 0)] none fun s =>
    let clear (s : State) (i : Nat) : State := s.setCounter i { s.counter i with live := 0 }
    .ok ((List.range (fld (c.word 0) 22 16)).foldl (fun s k =>
      let i := fld (c.word 0) 9 0 + k
      let upper := i - i % 2 + 1
      let s := clear s i
      if flag (s.counterCfg upper).1 46 then clear (clear s (upper - 1)) upper else s) s) []

/-- SNAPSHOT (R476): it replies when the copy of its own sample ends. -/
def State.snapshotCmd (s : State) (c : Cmd) : State :=
  s.runOp c (plainOp 0x0A 0x05 OPR []) [] none fun s =>
    let seq := s.ev.snapSeq.toNat + (if s.ev.snapRunning then 3 else 2)
    .later { s with ev.snapReq := true } (.snapshot (seq % 2 ^ 32))

/-- COUNTER_DUMP. -/
def State.counterDump (s : State) (c : Cmd) : State :=
  s.runOp c (plainOp 0x0A 0x06 OPR [maskOf [(0, 0)], allBits]) [(decide (fld (c.word 1) 2 0 ≠ 0), 1)] none fun s =>
    if 2 ≤ c.port.val then refuse stNotPermitted 0 s
    else .later s (if flag (c.word 0) 0 then .counterDump (c.word 1) else .counterWrite (c.word 1))

/-- The snapshot bank is written to host memory. -/
def State.dumpCounters (s : State) (c : Cmd) (addr : Word) : State :=
  s.emit (.hostWrite (c.port.val = 1) addr (leWords ((List.range 1024).map fun i => (s.counter i).snap.setWidth 64)))

/-- FILTER_SET. -/
def State.filterSet (s : State) (c : Cmd) : State :=
  s.runOp c (setting 0x0A 0x07 OPR [maskOf [(2, 0)], maskOf [(63, 54), (52, 20)], allBits])
    [(flag (c.word 1) 62 && decide (c.word 2 ≠ 0), 2)] none fun s =>
    .ok { s with cfg.ev.filters := s.cfg.ev.filters.put (0, 0) (fld (c.word 0) 2 0) (c.word 1, c.word 2) } []

/-- FILTER_GET. -/
def State.filterGet (s : State) (c : Cmd) : State :=
  s.runOp c (plainOp 0x0A 0x08 OPR [maskOf [(2, 0)]]) [] none fun s =>
    let w := s.cfg.ev.filters.look (0, 0) (fld (c.word 0) 2 0)
    .ok s [w.1, w.2]

/-- USER_SLOT_SET. -/
def State.userSlotSet (s : State) (c : Cmd) : State :=
  s.runOp c (setting 0x0A 0x09 SUP [maskOf [(3, 0)], maskOf [(63, 63), (11, 0)]]) [] none fun s =>
    .ok { s with cfg.ev.slots := s.cfg.ev.slots.put 0 (fld (c.word 0) 3 0) (c.word 1) } []

/-! Word tracing (R478 to R480) -/

def State.tracePort (s : State) (p : Nat) : TracePort := s.ev.tracePorts.look TracePort.reset p

/-- TRACE_SET of class 0x0A. -/
def State.wordTraceSet (s : State) (c : Cmd) : State :=
  let p := fld (c.word 0) 3 0
  let k := fld (c.word 1) 12 8
  s.runOp c (plainOp 0x0A 0x0A OPR [maskOf [(3, 0)], maskOf [(16, 16), (12, 8), (0, 0)]])
    [(decide (13 < p), 0), (decide (k < 8 ∨ 24 < k), 1)] none fun s =>
    let x := s.tracePort p
    .ok { s with ev.tracePorts := s.ev.tracePorts.put TracePort.reset p { x with en := flag (c.word 1) 0, k := k },
                 ev.traceStop := flag (c.word 1) 16 } []

/-- The next state of a port's LFSR: x^24 + x^23 + x^22 + x^17 + 1. -/
def lfsrNext (x : BitVec 24) : BitVec 24 :=
  let b := (x.getLsbD 23 != x.getLsbD 22) != (x.getLsbD 21 != x.getLsbD 16)
  (x <<< 1) ||| BitVec.ofNat 24 b.toNat

/-- A record is closed: DONE, or ended with TRUNC or TIMEOUT. -/
def TraceRec.closed (r : TraceRec) : Bool := r.done || r.trunc || r.timeout

/-- A record for a tagged word, when one is free (R480). -/
def State.allocTrace (s : State) (port : Nat) (cycle : BitVec 17) : State :=
  let new (i : BitVec 32) : TraceRec := ⟨i, false, false, false, false, false, BitVec.ofNat 4 port, 0, s.tick.fn, cycle, 0, List.replicate 8 0xFFFF_FFFF, none⟩
  let add (s : State) : State := { s with ev.traces := s.ev.traces ++ [new s.ev.traceNext], ev.traceNext := s.ev.traceNext + 1 }
  if s.ev.traces.length < 4096 then add s
  else if s.ev.traceStop then s
  else
    match s.ev.traces.find? TraceRec.closed with
    | some r => add { s with ev.traces := s.ev.traces.erase r }
    | none => s

/-- In STOP mode tagging stops when every record is allocated: TRACE_FULL. -/
def State.traceFullCheck (s : State) : State :=
  let full := s.ev.traceStop && decide (4096 ≤ s.ev.traces.length)
  State.raiseIf { s with ev.traceFull := full } (full && !s.ev.traceFull) { src := 0x004 }

/-- A valid word taken by a port's ingress time stage at a cycle. -/
def State.traceWord (s : State) (p : Nat) (cycle : BitVec 17) : State :=
  let x := s.tracePort p
  let l := lfsrNext x.lfsr
  let s : State := { s with ev.tracePorts := s.ev.tracePorts.put TracePort.reset p { x with lfsr := l } }
  if x.en && decide (l.toNat % 2 ^ x.k = 2 ^ x.k - 1) then (s.allocTrace p cycle).traceFullCheck else s

/-- A stage stamps the record of a tagged word (R479). -/
def TraceRec.stamp (r : TraceRec) (t : TraceStamp) : TraceRec :=
  if r.index ≠ t.index ∨ r.closed then r
  else
    { r with stamps := r.stamps.set (t.stage - 1) t.after, mcast := r.mcast || t.mcast, qb := r.qb || t.qb, trunc := t.trunc,
             c7 := if t.stage = 7 then t.cycle else r.c7, dst := if t.stage = 8 then t.dst else r.dst, done := decide (t.stage = 8),
             cid := match t.cid with | some c => some c | none => r.cid }

/-- The words and stamps of a frame. -/
def State.traceFrame (s : State) (words : List (Fin 14 × List (BitVec 17))) (stamps : List TraceStamp) : State :=
  let s := words.foldl (fun s x => x.2.foldl (fun s c => s.traceWord x.1.val c) s) s
  { s with ev.traces := stamps.foldl (fun l t => l.map fun r => r.stamp t) s.ev.traces }

/-- TRACE_TIMEOUT: 2^24 cycles after S0. -/
def execTraceTimeout (index : BitVec 32) (s : State) : Host.Outcome State Fault Refusal :=
  .next { s with ev.traces := s.ev.traces.map fun r => if r.index = index ∧ !r.closed then { r with timeout := true } else r }

/-- The seven words of a trace record in a reply (Table 14.8). -/
def State.traceWords (s : State) (r : TraceRec) : List Word :=
  let p (i : Nat) : Word := mkWord [(63, 32, (nth 0 r.stamps (2 * i)).toNat), (31, 0, (nth 0 r.stamps (2 * i + 1)).toNat)]
  let d := fnAhead r.fn s.tick.lastFlip
  [mkWord [(63, 63, r.done.toNat), (62, 62, r.mcast.toNat), (61, 61, r.qb.toNat), (60, 60, r.trunc.toNat), (59, 59, r.timeout.toNat),
      (55, 52, r.src.toNat), (51, 48, r.dst.toNat), (47, 0, r.fn.toNat)],
    mkWord [(63, 47, r.c0.toNat), (46, 30, r.c7.toNat)], p 0, p 1, p 2, p 3,
    mkWord [(63, 63, r.cid.isSome.toNat), (62, 62, (decide (0 < d ∧ d < 2 ^ 47)).toNat), (18, 0, (r.cid.getD 0).toNat)]]

/-- TRACE_READ. -/
def State.traceRead (s : State) (c : Cmd) : State :=
  let first := fld (c.word 0) 31 0
  let n := fld (c.word 0) 38 32
  s.runOp c (plainOp 0x0A 0x0B OPR [maskOf [(38, 0)]]) [(decide (n = 0 ∨ 64 < n), 0)] none fun s =>
    let l := (s.ev.traces.filter fun r => decide (first ≤ r.index.toNat)).take n
    .ok s (mkWord [(38, 32, l.length), (31, 0, match l with | r :: _ => r.index.toNat | [] => first)] :: l.flatMap s.traceWords)

/-- TRACE_CLEAR. -/
def State.traceClear (s : State) (c : Cmd) : State :=
  s.runOp c (plainOp 0x0A 0x0C OPR []) [] none fun s => .ok { s with ev.traces := [], ev.traceFull := false } []

/-! Class 0x0F (Table 14.10) -/

/-- EVENT_READ. -/
def State.eventRead (s : State) (c : Cmd) : State :=
  let first := fld (c.word 0) 31 0
  let n := fld (c.word 0) 39 32
  s.runOp c (plainOp 0x0F 0x01 OPR [maskOf [(39, 0)]]) [(decide (n = 0 ∨ 128 < n), 0)] none fun s =>
    let next := s.jr.nextIdx.toNat
    if next ≤ first then .ok s [mkWord [(31, 0, first)]]
    else
      let start := Nat.max first s.jr.oldest
      let count := Nat.min n (next - start)
      .ok s (mkWord [(40, 40, (decide (first < s.jr.oldest)).toNat), (39, 32, count), (31, 0, start)] :: (List.range count).flatMap fun k =>
        let r := s.jr.devLog.look ⟨0, 0⟩ ((start + k) % 4096)
        [r.w0, r.w1])

/-- EVENT_LOG_STATUS. -/
def State.eventLogStatus (s : State) (c : Cmd) : State :=
  s.runOp c (plainOp 0x0F 0x02 OPR []) [] none fun s =>
    .ok s [mkWord [(63, 32, s.jr.oldest), (31, 0, s.jr.nextIdx.toNat)], mkWord [(31, 0, s.ev.lost)]]

/-- Offsets that EVIC_REG_READ and EVIC_REG_WRITE do not reach (R482). -/
def badEvicOff (off n : Nat) : Bool :=
  decide (off % 4 ≠ 0) || decide (off < 0x8000) || decide (0xC000 < off + 4 * n) ||
    (List.range n).any fun k => decide (0x9000 ≤ off + 4 * k ∧ off + 4 * k < 0x9080)

/-- Dwords two to a word, the lower offset first. -/
def pairHalves : List Half → List Word
  | a :: b :: l => mkWord [(63, 32, a.toNat), (31, 0, b.toNat)] :: pairHalves l
  | [a] => [mkWord [(63, 32, a.toNat)]]
  | [] => []

/-- EVIC_REG_READ. -/
def State.evicRegRead (s : State) (c : Cmd) : State :=
  let off := fld (c.word 0) 15 0
  let n := fld (c.word 0) 20 16
  s.runOp c (plainOp 0x0F 0x03 OPR [maskOf [(20, 0)]]) [(decide (n = 0 ∨ 16 < n) || badEvicOff off n, 0)] none fun s =>
    let r := (List.range n).foldl (fun (a : List Half × State) k => let x := a.2.evicRead (off + 4 * k); (a.1 ++ [x.1], x.2)) ([], s)
    .ok r.2 (pairHalves r.1)

/-- EVIC_REG_WRITE. -/
def State.evicRegWrite (s : State) (c : Cmd) : State :=
  let off := fld (c.word 0) 15 0
  s.runOp c (plainOp 0x0F 0x04 OPR [maskOf [(15, 0)], maskOf [(31, 0)]]) [(badEvicOff off 1, 0)] none fun s =>
    match evicPriv off with
    | none => .ok s []
    | some p => if c.rank < p then refuse stNotPermitted 0x05 s else .ok (s.evicWrite off (BitVec.ofNat 32 (fld (c.word 1) 31 0))) []

def execCounterSet (c : Cmd) (s : State) : Host.Outcome State Fault Refusal := packet c s (·.counterSet c)
def execCounterGet (c : Cmd) (s : State) : Host.Outcome State Fault Refusal := packet c s (·.counterGet c)
def execCounterRead (c : Cmd) (s : State) : Host.Outcome State Fault Refusal := packet c s (·.counterRead c)
def execCounterClear (c : Cmd) (s : State) : Host.Outcome State Fault Refusal := packet c s (·.counterClear c)
def execSnapshot (c : Cmd) (s : State) : Host.Outcome State Fault Refusal := packet c s (·.snapshotCmd c)
def execCounterDump (c : Cmd) (s : State) : Host.Outcome State Fault Refusal := packet c s (·.counterDump c)
def execFilterSet (c : Cmd) (s : State) : Host.Outcome State Fault Refusal := packet c s (·.filterSet c)
def execFilterGet (c : Cmd) (s : State) : Host.Outcome State Fault Refusal := packet c s (·.filterGet c)
def execUserSlotSet (c : Cmd) (s : State) : Host.Outcome State Fault Refusal := packet c s (·.userSlotSet c)
def execWordTraceSet (c : Cmd) (s : State) : Host.Outcome State Fault Refusal := packet c s (·.wordTraceSet c)
def execTraceRead (c : Cmd) (s : State) : Host.Outcome State Fault Refusal := packet c s (·.traceRead c)
def execTraceClear (c : Cmd) (s : State) : Host.Outcome State Fault Refusal := packet c s (·.traceClear c)
def execEventRead (c : Cmd) (s : State) : Host.Outcome State Fault Refusal := packet c s (·.eventRead c)
def execEventLogStatus (c : Cmd) (s : State) : Host.Outcome State Fault Refusal := packet c s (·.eventLogStatus c)
def execEvicRegRead (c : Cmd) (s : State) : Host.Outcome State Fault Refusal := packet c s (·.evicRegRead c)
def execEvicRegWrite (c : Cmd) (s : State) : Host.Outcome State Fault Refusal := packet c s (·.evicRegWrite c)

end Sys2Proof.Machine
end

