-- ==== Sys2Proof/Machine/Memory.lean ====
section
/-!
DEFINITION. Map repair, the Gill refresh controller, journal verification and compaction, and the commands of class 0x0B
(15_memories_journal.md).
-/
namespace Sys2Proof.Machine

/-- The words of a store (Tables 1.4 and 15.1). -/
def State.storeSize (s : State) (store : Nat) : Nat :=
  let mib : Nat := 131072
  match store with
  | 0 => 16384
  | 1 => 4 * mib
  | 2 => (match s.ident.profile with | .broad => 16 * mib | .deep => 20 * mib | .packet => 12 * mib)
  | 3 => (match s.ident.profile with | .deep => 3 * mib | _ => 4 * mib)
  | 4 => (match s.ident.profile with | .broad => 8 * mib | .deep => 5 * mib | .packet => 12 * mib)
  | 5 => 3 * mib
  | 6 => mib
  | 7 => 32768
  | 8 => 65536
  | _ => 0

/-- MAP_REPAIR (R491): the word is good again in both halves. A word bad in both halves needs the command processor. -/
def execMapRepair (addr : BitVec 32) (bothBad : Bool) (s : State) : Host.Outcome State Fault Refusal :=
  let a := addr.toNat
  .next (if s.bush.badMapWords.contains a && !(bothBad && (s.cmd.held || s.boot.frozen)) && s.pwr.fabOn then
      State.raise ({ s with bush.badMapWords := s.bush.badMapWords.erase a }.setEcc 1 a .clean) { src := 0x123, obj := a }
    else s)

/-- The band of a temperature in 1/256 °C (Table 15.4). -/
def refreshBand (t : Int) : Nat :=
  if t ≤ 85 * 256 then 0 else if t ≤ 95 * 256 then 1 else if t ≤ 105 * 256 then 2 else if t ≤ 115 * 256 then 3 else 4

/-- The band next in use: a rise at once, a fall only 2 °C inside the cooler band, the hottest after a failed read (R493). -/
def nextBand (now_ : Nat) : Option Int → Nat
  | none => 4
  | some t => if now_ < refreshBand t then refreshBand t else Nat.min now_ (refreshBand (t + 2 * 256))

/-- REFRESH_BAND_CHECK (R493). -/
def execRefreshBandCheck (temp : Option Int) (s : State) : Host.Outcome State Fault Refusal :=
  .next (if s.pwr.mode = .gill then
      { s with mem.band := nextBand s.mem.band temp,
               mem.hot := s.mem.hot || (match temp with | some t => decide (125 * 256 < t) | none => false) }
    else s)

/-- JOURNAL_VERIFY: the pass has read every word of the journal; what it found (R490). -/
def execJournalVerify (found : List EccEvent) (s : State) : Host.Outcome State Fault Refusal :=
  let f := s.takeFree
  let s := found.foldl (fun s e => if e.store.val = 8 then s.eccFound { e with master := 9 } else s) f.2
  .next (s.setStoreCounts 8 { s.storeCounts 8 with scrubWords := 65536, scrubTime := f.1.toNat % 65536 })

/-- A compaction begins (R498). -/
def State.compactBegin (s : State) : State := { s with jr.compacting := true, jr.compactFrom := s.jr.lastSeq }

/-- JOURNAL_COMPACTION_START: the active half's log has passed 75 % of the half. -/
def execJournalCompactionStart (s : State) : Host.Outcome State Fault Refusal :=
  .next (if !s.jr.compacting && !s.cmd.held && decide (halfWords * 75 < s.logFill * 100) then s.compactBegin else s)

/-- JOURNAL_FULL, when a base image first exceeds 75 % of a half and when it falls below 70 % (R499). -/
def State.baseFull (s : State) : State :=
  if !s.jr.fullRaised && decide (halfWords * 75 < s.jr.baseWords * 100) then State.raise { s with jr.fullRaised := true } { src := 0x126 }
  else if s.jr.fullRaised && decide (s.jr.baseWords * 100 < halfWords * 70) then
    State.raise { s with jr.fullRaised := false } { src := 0x126, clr := true }
  else s

/-- What stood at a record sequence. -/
def Journal.standing (j : Journal) (seq : Nat) : JSnap :=
  match (j.log.filter fun r => decide (r.seq ≤ seq)).getLast? with
  | some r => r.snap
  | none => j.base

/-- A compaction ends: the base image of the other half, the records since, and the other superblock (R498). -/
def State.compactEnd (s : State) : State :=
  let j := s.jr
  let s : State := { s with jr.base := j.standing j.compactFrom, jr.baseWords := Config.baseWords j.compactFrom,
                            jr.log := j.log.filter fun r => decide (j.compactFrom < r.seq), jr.half := !j.half,
                            jr.superSeq := j.superSeq + 1, jr.valid := true, jr.compacting := false }
  ((s.raise { src := 0x125 }).baseFull).fix .journalCompact stOk []

/-- JOURNAL_COMPACTED. -/
def execJournalCompacted (s : State) : Host.Outcome State Fault Refusal := .next (if s.jr.compacting then s.compactEnd else s)

/-- MEM_ECC_STAT. -/
def State.eccStat (s : State) : Half := mkHalf [(31, 16, s.mem.statCe), (15, 8, s.mem.statUe), (7, 0, s.mem.statPoison)]

/-- MEM_ECC_STAT_READ. -/
def execMemEccStatRead (master : BitVec 3) (s : State) : Host.Outcome State Fault Refusal :=
  .next (s.readReg master.toNat 0x70 true fun s => (s.eccStat, { s with mem.statCe := 0, mem.statUe := 0, mem.statPoison := 0 }))

/-- JOURNAL_STAT. -/
def State.journalStat (s : State) : Half :=
  mkHalf [(31, 31, s.jr.half.toNat), (30, 30, s.jr.compacting.toNat), (29, 29, s.pwr.pfwLow.toNat), (28, 28, s.jr.corrupt.toNat),
    (23, 16, s.jr.baseWords * 100 / halfWords), (15, 8, s.logFill * 100 / halfWords)]

/-! Class 0x0B (Table 15.9) -/

/-- The words of the last complete scrub pass of a store and the time it took: the journal's pass is a command; of the other stores the spec
gives bounds alone, so their figures are free (log entry 53). -/
def State.scrubPass (s : State) (store : Nat) : Word × State :=
  if store = 8 then (mkWord [(47, 32, (s.storeCounts 8).scrubTime), (31, 0, (s.storeCounts 8).scrubWords)], s)
  else (s.takeFree.1 &&& maskOf [(47, 0)], s.takeFree.2)

def State.memStatus (s : State) (c : Cmd) : State :=
  let st := fld (c.word 0) 3 0
  s.runOp c (plainOp 0x0B 0x01 OPR [maskOf [(3, 0)]]) [(decide (8 < st), 0)] none fun s =>
    let k := s.storeCounts st
    let p := s.scrubPass st
    .ok p.2 [BitVec.ofNat 64 k.ce, BitVec.ofNat 64 k.ue, BitVec.ofNat 64 k.poisonReads, BitVec.ofNat 64 k.poisonWrites, p.1,
      BitVec.ofNat 64 k.qbCarried]

def State.memErrLog (s : State) (c : Cmd) : State :=
  s.runOp c (plainOp 0x0B 0x02 OPR []) [] none fun s =>
    .ok s (BitVec.ofNat 64 s.mem.errLog.length ::
      s.mem.errLog.reverse.flatMap fun e => [e.fn.setWidth 64, mkWord [(63, 32, e.info.toNat), (31, 0, e.addr.toNat)]])

def State.journalStatus (s : State) (c : Cmd) : State :=
  s.runOp c (plainOp 0x0B 0x03 OPR []) [] none fun s =>
    .ok s [mkWord [(63, 32, s.jr.superSeq), (31, 0, s.journalStat.toNat)], mkWord [(39, 0, s.jr.lastSeq)], mkWord [(10, 0, s.jr.keys.length)],
      mkWord [(31, 0, s.jr.powerFailCount)]]

def State.journalCompact (s : State) (c : Cmd) : State :=
  s.runOp c (plainOp 0x0B 0x04 OPR []) [] none fun s =>
    if s.jr.compacting then refuse stBusy 0 s else .later s.compactBegin .journalCompact

/-- A word of the journal as JOURNAL_READ answers it: zeros in the key region, the records of the device log, and elsewhere what the firmware's
storage format makes of it, which is open (R497; log entry 13). -/
def State.journalWord (s : State) (a : Nat) : Word × State :=
  if 0x49000 / 8 ≤ a ∧ a < 0x59000 / 8 then (0, s)
  else if 0x59000 / 8 ≤ a ∧ a < 0x69000 / 8 then
    let i := a - 0x59000 / 8
    let r := s.jr.devLog.look ⟨0, 0⟩ (i / 2)
    (if i % 2 = 0 then r.w0 else r.w1, s)
  else s.takeFree

/-- Words of the journal from an address on. -/
def State.journalWords (s : State) (a n : Nat) : List Word × State :=
  (List.range n).foldl (fun (r : List Word × State) i => let x := r.2.journalWord (a + i); (r.1 ++ [x.1], x.2)) ([], s)

def State.journalRead (s : State) (c : Cmd) : State :=
  let a := fld (c.word 0) 18 0
  let n := fld (c.word 0) 25 20
  s.runOp c (plainOp 0x0B 0x05 SUP [maskOf [(25, 20), (18, 0)]]) [(decide (n = 0 ∨ 65536 < a + n), 0)] none fun s =>
    .ok (s.journalWords a n).2 (s.journalWords a n).1

/-- CKPT_NOW: the counters are checkpointed, and the reply follows with the FN of the checkpoint. -/
def State.ckptNow (s : State) (c : Cmd) : State :=
  (s.runOp c (plainOp 0x0B 0x06 OPR []) [] none fun s => .later s.checkpoint .ckptNow).fix .ckptNow stOk [s.tick.fn.setWidth 64]

def State.memInject (s : State) (c : Cmd) : State :=
  let st := fld (c.word 0) 3 0
  let k := fld (c.word 0) 5 4
  let bit := fld (c.word 0) 15 8
  let a := fld (c.word 1) 31 0
  s.runOp c (plainOp 0x0B 0x07 SUP [maskOf [(15, 8), (5, 4), (3, 0)], maskOf [(31, 0)]])
    [(decide (8 < st ∨ k = 0 ∨ 71 < bit), 0), (decide (s.storeSize st ≤ a), 1)] none fun s =>
    unlessFail s [(decide (st = 7 ∨ st = 8), stState, 0)]
      (.ok { s with mem.injects := s.mem.injects.filter (fun i => !(decide (i.store = st) && decide (i.addr = a))) ++ [⟨st, a, k, bit⟩] } [])

def execMemStatus (c : Cmd) (s : State) : Host.Outcome State Fault Refusal := packet c s (·.memStatus c)
def execMemErrLog (c : Cmd) (s : State) : Host.Outcome State Fault Refusal := packet c s (·.memErrLog c)
def execJournalStatus (c : Cmd) (s : State) : Host.Outcome State Fault Refusal := packet c s (·.journalStatus c)
def execJournalCompact (c : Cmd) (s : State) : Host.Outcome State Fault Refusal := packet c s (·.journalCompact c)
def execJournalRead (c : Cmd) (s : State) : Host.Outcome State Fault Refusal := packet c s (·.journalRead c)
def execCkptNow (c : Cmd) (s : State) : Host.Outcome State Fault Refusal := packet c s (·.ckptNow c)
def execMemInject (c : Cmd) (s : State) : Host.Outcome State Fault Refusal := packet c s (·.memInject c)

end Sys2Proof.Machine
end

