-- ==== Sys2Proof/Machine/Pair.lean ====
section
/-!
DEFINITION. Paired operation: the token, pair states, status blocks, switchover and the commands of class 0x0C (16_paired_operation.md). What the
standby does with a mirror message is in Mirror.
-/
namespace Sys2Proof.Machine

/-- STATE of PAIR_STATUS. -/
def PairMode.code : PairMode → Nat
  | .alone => 0
  | .syncing => 1
  | .standby => 2
  | .active => 3
  | .handover => 4
  | .faulted => 5

/-- PAIR_CFG. -/
def State.revert (s : State) : Bool := flag s.cfg.pair 62
def State.staleTake (s : State) : Bool := flag s.cfg.pair 61
def State.autoTake (s : State) : Bool := flag s.cfg.pair 60
def State.wtrS (s : State) : Nat := fld s.cfg.pair 59 48
def State.bootWait (s : State) : Nat := fld s.cfg.pair 47 32

/-- The partner's last status block. -/
def Peer.home (p : Peer) : Bool := flag p.w0 59
def Peer.holds (p : Peer) : Bool := flag p.w0 58
def Peer.healthy (p : Peer) : Bool := flag p.w0 56
def Peer.state (p : Peer) : Nat := fld p.w0 55 53

/-- The pair state changes: PAIR_ROLE with the new state and the cause (R512). -/
def State.role (s : State) (m : PairMode) (cause : Nat) : State :=
  if s.pair.mode = m then s
  else State.raise { s with pair.mode := m, pair.lastCause := cause } { src := 0x140, code := m.code, aux := cause }

/-- The unit enters or leaves step (R516). -/
def State.setInStep (s : State) (b : Bool) : State :=
  if s.pair.inStep = b then s else State.raise { s with pair.inStep := b } { src := 0x142, clr := !b }

/-- Mirroring is lost (R519). -/
def State.setStale (s : State) : State :=
  if s.pair.stale then { s with pair.syncSeq := none } else State.raise { s with pair.stale := true, pair.syncSeq := none } { src := 0x141, clr := true }

/-- Mirroring is restored: the synchronisation is complete (R519, R520). -/
def State.syncDone (s : State) : State :=
  (State.raise { s with pair.stale := false, pair.syncSeq := none } { src := 0x143 }).raise { src := 0x141 }

/-- ACT_CLAIM driven or let go. -/
def State.drive (s : State) (b : Bool) : State :=
  if s.pair.driving = b then s else State.emit { s with pair.driving := b } (.pin .actClaim (!b))

/-- ACT_OUT driven. -/
def State.setActOut (s : State) (b : Bool) : State :=
  if s.pair.actOut = b then s else State.emit { s with pair.actOut := b } (.pin .actOut b)

/-- The unit lets go of the token: ACT_OUT low, and only then ACT_CLAIM (R511). -/
def State.letGo (s : State) : State :=
  { (s.setActOut false).drive false with pair.token := false, pair.actOutNext := none, pair.readback := false }

/-- The unit becomes active: every stream starts at the mirrored reserve, and the mirror sequence goes on (R399, R520). -/
def State.becomeActive (s : State) (cause : Nat) : State :=
  let s := if s.paired then s.role .active cause else s
  let s : State := { s with pair.mirrorSent := s.jr.mirrorGen, pair.wtrEnd := none }
  s.cmd.keys.foldl (fun s e => (s.setStreams e.1 false e.2.res0.toNat).setStreams e.1 true e.2.res1.toNat) s

/-- A planned switchover is given up before it takes effect: the states before it, the receiving unit stops driving at once, PAIR_ROLE with CODE
the state it had (R522; log entry 56). One that has taken effect at H runs on to H + 1. -/
def State.abandonHand (s : State) : State :=
  match s.pair.hand with
  | none => s
  | some _ =>
    if s.pair.handAgreed && decide (s.pair.mode ≠ .handover) then s
    else
    let s := if !s.pair.handGive && s.pair.driving && !s.pair.token then s.drive false else s
    let was := s.pair.handAgreed
    let s : State := { s with pair.hand := none, pair.handAgreed := false, pair.handCode := 0 }
    let s := if was then s.role s.pair.before s.pair.lastCause else s
    s.fix .pairSwitch stState []

/-- A fatal fault: the token is released by hardware (R511). -/
def State.fatal (s : State) : State :=
  let had := s.pair.token
  let s := (s.abandonHand.letGo)
  if had then s.role .faulted 7 else s

/-- TOKEN_RELEASE: PD_FAB is lost (R511). -/
def execTokenRelease (s : State) : Host.Outcome State Fault Refusal := .next s.fatal

/-- The state a unit's health is judged in: that before an agreed handover. -/
def State.healthMode (s : State) : PairMode := if s.pair.mode = .handover then s.pair.before else s.pair.mode

/-- The unit is healthy (R521). -/
def State.healthy (s : State) : Bool :=
  s.pwr.mode = .run && ((s.healthMode = .standby && s.pair.inStep && !s.pair.stale) || s.healthMode = .active) && !s.pwr.avsFault &&
    decide (s.ident.profile.code = Config.mateProfile.toNat)

/-- The configuration is empty: no record was ever journalled (R501, R524). -/
def State.emptyConfig (s : State) : Bool := !s.jr.valid

/-- The unit may claim a released token (R510, R513, R524, R576). -/
def State.mayClaim (s : State) : Bool :=
  let p := s.pair
  p.claimHigh && !p.token && !p.driving && p.mode ≠ .faulted && !p.standbyHold && s.due p.claimAfter && s.boot.mode = .running &&
    p.bootWaitEnd.isNone && !(s.emptyConfig && p.mateUp && s.paired) &&
    (decide (p.claimCause ≠ 0) ||
      (s.paired && s.autoTake && !p.lockStandby && (p.mode = .standby || p.mode = .syncing || p.mode = .alone) &&
        (!(p.stale || (p.mode = .syncing && !s.emptyConfig)) || s.staleTake)))

/-- TOKEN_CLAIM: the line has read high for T_FREE (R510). -/
def execTokenClaim (s : State) : Host.Outcome State Fault Refusal :=
  .next (if !s.mayClaim then s
    else
      let stale := s.pair.claimCause = 0 ∧ (s.pair.stale ∨ s.pair.mode = .syncing)
      let cause := if s.pair.claimCause = 0 then 2 else s.pair.claimCause
      let s := State.drive { s with pair.claimCause := cause, pair.readback := true } true
      s.raiseIf (decide stale) { src := 0x146 })

/-- CLAIM_READBACK: 10 µs after driving (R510). -/
def execClaimReadback (high : Bool) (s : State) : Host.Outcome State Fault Refusal :=
  .next (if !s.pair.readback then s
    else if !high then { s with pair.readback := false, pair.token := true, pair.actOutNext := some true, pair.claimHigh := false }
    else
      let s := State.raise ({ s with pair.readback := false, pair.claimHigh := true }.drive false) { src := 0x144 }
      let take := s.pair.home && (!s.pair.mateUp || decide (s.pair.peer.state ≠ 3))
      { s with pair.actOutNext := if take then some true else none })

/-- ACT_CLAIM_CHANGE: a level as sampled. A unit that drives the line low sees its own level. -/
def execActClaimChange (high : Bool) (s : State) : Host.Outcome State Fault Refusal :=
  let slow := s.pair.claimCause = 1 ∧ !s.pair.home ∧ !s.pair.mateUp ∧ s.paired
  .next { s with pair.claimHigh := high,
                 pair.claimAfter := if high ∧ !s.pair.claimHigh ∧ slow then s.now + 8000 else s.pair.claimAfter }

/-- BOOT_WAIT_EXPIRY (R513): the home unit claims, the partner only after a further second of a high line. -/
def execBootWaitExpiry (s : State) : Host.Outcome State Fault Refusal :=
  .next (match s.pair.bootWaitEnd with
    | some t =>
      if s.due t then { s with pair.bootWaitEnd := none, pair.claimCause := 1, pair.claimAfter := if s.pair.home then s.now else s.now + 8000 }
      else s
    | none => s)

/-! The mate link -/

/-- The mate link comes up for pairing (R512, R514). -/
def State.mateRise (s : State) : State :=
  let s : State := { s with pair.mateUp := true, pair.badBlocks := 0, pair.peer := .none, pair.phaseSet := false }
  if s.paired && s.pair.mode = .alone then s.role (if s.pair.token then .active else .syncing) 8 else s

/-- The mate link goes down for pairing (R512, R516, R519, R522). -/
def State.mateFall (s : State) : State :=
  let s := { s with pair.mateUp := false, pair.phase := 0x8000_0000, pair.stepGood := 0 }.abandonHand.setInStep false
  let s : State := { s with pair.image := false, pair.dual := false }
  if !s.paired then s
  else if s.pair.mode = .syncing then s.role .alone 8
  else if s.pair.mode = .active ∨ s.pair.mode = .standby then s.setStale
  else s

/-- The pairing's view of the mate link follows its lanes. -/
def State.mateFollow (s : State) : State :=
  if s.mateLinkUp && !s.pair.mateUp && decide (s.pair.badBlocks < 8) then s.mateRise
  else if !s.mateLinkUp then (if s.pair.mateUp then { s.mateFall with pair.badBlocks := 0 } else { s with pair.badBlocks := 0 })
  else s

/-- MATE_LANE_CHANGE (R75, R76). -/
def execMateLaneChange (lane : Fin 4) (m : MateLane) (s : State) : Host.Outcome State Fault Refusal :=
  let old := s.mate lane.val
  let new : MateLane := { old with locked := m.locked, identified := m.identified, deskewed := m.deskewed, partner := m.partner, inverted := m.inverted }
  .next (if !s.mateOn || decide (old = new) then s
    else
      (State.raise { s with line.mates := s.line.mates.put MateLane.reset lane.val new } { src := 0x034, obj := lane.val }).mateFollow)

/-- The status block of a frame: words 0 to 14 and its CRC (Table 16.3). -/
def State.statusBlock (s : State) : List Word :=
  let p := s.pair
  let ws : List Word :=
    [mkWord [(63, 60, 1), (59, 59, p.home.toNat), (58, 58, p.token.toNat), (57, 57, p.actOut.toNat), (56, 56, s.healthy.toNat), (55, 53, p.mode.code),
        (52, 52, p.inStep.toNat), (47, 0, s.fnNat)],
      mkWord [(63, 24, p.mirrorRecv)], mkWord [(63, 60, p.handCode), (47, 0, p.hand.getD 0)], Config.serialNumber] ++ List.replicate 11 0
  ws ++ [BitVec.ofNat 64 (crc32 ws)]

/-- The replies whose message the standby has journalled and applied are sent (R519). -/
def State.acked (s : State) (seq : Nat) : State :=
  let done := s.pair.waits.filter fun w => decide (w.seq ≤ seq)
  let s : State := { s with pair.waits := s.pair.waits.filter (fun w => !decide (w.seq ≤ seq)), pair.mirrorAcked := Nat.max s.pair.mirrorAcked seq }
  let s := done.foldl (fun s w => s.answer w.cmd w.cls w.op w.status w.detail w.data) s
  match s.pair.syncSeq with
  | some q => if s.pair.token && decide (q ≤ seq) then s.syncDone else s
  | none => s

/-- The active starts a full synchronisation: the image's words are the firmware's own (R497, R520; log entry 57). -/
def State.startSync (s : State) : State :=
  let f := s.takeFree
  let s := State.mirror { f.2 with pair.stale := true } 0x0A [f.1]
  { s with pair.syncSeq := some s.pair.mirrorSent }

/-- H is at least 16 frames ahead (R522). -/
def State.handInTime (s : State) (h from_ : Nat) : Bool :=
  let d := fnAhead (BitVec.ofNat 48 from_) (BitVec.ofNat 48 h)
  decide (16 ≤ d) && decide (d < 2 ^ 47) && decide (fnAhead s.tick.fn (BitVec.ofNat 48 h) < 2 ^ 47)

/-- The switchover is agreed by this unit or its partner (R522). -/
def State.agree (s : State) (give : Bool) : State :=
  let s : State := { s with pair.handAgreed := true, pair.handGive := give, pair.handCode := if give then 2 else 0, pair.before := s.pair.mode }
  s.role .handover s.pair.handCause

/-- The handover code and FN of the partner's status block (R522). -/
def State.handReceive (s : State) (code h fnPeer : Nat) : State :=
  let p := s.pair
  match p.hand with
  | none =>
    if code = 1 ∧ p.mode = .active then
      if s.healthy && p.peer.healthy && s.handInTime h fnPeer then
        State.agree { s with pair.hand := some h, pair.handFrom := s.now, pair.handCause := 4 } true
      else { s with pair.handCode := 3 }
    else if code = 1 ∧ p.mode = .standby then
      { s with pair.hand := some h, pair.handGive := false, pair.handAgreed := false, pair.handFrom := s.now, pair.handCause := 3, pair.handCode := 0 }
    else if code ≠ 1 ∧ p.handCode = 3 then { s with pair.handCode := 0 }
    else s
  | some mine =>
    if p.handAgreed then s
    else if p.handGive then (if p.peer.healthy && s.healthy then s.agree true else s.abandonHand)
    else if code = 2 ∧ h = mine then (if s.healthy then s.agree false else s.abandonHand)
    else if code = 3 then s.abandonHand
    else s

/-- Frames in which both units hold the token by design (R525). -/
def State.handExempt (s : State) : Bool :=
  match s.pair.hand with
  | none => false
  | some h => s.pair.handAgreed && decide ((s.tick.fn - BitVec.ofNat 48 h + 1#48).toNat ≤ 2)

/-- Both units hold the token: both raise PAIR_DUAL_ACTIVE and the partner yields (R525). -/
def State.dualCheck (s : State) : State :=
  let both := s.pair.token && s.pair.peer.holds
  if !both then { s with pair.dual := false }
  else if s.handExempt || s.pair.dual then s
  else
    let s := State.raise { s with pair.dual := true } { src := 0x145 }
    if s.pair.home then s else { s.abandonHand with pair.actOutNext := some false }

/-- Both straps alike: the unit with the lower serial number acts as home (R507). -/
def State.strapCheck (s : State) : State :=
  if s.pair.strapConflict || s.pair.peer.home != s.pair.home then s
  else State.raise { s with pair.strapConflict := true, pair.home := decide (Config.serialNumber.toNat < s.pair.peer.w3.toNat) } { src := 0x147 }

/-- At boot, the mate link tells whether the unit claims (R513). -/
def State.bootDecide (s : State) : State :=
  match s.pair.bootWaitEnd with
  | none => s
  | some _ =>
    if s.pair.peer.state = 3 then { s with pair.bootWaitEnd := none, pair.claimCause := 0 }
    else if !s.pair.peer.holds && !s.pair.token then { s with pair.bootWaitEnd := none, pair.claimCause := 1 }
    else s

/-- What a sound status block brings about. -/
def State.statusGood (s : State) (ws : List Word) : State :=
  let s : State := { s with pair.badBlocks := 0, pair.peer := ⟨nth 0 ws 0, nth 0 ws 1, nth 0 ws 2, nth 0 ws 3⟩ }
  let s := s.mateFollow
  let s : State := { s with pair.peer := ⟨nth 0 ws 0, nth 0 ws 1, nth 0 ws 2, nth 0 ws 3⟩ }
  if !s.paired then s
  else
    let s := s.strapCheck.bootDecide
    let s := if s.pair.token then s.acked (fld (nth 0 ws 1) 63 24) else s
    let s := s.handReceive (fld (nth 0 ws 2) 63 60) (fld (nth 0 ws 2) 47 0) (fld (nth 0 ws 0) 47 0)
    let s := s.dualCheck
    let wants := decide (s.pair.peer.state = 1) || (decide (s.pair.peer.state = 2) && s.pair.stale)
    if s.pair.token && s.pair.mode = .active && wants && s.pair.syncSeq.isNone then s.startSync else s

/-- STATUS_BLOCK_RECEIVE: 15 words and a CRC; eight bad ones in a row take the link down for pairing (R514). -/
def execStatusBlockReceive (words : List Word) (s : State) : Host.Outcome State Fault Refusal :=
  .next (if !s.mateLinkUp then s
    else if words.length = 16 ∧ crc32 (words.take 15) = fld (nth 0 words 15) 31 0 then s.statusGood words
    else
      let n := Nat.min 8 (s.pair.badBlocks + 1)
      let s : State := { s with pair.badBlocks := n }
      if n = 8 ∧ s.pair.mateUp then s.mateFall else s)

/-- MIRROR_TIMEOUT: the acknowledgement of a message is 10 ms late (R519). -/
def execMirrorTimeout (s : State) : Host.Outcome State Fault Refusal :=
  let late := s.pair.waits.filter fun w => s.due w.limit
  .next (if late.isEmpty then s
    else
      let s := State.setStale { s with pair.waits := s.pair.waits.filter fun w => !s.due w.limit }
      late.foldl (fun s w => s.answer w.cmd w.cls w.op w.status w.detail w.data) s)

/-- PAIR_STEP: the phase error against the active, and the frames it has lain on its side of ±4 ns (R516). -/
def execPairStep (err : Int) (frames : Nat) (s : State) : Host.Outcome State Fault Refusal :=
  .next (if !s.pair.mateUp || !s.paired || s.pair.token then s
    else
      let inside := decide (-4000 ≤ err ∧ err ≤ 4000)
      let s : State := { s with pair.phase := BitVec.ofInt 32 err, pair.stepGood := if inside then frames else 0 }
      if inside then
        (if 8000 ≤ frames ∧ s.pair.mode = .standby ∧ s.pair.outOfStep = [] then s.setInStep true else s)
      else if 8 ≤ frames then s.setInStep false else s)

/-! Switchover -/

/-- The hand-back wait runs while the home unit is a healthy standby (R523). -/
def State.handbackWait (s : State) : State :=
  let on := s.paired && s.pair.home && s.pair.mode = .standby && s.revert && !s.pair.holdHandback && s.pair.hand.isNone && s.healthy
  match on, s.pair.wtrEnd with
  | true, none => { s with pair.wtrEnd := some (s.now + 8000 * s.wtrS) }
  | false, some _ => { s with pair.wtrEnd := none }
  | _, _ => s

/-- HANDBACK_WTR_EXPIRY (R523). -/
def execHandbackWtrExpiry (s : State) : Host.Outcome State Fault Refusal :=
  .next (match s.pair.wtrEnd with
    | none => s
    | some t =>
      if s.due t then
        { s with pair.wtrEnd := none, pair.hand := some (fnAdd s.tick.fn 16).toNat, pair.handGive := false, pair.handAgreed := false,
                 pair.handFrom := s.now, pair.handCause := 4, pair.handCode := 1 }
      else s)

/-- HANDOVER_TICK: the token moves at the ticks around H (Table 16.6). -/
def execHandoverTick (s : State) : Host.Outcome State Fault Refusal :=
  .next (match s.pair.hand with
    | none => s
    | some h =>
      if !s.pair.handAgreed then s
      else
        let f := s.tick.fn
        let hf : BitVec 48 := BitVec.ofNat 48 h
        if f = hf - 1 then (if s.pair.handGive then s else s.drive true)
        else if f = hf then
          if s.pair.handGive then
            ((s.setActOut false).role .standby s.pair.handCause).fix .pairSwitch stOk [BitVec.ofNat 64 h]
          else State.becomeActive ({ s with pair.token := true, pair.stale := false }.setActOut true) s.pair.handCause
        else if f = hf + 1 then
          let give := s.pair.handGive
          let s : State := { s with pair.hand := none, pair.handAgreed := false, pair.handCode := 0 }
          if give then { s.drive false with pair.token := false, pair.mirrorRecv := s.jr.mirrorGen } else s
        else s)

/-- The pair at a tick: ACT_OUT as asked, PAIR_FORCE, a handover that was not agreed or lost its health, the line held low, the wait, the status
block. -/
def State.pairTick (s : State) : State :=
  let s := match s.pair.actOutNext with
    | none => s
    | some b =>
      let s : State := { s with pair.actOutNext := none }
      if b then
        let s := s.setActOut true
        if s.pair.token then { s.becomeActive s.pair.claimCause with pair.claimCause := 0 } else s
      else s.letGo.role .standby 5
  let s := match s.pair.force with
    | none => s
    | some take =>
      let s : State := { s with pair.force := none }
      let s := if take then
          let s := (s.drive true).setActOut true
          State.becomeActive { s with pair.token := true, pair.readback := false, pair.actOutNext := none } 6
        else s
      s.fix .pairForce stOk [s.tick.fn.setWidth 64]
  let s := if s.pair.hand.isSome && ((!s.pair.handAgreed && decide (s.pair.handFrom + 4 < s.now)) ||
      (s.pair.handAgreed && decide (1 < (s.tick.fn - BitVec.ofNat 48 (s.pair.hand.getD 0)).toNat) &&
        !(s.healthy && s.pair.peer.healthy))) then s.abandonHand else s
  let held := s.paired && s.pair.mateUp && !s.pair.claimHigh && !s.pair.driving && !s.pair.peer.holds
  let s := match held, s.pair.claimLowSince with
    | false, _ => { s with pair.claimLowSince := none }
    | true, none => { s with pair.claimLowSince := some s.now }
    | true, some t => s.raiseIf (decide (s.now = t + 8000)) { src := 0x144 }
  let s := s.handbackWait
  if s.mateLinkUp then s.emit (.mate 0 s.statusBlock) else s

/-! Class 0x0C (Table 16.9) -/

def pairCfgMask : Word := maskOf [(63, 32)]

/-- PAIR_SET. -/
def State.pairSet (s : State) (c : Cmd) : State :=
  let w := c.word 1
  let bad := decide (3600 < fld w 59 48 ∨ fld w 47 32 < 100 ∨ 10000 < fld w 47 32)
  s.runOp c { plainOp 0x0C 0x01 SUP [0, pairCfgMask] with jrn := 2 } [(bad, 1)] none fun s =>
    if s.paired && !flag w 63 && s.pair.token && decide (s.pair.peer.state = 2) then refuse stState 0 s
    else
      let was := s.paired
      let s : State := { s with cfg.pair := w }
      .ok (if flag w 63 && !was then (if s.pair.mateUp then s.role (if s.pair.token then .active else .syncing) 0 else s)
        else if !flag w 63 && was then
          State.role { s.abandonHand with pair.claimCause := if s.pair.token then 0 else 1, pair.bootWaitEnd := none } .alone 0
        else s) []

def State.pairGet (s : State) (c : Cmd) : State := s.runOp c (plainOp 0x0C 0x02 OPR []) [] none fun s => .ok s [s.cfg.pair]

/-- PAIR_STATUS as a register. -/
def State.pairStat (s : State) : Half :=
  let p := s.pair
  mkHalf [(31, 29, p.mode.code), (28, 28, p.home.toNat), (27, 27, p.driving.toNat), (26, 26, p.actOut.toNat), (25, 25, p.claimHigh.toNat),
    (24, 24, p.mateUp.toNat), (23, 23, p.inStep.toNat), (22, 22, p.stale.toNat), (21, 21, (decide (p.peer.state = 3)).toNat),
    (20, 20, p.wtrEnd.isSome.toNat), (19, 16, p.lastCause), (15, 0, match p.wtrEnd with | some t => ceilDiv (t - s.now) 8000 | none => 0)]

def State.pairStatus (s : State) (c : Cmd) : State :=
  s.runOp c (plainOp 0x0C 0x03 OPR []) [] none fun s =>
    let p := s.pair
    .ok s [s.pairStat.setWidth 64, p.phase.setWidth 64, mkWord [(39, 0, if p.token then p.mirrorSent else p.mirrorRecv)],
      mkWord [(39, 0, if p.token then p.mirrorAcked else p.mirrorRecv)], mkWord [(31, 0, p.outOfStep.length)], p.peer.w0]

/-- PAIR_SWITCH (R522). -/
def State.pairSwitch (s : State) (c : Cmd) : State :=
  let asked := fld (c.word 1) 47 0
  let h := if asked = 0 then (fnAdd s.tick.fn 16).toNat else asked
  s.runOp c (plainOp 0x0C 0x04 OPR [0, maskOf [(47, 0)]]) [(!s.handInTime h s.fnNat, 1)] none fun s =>
    unlessFail s [(s.pair.hand.isSome, stBusy, 0), (decide (s.pair.mode ≠ .active) || !s.pair.mateUp || !s.pair.peer.healthy, stState, 0)]
      (.later { s with pair.hand := some h, pair.handGive := true, pair.handAgreed := false, pair.handFrom := s.now, pair.handCause := 3,
                       pair.handCode := 1 } .pairSwitch)

def State.pairHold (s : State) (c : Cmd) : State :=
  s.runOp c (plainOp 0x0C 0x05 OPR [0, maskOf [(1, 0)]]) [] none fun s =>
    .ok { s with pair.holdHandback := flag (c.word 1) 0, pair.lockStandby := flag (c.word 1) 1 } []

/-- PAIR_RESYNC: the standby starts again from an image (R520). -/
def State.pairResync (s : State) (c : Cmd) : State :=
  s.runOp c (plainOp 0x0C 0x06 SUP []) [] none fun s =>
    if s.pair.token then refuse stState 0 s
    else
      let s : State := { s with pair.resyncAsked := true, pair.image := false, pair.mirrorRecv := 0 }
      .ok (if s.paired && s.pair.mateUp then s.setStale else s) []

/-- PAIR_FORCE (R526). A release lets go at once; both are answered at the next tick. -/
def State.pairForce (s : State) (c : Cmd) : State :=
  let take := flag (c.word 1) 0
  s.runOp c (plainOp 0x0C 0x07 SUP [0, maskOf [(0, 0)]]) [] none fun s =>
    if take then
      if (s.pair.mateUp && decide (s.pair.peer.state = 3)) || s.pair.standbyHold then refuse stState 0 s
      else .later { s with pair.force := some true } .pairForce
    else
      let s := s.abandonHand
      let had := s.pair.token
      let s := s.letGo
      .later { (if had && s.paired then s.role .standby 6 else s) with pair.force := some false } .pairForce

def execPairSet (c : Cmd) (s : State) : Host.Outcome State Fault Refusal := packet c s (·.pairSet c)
def execPairGet (c : Cmd) (s : State) : Host.Outcome State Fault Refusal := packet c s (·.pairGet c)
def execPairStatus (c : Cmd) (s : State) : Host.Outcome State Fault Refusal := packet c s (·.pairStatus c)
def execPairSwitch (c : Cmd) (s : State) : Host.Outcome State Fault Refusal := packet c s (·.pairSwitch c)
def execPairHold (c : Cmd) (s : State) : Host.Outcome State Fault Refusal := packet c s (·.pairHold c)
def execPairResync (c : Cmd) (s : State) : Host.Outcome State Fault Refusal := packet c s (·.pairResync c)
def execPairForce (c : Cmd) (s : State) : Host.Outcome State Fault Refusal := packet c s (·.pairForce c)

end Sys2Proof.Machine
end

