-- ==== Sys2Proof/Machine/Vcat.lean ====
section
/-!
DEFINITION. Virtual concatenation and LCAS, and the VCAT commands of class 0x02 (05_trib_gfp_framing.md §5.8, 09_fathom_merge.md §9.5).
-/
namespace Sys2Proof.Machine

def State.vcat (s : State) (g : Nat) : VcatGroup := s.fram.vcat.look VcatGroup.reset g
def State.setVcat (s : State) (g : Nat) (x : VcatGroup) : State := { s with fram.vcat := s.fram.vcat.put VcatGroup.reset g x }
def State.vcatCfg (s : State) (g : Nat) : Word := s.cfg.fram.vcat.look vcatCfgReset g

def vcatWtr (w : Word) : Nat := fld w 39 32
def vcatHoldoff (w : Word) : Nat := fld w 31 24
def vcatLcas (w : Word) : Bool := flag w 16
def vcatType (w : Word) : Nat := fld w 10 8
def vcatMax (w : Word) : Nat := fld w 6 0

/-- Frames of a control multiframe (Table 5.8). -/
def vcatMulti (w : Word) : Nat := if vcatType w ≤ 1 then 16 else 128

/-- The hold J of a member (Table 9.1). -/
def memberJ (type : Nat) : Nat := if type ≤ 1 then 1 else 4

/-- A path EID is of a member type (Table 5.8). -/
def memberOf (type : Nat) (e : Eid) : Bool :=
  eidForm e && decide (eidKind e = .line) &&
    (if type = 0 then decide (eidLevel e = 0) && decide (hoType e = 0)
     else if type = 1 then decide (eidLevel e = 0) && decide (hoType e = 1)
     else if type = 2 then decide (eidLevel e = 1) && decide (loTut e = 0)
     else if type = 3 then decide (eidLevel e = 1) && decide (loTut e = 1) else false)

/-- CTRL values (R155). -/
def ctrlFixed : BitVec 4 := 0
def ctrlAdd : BitVec 4 := 1
def ctrlNorm : BitVec 4 := 2
def ctrlEos : BitVec 4 := 3
def ctrlIdle : BitVec 4 := 5
def ctrlDnu : BitVec 4 := 15

/-- A received CTRL: a value outside the list counts as IDLE. -/
def ctrlRead (c : BitVec 4) : BitVec 4 := if c = 0 ∨ c = 1 ∨ c = 2 ∨ c = 3 ∨ c = 15 then c else ctrlIdle

def Member.phased (m : Member) (p : Lcas) : Bool := decide (m.phase = p)

/-- A member has failed: it is not aligned or its path has SF (R156 to R158). -/
def State.memberDown (s : State) (m : Member) : Bool := !m.aligned || s.pathSfI (s.seen m.eid)

/-- A member carries payload towards the far end (R159). -/
def Member.carries (m : Member) : Bool := decide (m.ctrlTx = ctrlNorm ∨ m.ctrlTx = ctrlEos ∨ m.ctrlTx = ctrlFixed)

/-! The source (R157, R159, R160) -/

/-- The members in SQ order: steady, adding, removing; SQ and CTRL follow. The highest steady member that the far sink reports OK sends EOS
(log entry 35). -/
def resequence (lcas : Bool) (l : List Member) : List Member :=
  let l := l.filter (·.phased .steady) ++ l.filter (·.phased .adding) ++ l.filter (·.phased .removing)
  let l := (List.range l.length).zipWith (fun i m => { m with sq := i }) l
  let top := (l.filter fun m => m.phased .steady && m.mstRx).getLast?.map (·.sq)
  let ctrl (m : Member) : BitVec 4 :=
    if m.phased .removing then ctrlIdle
    else if !lcas then ctrlFixed
    else if m.phased .adding then ctrlAdd
    else if !m.mstRx then ctrlDnu
    else if top = some m.sq then ctrlEos else ctrlNorm
  l.map fun m => { m with ctrlTx := ctrl m }

/-- The group's members are put in order again. -/
def State.vcatOrder (s : State) (g : Nat) : State :=
  let x := s.vcat g
  s.setVcat g { x with members := resequence (vcatLcas (s.vcatCfg g)) x.members }

/-- The journalled membership follows the members. -/
def State.vcatKeep (s : State) (g : Nat) : State :=
  ({ s with cfg.fram.members := s.cfg.fram.members.put [] g ((s.vcat g).members.map (·.eid)) } : State)

/-- A removal completes: the member and its blocks go (R160, R282). -/
def State.memberGone (s : State) (g : Nat) (e : Eid) (lcas : Bool := true) : State :=
  let x := s.vcat g
  let s := ((s.setVcat g { x with members := x.members.filter fun m => decide (m.eid ≠ e) }).vcatOrder g).vcatKeep g
  let s : State := { s with align.members := s.align.members.put [] e.toNat [] }
  (s.journal 2).raiseIf lcas { src := 0x056, code := 1, obj := e.toNat }

/-- The far sink's word: MST by SQ and RS-Ack. -/
def State.vcatSource (s : State) (g : Nat) (mst : List (Nat × Bool)) (toggled : Bool) : State :=
  let x := s.vcat g
  let heard := x.members.map fun m => match mst.find? (fun r => decide (r.1 = m.sq)) with | some r => { m with mstRx := r.2 } | none => m
  let added := heard.filter fun m => m.phased .adding && m.mstRx
  let now := heard.filter (·.phased .steady) ++ added.map (fun m => { m with phase := .steady }) ++
    heard.filter fun m => !m.phased .steady && !(m.phased .adding && m.mstRx)
  let s := (s.setVcat g { x with members := now }).vcatOrder g
  let s := if added.isEmpty then s else s.vcatKeep g
  let s := added.foldl (fun s m => s.raise { src := 0x056, code := 0, obj := m.eid.toNat }) s
  if toggled then ((s.vcat g).members.filter (·.phased .removing)).foldl (fun s m => s.memberGone g m.eid) s else s

/-! The sink (R155 to R158, R303) -/

/-- Frames by which lag a is behind lag b; none when it is ahead of it. -/
def behind (a b : Nat) : Option Nat := let d := (a + 4096 - b) % 4096; if d < 2048 then some d else none

/-- The lag of a group's earliest member. -/
def earliest (l : List Member) : Option Nat :=
  let lags := l.filterMap (·.lag)
  lags.find? fun a => lags.all fun b => (behind b a).isSome

/-- One control multiframe of a member's alignment (R303). -/
def Member.alignStep (m : Member) (first : Option Nat) (dmax : Nat) : Member :=
  match first, m.lag with
  | some f, some a =>
    match behind a f with
    | none => { m with aligned := false, run := 0, changes := 0 }
    | some off =>
      let same := decide (0 < m.run) && decide (off = m.offset)
      let run := if same then m.run + 1 else 1
      let changes := if same then 0 else m.changes + 1
      { m with offset := off, run := run, changes := changes,
               aligned := if dmax < off then false else if 2 ≤ run then true else if 2 ≤ changes then false else m.aligned }
  | _, _ => { m with aligned := false, run := 0, changes := 0 }

/-- The members by which the far source numbers its sequence. -/
def sequenceOf (l : List Member) : List (Eid × Nat) :=
  (l.filter fun m => decide (m.ctrlRx = ctrlNorm ∨ m.ctrlRx = ctrlEos ∨ m.ctrlRx = ctrlDnu)).map fun m => (m.eid, m.sqRx)

/-- A condition of a group without LCAS: declared at once, cleared when absent for 3 control multiframes (R157). -/
def latchFor (on cond : Bool) (off : Option Nat) (now span : Nat) : Bool × Option Nat :=
  if cond then (true, none)
  else if !on then (false, none)
  else
    let t := off.getD now
    if t + span ≤ now then (false, none) else (true, some t)

def State.vcatDefects (s : State) (g : Nat) : List (Nat × Bool × Bool) :=
  let x := s.vcat g
  [(0x31, x.sqm, false), (0x32, x.fail, false)]

def State.reportVcat (s : State) (g : Nat) : State :=
  let x := s.vcat g
  let cs := defectChanges (s.vcatDefects g) x.reported
  (s.setVcat g { x with reported := applyChanges cs x.reported }).raiseChanges 0x055 g cs

/-- A member's state at the sink of an LCAS group: MST goes to OK at once when it has never failed, to FAIL at once without HOLDOFF (R158). -/
def State.sinkMember (s : State) (w : Word) (m : Member) : Member :=
  let bad := s.memberDown m || !m.lastCrcOk
  let m := { m with failSince := if bad then some (m.failSince.getD s.now) else none,
                    cleanSince := if bad then none else some (m.cleanSince.getD s.now) }
  if bad then (if m.mstTx && decide (vcatHoldoff w = 0) then { m with mstTx := false, fell := true } else m)
  else if !m.mstTx && (!m.fell || decide (vcatWtr w = 0)) then { m with mstTx := true } else m

/-- A group judged at one moment: defects without LCAS, MST with it. -/
def State.vcatJudge (s : State) (g : Nat) : State :=
  let x := s.vcat g
  let w := s.vcatCfg g
  let lcas := vcatLcas w
  let span := 3 * vcatMulti w
  let sqm := latchFor x.sqm (!lcas && x.members.any fun m => m.lag.isSome && decide (m.sqRx ≠ m.sq)) x.sqmOff s.now span
  let fail := latchFor x.fail (!lcas && x.members.any s.memberDown) x.failOff s.now span
  (s.setVcat g { x with members := if lcas then x.members.map (s.sinkMember w) else x.members, sqm := sqm.1, sqmOff := sqm.2,
                        fail := fail.1, failOff := fail.2 }).reportVcat g

/-- Every group, once per frame. -/
def State.vcatTick (s : State) : State := s.fram.vcat.foldl (fun s x => s.vcatJudge x.1) s

/-- VCAT_CONTROL_PACKET. -/
def State.vcatPacket (s : State) (p : VcatRx) : State :=
  let g := p.group.val
  let x := s.vcat g
  if !(x.members.any fun m => decide (m.eid = p.eid)) then s
  else if !p.crcOk then
    (((s.setVcat g { x with members := x.members.map fun m => if m.eid = p.eid then { m with lastCrcOk := false } else m }).count 0x050A g 1).vcatJudge g)
  else
    let w := s.vcatCfg g
    let lag := (s.now + 4096 - p.mfi.val) % 4096
    let read := x.members.map fun m =>
      if m.eid = p.eid then { m with lastCrcOk := true, sqRx := p.sq.val, ctrlRx := ctrlRead p.ctrl, gid := p.gid, lag := some lag } else m
    let first := earliest read
    let done := read.map fun m => if m.eid = p.eid then m.alignStep first (s.cfg.mark.vcatDmax.look 16 g) else m
    let was := (x.members.find? fun m => decide (m.eid = p.eid)).map (·.aligned)
    let is := (done.find? fun m => decide (m.eid = p.eid)).map fun m => (m.aligned, m.offset)
    let toggled := p.rsAck != x.rsAckRx
    let seq := decide (sequenceOf x.members ≠ sequenceOf done)
    let s := s.setVcat g { x with members := done, rsAckRx := p.rsAck, rsAckTx := x.rsAckTx != (seq && vcatLcas w) }
    let s := match was, is with
      | some a, some b => s.raiseIf (a != b.1)
          { src := 0x090, code := 16 * a.toNat + b.1.toNat, aux := mkFld [(22, 22, 1), (7, 0, b.2)], obj := p.eid.toNat }
      | _, _ => s
    (if vcatLcas w then s.vcatSource g p.mst toggled else s).vcatJudge g
where
  mkFld (fs : List (Nat × Nat × Nat)) : Nat := (mkWord fs).toNat

def execVcatControlPacket (p : VcatRx) (s : State) : Host.Outcome State Fault Refusal := .next (s.vcatPacket p)

/-- LCAS_HOLDOFF_EXPIRY (R158). -/
def execLcasHoldoffExpiry (group : Fin 4096) (eid : Eid) (s : State) : Host.Outcome State Fault Refusal :=
  let x := s.vcat group.val
  let w := s.vcatCfg group.val
  let due (m : Member) : Bool := decide (m.eid = eid) && m.mstTx && vcatLcas w &&
    (match m.failSince with | some t => s.due (t + 80 * vcatHoldoff w) | none => false)
  .next (s.setVcat group.val { x with members := x.members.map fun m => if due m then { m with mstTx := false, fell := true } else m })

/-- LCAS_WTR_EXPIRY (R158). -/
def execLcasWtrExpiry (group : Fin 4096) (eid : Eid) (s : State) : Host.Outcome State Fault Refusal :=
  let x := s.vcat group.val
  let w := s.vcatCfg group.val
  let due (m : Member) : Bool := decide (m.eid = eid) && !m.mstTx && vcatLcas w &&
    (match m.cleanSince with | some t => s.due (t + 8000 * vcatWtr w) | none => false)
  .next (s.setVcat group.val { x with members := x.members.map fun m => if due m then { m with mstTx := true } else m })

/-- LCAS_REMOVE_TIMEOUT (R160): each removal of the group that has waited 1 s. -/
def execLcasRemoveTimeout (group : Fin 4096) (s : State) : Host.Outcome State Fault Refusal :=
  let g := group.val
  .next (((s.vcat g).members.filter fun m => m.phased .removing && s.due m.removeEnd).foldl
    (fun s m => (s.memberGone g m.eid).raise { src := 0x057, obj := m.eid.toNat }) s)

/-! Reassembly (R156 to R158) -/

/-- The members whose payload the sink puts together, in SQ order; none while the whole payload is all ones with QB. -/
def State.vcatSink (s : State) (g : Nat) : Option (List Eid) :=
  let x := s.vcat g
  if vcatLcas (s.vcatCfg g) then
    let l := x.members.filter fun m => m.aligned && decide (m.ctrlRx = ctrlNorm ∨ m.ctrlRx = ctrlEos)
    some ((List.range 64).flatMap fun i => (l.filter fun m => decide (m.sqRx = i)).map (·.eid))
  else if x.sqm || x.fail then none else some (x.members.map (·.eid))

/-! Commands -/

def vcatMask : Word := maskOf [(11, 0)]
def Cmd.chan (c : Cmd) : Nat := fld (c.word 0) 11 0

/-- The faults of a VCAT_CFG. -/
def vcatBad (w : Word) : Bool :=
  decide (60 < vcatWtr w) || decide (100 < vcatHoldoff w) || decide (4 ≤ vcatType w) || decide (vcatMax w = 0 ∨ 64 < vcatMax w)

/-- VCAT_SET. -/
def State.vcatSet (s : State) (c : Cmd) : State :=
  let g := c.chan
  let w := c.word 1
  s.runOp c (setting 2 0x29 OPR [vcatMask, maskOf [(39, 24), (16, 16), (10, 8), (6, 0)]]) [(vcatBad w, 1)] none fun s =>
    if decide (vcatType (s.vcatCfg g) ≠ vcatType w) && !(s.vcat g).members.isEmpty then refuse stState 0 s
    else
      let turned := vcatLcas (s.vcatCfg g) && !vcatLcas w
      let s : State := { s with cfg.fram.vcat := s.cfg.fram.vcat.put vcatCfgReset g w }
      let x := s.vcat g
      let s := if turned then s.setVcat g { x with members := x.members.map fun m => if m.phased .adding then { m with phase := .steady } else m } else s
      .ok ((s.vcatOrder g).vcatJudge g) []

def State.vcatGet (s : State) (c : Cmd) : State :=
  s.runOp c (plainOp 2 0x2A OPR [vcatMask]) [] none fun s => .ok s [s.vcatCfg c.chan]

/-- Another record or binding drives the egress of a path (R187). -/
def State.egressTaken (s : State) (b : BCfg) (e : Eid) : Bool :=
  let mine := eidPositions e 1
  (b.conns.any fun x => !x.2.isFree && (x.2.driven b).any mine.contains) || (s.bindingPositions b).any mine.contains

/-- VCAT_MEMBER_ADD (R154, R159, R163, R282, R283). A member that is taken already, or a path that does not exist, is refused with STATE; an
egress that is driven, with BLOCKED (log entry 34). -/
def State.memberAdd (s : State) (c : Cmd) : State :=
  let g := c.chan
  let w := s.vcatCfg g
  let e : Eid := BitVec.ofNat 32 (fld (c.word 1) 31 0)
  s.runOp c (setting 2 0x2B OPR [vcatMask, maskOf [(31, 0)]]) [(!memberOf (vcatType w) e, 1)] none fun s =>
    let x := s.vcat g
    let n := ringBlocks (storedRate e 1) (s.cfg.mark.vcatDmax.look 16 g + memberJ (vcatType w))
    if s.isMember e || s.isCarrier e || !s.eidExists s.cfg.b e 1 true then refuse stState 0 s
    else if s.either fun b => s.egressTaken b e then refuse stBlocked 0 s
    else if vcatMax w ≤ x.members.length ∨ 16384 ≤ (s.cfg.fram.members.map fun x => x.2.length).sum then refuse stNoResource 0 s
    else if s.fathomFree < n then refuse stNoResource 0 s
    else
      let r := s.takeBlocks n
      let s : State := { r.2 with align.members := r.2.align.members.put [] e.toNat r.1 }
      let m := Member.make e 0 ctrlIdle (if vcatLcas w then .adding else .steady)
      let s := (((s.setVcat g { x with members := x.members ++ [m] }).vcatOrder g).vcatKeep g).noteFree
      if vcatLcas w then .pend s [] else .ok (s.vcatJudge g) []

/-- VCAT_MEMBER_REMOVE (R160). -/
def State.memberRemove (s : State) (c : Cmd) : State :=
  let g := c.chan
  let e : Eid := BitVec.ofNat 32 (fld (c.word 1) 31 0)
  let lcas := vcatLcas (s.vcatCfg g)
  s.runOp c { cls := 2, op := 0x2C, priv := OPR, masks := [vcatMask, maskOf [(31, 0)]], mirror := 2 } [(!eidForm e, 1)] none fun s =>
    let x := s.vcat g
    if !(x.members.any fun m => decide (m.eid = e) && !m.phased .removing) then refuse stState 0 s
    else if lcas then
      .pend ((s.setVcat g { x with members := x.members.map fun m =>
        if m.eid = e then { m with phase := .removing, removeEnd := s.now + 8000 } else m }).vcatOrder g) []
    else if s.journalFull 2 then refuse stNoResource 0xFF s
    else .ok ((s.memberGone g e false).vcatJudge g) []

/-- VCAT_STATUS. -/
def State.vcatStatus (s : State) (c : Cmd) : State :=
  let g := c.chan
  let x := s.vcat g
  s.runOp c (plainOp 2 0x2D TEN [vcatMask]) [] (s.carrierOwn c fun f => x.members.any fun m => decide (m.eid = f)) fun s =>
    .ok s (mkWord [(6, 0, x.members.length), (14, 8, (x.members.filter (·.carries)).length), (22, 16, (x.members.filter (·.mstRx)).length),
        (23, 23, x.sqm.toNat), (24, 24, x.fail.toNat)] ::
      x.members.map fun m => mkWord [(63, 32, m.eid.toNat), (31, 26, m.sq), (25, 22, m.ctrlTx.toNat), (21, 18, m.ctrlRx.toNat),
        (17, 17, m.mstRx.toNat), (16, 16, m.mstTx.toNat)])

def execVcatSet (c : Cmd) (s : State) : Host.Outcome State Fault Refusal := packet c s (·.vcatSet c)
def execVcatGet (c : Cmd) (s : State) : Host.Outcome State Fault Refusal := packet c s (·.vcatGet c)
def execVcatMemberAdd (c : Cmd) (s : State) : Host.Outcome State Fault Refusal := packet c s (·.memberAdd c)
def execVcatMemberRemove (c : Cmd) (s : State) : Host.Outcome State Fault Refusal := packet c s (·.memberRemove c)
def execVcatStatus (c : Cmd) (s : State) : Host.Outcome State Fault Refusal := packet c s (·.vcatStatus c)

end Sys2Proof.Machine
end

