-- ==== Sys2Proof/Machine/Gfp.lean ====
section
/-!
DEFINITION. GFP-F delineation, and the GFP commands of class 0x02 (05_trib_gfp_framing.md §5.7).
-/
namespace Sys2Proof.Machine

def State.gfp (s : State) (ch : Nat) : GfpChan := s.fram.gfp.look GfpChan.reset ch
def State.setGfp (s : State) (ch : Nat) (x : GfpChan) : State := { s with fram.gfp := s.fram.gfp.put GfpChan.reset ch x }
def State.gfpCfg (s : State) (ch : Nat) : Word := s.cfg.fram.gfp.look gfpCfgReset ch
def State.carrier (s : State) (ch : Nat) : Option Carrier := s.cfg.fram.gfpBind.look none ch

def gfpMax (w : Word) : Nat := fld w 47 32
def gfpUpi (w : Word) : Nat := fld w 31 24
def gfpFcsMode (w : Word) : Nat := fld w 19 18
def gfpTxFcs (w : Word) : Bool := flag w 17
def gfpCorr (w : Word) : Bool := flag w 16
def gfpDelta (w : Word) : Nat := fld w 11 8

/-- The CRC-16 of the two header fields: x^16 + x^12 + x^5 + 1 from 0 (R147; of the tHEC, log entry 36). -/
def hec16 (v : Nat) : Nat := crcOver 16 0x1021 0 (octetsOf 2 v)

/-- The pFCS of a payload (log entry 36). -/
def pFcs (l : List Byte) : Nat := 0xFFFF_FFFF - crcOver 32 0x04C1_1DB7 0xFFFF_FFFF l

/-- What the core header is XORed with (R147). -/
def coreMask : BitVec 32 := 0xB6AB_31E0

/-- A descrambled core header has a correct cHEC. -/
def coreGood (h : BitVec 32) : Bool := decide (hec16 (fld h 31 16) = fld h 15 0)

/-- A core header with one bit in error, corrected. -/
def coreFix (h : BitVec 32) : Option (BitVec 32) :=
  ((List.range 32).map fun i => h ^^^ BitVec.ofNat 32 (2 ^ i)).find? coreGood

/-- One octet through x^43 + 1: the descrambler's register holds what was received, the scrambler's what was sent (R149). -/
def scrOctet (send : Bool) (reg : BitVec 43) (b : Byte) : BitVec 43 × Byte :=
  (List.range 8).foldl (fun (a : BitVec 43 × Byte) i =>
    let inb := b.getLsbD (7 - i)
    let out := inb != a.1.getLsbD 42
    let line := if send then out else inb
    ((a.1 <<< 1) ||| (if line then 1 else 0), (a.2 <<< 1) ||| (if out then 1 else 0))) (reg, 0)

def scrOctets (send : Bool) : BitVec 43 → List Byte → BitVec 43 × List Byte
  | reg, [] => (reg, [])
  | reg, b :: l =>
    let x := scrOctet send reg b
    let r := scrOctets send x.1 l
    (r.1, x.2 :: r.2)

/-- The carrier of a channel brings all ones with QB (Table 4.10, R157). -/
def State.carrierDown (s : State) : Carrier → Bool
  | .path e => s.pathDown (s.seen e)
  | .group g => (s.vcatSink g).isNone

/-- Client signal fail begins or ends (R152). -/
def State.setCsf (s : State) (ch : Nat) (on : Bool) : State :=
  let x := s.gfp ch
  (s.setGfp ch { x with csf := on }).raiseIf (x.csf != on) { src := 0x054, clr := !on, code := 0x22, obj := ch }

/-- Steps 4 to 8 of R150, on a descrambled payload area. -/
def State.gfpClassify (s : State) (ch : Nat) (area : List Byte) : State :=
  let w := s.gfpCfg ch
  let type := at_ area 0 2
  let pti := type / 2 ^ 13
  let pfi := decide (type / 2 ^ 12 % 2 = 1)
  let exi := type / 2 ^ 8 % 16
  let upi := type % 2 ^ 8
  if hec16 type ≠ at_ area 2 2 then s.count 0x0503 ch 1
  else if exi ≠ 0 then s.count 0x0504 ch 1
  else if pti = 0 ∧ upi = gfpUpi w then
    let body := area.drop 4
    let n := body.length - 4
    let info := if pfi then body.take n else body
    let breaks := (decide (gfpFcsMode w = 1) && !pfi) || (decide (gfpFcsMode w = 2) && pfi)
    let fails := pfi && (decide (body.length < 4) || decide (pFcs info ≠ natOfOctets (body.drop n)))
    if breaks || fails then s.count 0x0505 ch 1
    else
      match s.chanQueue ch with
      | none => s
      | some q => ((s.count 0x0500 ch 1).setCsf ch false).storeFrame q (decide ((s.cfg.b.queue q).kind = 3)) info
  else if pti = 4 ∧ (upi = 1 ∨ upi = 2) then
    let s := s.setGfp ch { s.gfp ch with lastUpi := BitVec.ofNat 8 upi, csfEnd := s.now + 24000 }
    s.setCsf ch true
  else s.count 0x0506 ch 1

/-- A frame whose header stands in SYNC (R150, R151). -/
def State.gfpFrame (s : State) (ch : Nat) (pli : Nat) (area : List Byte) (qb : Bool) : State :=
  if qb then s.count 0x0507 ch 1
  else if pli = 0 then s
  else if pli ≤ 3 then s.count 0x0501 ch 1
  else if gfpMax (s.gfpCfg ch) < pli then s.count 0x0502 ch 1
  else s.gfpClassify ch area

/-- A header is taken: its payload area passes the descrambler. -/
def State.gfpTake (s : State) (ch : Nat) (st : Framer) (count : Nat) (pli : Nat) (octets : List Byte) (qb : Bool) : State :=
  let x := s.gfp ch
  let d := scrOctets false x.descr (octets.take pli)
  let since := if st = .sync ∧ x.state ≠ .sync then s.now else x.since
  let s := s.setGfp ch { x with state := st, count := count, since := since, descr := d.1 }
  if st = .sync then s.gfpFrame ch pli d.2 qb else s

/-- GFP_FRAME_RECEIVE (Table 5.7). -/
def State.gfpReceive (s : State) (f : GfpRx) : State :=
  let ch := f.chan.val
  match s.carrier ch with
  | none => s
  | some c =>
    let down := s.carrierDown c
    let raw := if down then BitVec.allOnes 32 else f.header
    let octets : List Byte := if down then List.replicate f.octets.length 0xFF else f.octets
    let qb := f.qb || down
    let h := raw ^^^ coreMask
    let x := s.gfp ch
    let w := s.gfpCfg ch
    match x.state with
    | .hunt => if coreGood h then s.gfpTake ch .presync 0 (fld h 31 16) octets qb else s
    | .presync =>
      if coreGood h then
        let n := x.count + 1
        s.gfpTake ch (if gfpDelta w ≤ n then .sync else .presync) n (fld h 31 16) octets qb
      else s.setGfp ch { x with state := .hunt, count := 0 }
    | .sync =>
      if coreGood h then s.gfpTake ch .sync x.count (fld h 31 16) octets qb
      else
        match (if gfpCorr w then coreFix h else none) with
        | some h' => (s.count 0x0508 ch 1).gfpTake ch .sync x.count (fld h' 31 16) octets qb
        | none => s.setGfp ch { x with state := .hunt, count := 0, since := s.now }

def execGfpFrameReceive (f : GfpRx) (s : State) : Host.Outcome State Fault Refusal := .next (s.gfpReceive f)

/-- GFP_LFD (R152): 10 ms out of SYNC, or in SYNC. -/
def execGfpLfd (chan : Fin 4096) (s : State) : Host.Outcome State Fault Refusal :=
  let ch := chan.val
  let x := s.gfp ch
  let lost := decide (x.state ≠ .sync)
  .next (if (s.carrier ch).isNone || x.lfd == lost || !s.due (x.since + 80) then s
    else (s.setGfp ch { x with lfd := lost }).raise { src := 0x054, clr := !lost, code := 0x21, obj := ch })

/-- GFP_CSF_TIMEOUT (R152). -/
def execGfpCsfTimeout (chan : Fin 4096) (s : State) : Host.Outcome State Fault Refusal :=
  let x := s.gfp chan.val
  .next (if x.csf && s.due x.csfEnd then s.setCsf chan.val false else s)

/-- A client frame as a GFP frame, before the scrambler: core header, payload area (R147, R153). -/
def gfpHeader (pli : Nat) : List Byte := octetsOf 4 ((BitVec.ofNat 32 (pli * 65536 + hec16 pli)) ^^^ coreMask).toNat
def gfpArea (w : Word) (info : List Byte) : List Byte :=
  let type := (mkHalf [(12, 12, (gfpTxFcs w).toNat), (7, 0, gfpUpi w)]).toNat
  octetsOf 2 type ++ octetsOf 2 (hec16 type) ++ info ++ (if gfpTxFcs w then octetsOf 4 (pFcs info) else [])

/-- The next client frame of a queue towards its channel, and the queue without it. -/
def State.nextClient (s : State) (q : Nat) : Option (List Byte × State) :=
  let x := s.queue q
  let kind3 := decide ((s.cfg.b.queue q).kind = 3)
  match (if kind3 then x.rxStore else x.txStore) with
  | [] => none
  | f :: rest => if s.queueOn q then some (f, s.setQueue q (if kind3 then { x with rxStore := rest } else { x with txStore := rest })) else none

/-- GFP_FRAME_TRANSMIT (R153): a client frame, or an idle frame. -/
def State.gfpTransmit (s : State) (ch : Nat) : State :=
  let w := s.gfpCfg ch
  let idle (s : State) : State := s.emit (.gfpFrame ch (gfpHeader 0))
  if (s.carrier ch).isNone then s
  else
    match (s.chanQueue ch).bind s.nextClient with
    | none => idle s
    | some (info, s) =>
      let area := gfpArea w info
      if gfpMax w < area.length then idle (s.count 0x0509 ch 1)
      else
        let x := s.gfp ch
        let r := scrOctets true x.scr area
        (s.setGfp ch { x with scr := r.1 }).emit (.gfpFrame ch (gfpHeader area.length ++ r.2))

def execGfpFrameTransmit (chan : Fin 4096) (s : State) : Host.Outcome State Fault Refusal := .next (s.gfpTransmit chan.val)

/-! Commands -/

/-- The faults of a GFP_CFG. -/
def gfpBad (w : Word) : Bool :=
  decide (gfpMax w < 64 ∨ 9600 < gfpMax w) || decide (gfpFcsMode w = 3) || decide (gfpDelta w = 0 ∨ 7 < gfpDelta w)

def State.gfpSet (s : State) (c : Cmd) : State :=
  s.runOp c (setting 2 0x25 OPR [vcatMask, maskOf [(47, 24), (19, 16), (11, 8)]]) [(gfpBad (c.word 1), 1)] none fun s =>
    .ok { s with cfg.fram.gfp := s.cfg.fram.gfp.put gfpCfgReset c.chan (c.word 1) } []

def State.gfpGet (s : State) (c : Cmd) : State :=
  s.runOp c (plainOp 2 0x26 OPR [vcatMask]) [] none fun s => .ok s [s.gfpCfg c.chan]

/-- The carrier a GFP_BIND names. -/
def bindCarrier (w : Word) : Carrier := if flag w 63 then .group (fld w 43 32) else .path (BitVec.ofNat 32 (fld w 31 0))

/-- GFP_BIND (R146, R163). An unbound channel has nothing to unbind: STATE. A path that does not exist is refused with STATE, one whose egress is
driven with BLOCKED (log entry 34). -/
def State.gfpBindOp (s : State) (c : Cmd) : State :=
  let ch := c.chan
  let w := c.word 1
  let e : Eid := BitVec.ofNat 32 (fld w 31 0)
  let badPath := !(eidForm e && decide (eidKind e = .line) && decide (eidLevel e = 0))
  let bad := if flag w 62 then false else if flag w 63 then decide (fld w 31 0 ≠ 0) else decide (fld w 43 32 ≠ 0) || badPath
  s.runOp c (setting 2 0x27 OPR [vcatMask, maskOf [(63, 62), (43, 0)]]) [(bad, 1)] none fun s =>
    let k := bindCarrier w
    let fresh (s : State) : State := s.setGfp ch GfpChan.reset
    if flag w 62 then
      if (s.carrier ch).isNone then refuse stState 0 s
      else .ok (fresh { s with cfg.fram.gfpBind := s.cfg.fram.gfpBind.put none ch none }) []
    else if (s.carrier ch).isSome || s.cfg.fram.gfpBind.any fun x => decide (x.2 = some k) then refuse stState 0 s
    else if !flag w 63 && !s.eidExists s.cfg.b e 1 true then refuse stState 0 s
    else if !flag w 63 && s.either fun b => s.egressTaken b e then refuse stBlocked 0 s
    else .ok ((fresh { s with cfg.fram.gfpBind := s.cfg.fram.gfpBind.put none ch (some k) }).setGfp ch { GfpChan.reset with since := s.now }) []

/-- GFP_STATUS. -/
def State.gfpStatus (s : State) (c : Cmd) : State :=
  let ch := c.chan
  let own (f : Eid) : Bool :=
    match s.carrier ch with
    | some (.path e) => decide (f = e)
    | some (.group g) => (s.vcat g).members.any fun m => decide (m.eid = f)
    | none => false
  s.runOp c (plainOp 2 0x28 TEN [vcatMask]) [] (s.carrierOwn c own) fun s =>
    let x := s.gfp ch
    .ok s [mkWord [(1, 0, x.state.code), (2, 2, x.lfd.toNat), (3, 3, x.csf.toNat), (11, 4, x.lastUpi.toNat)]]

def execGfpSet (c : Cmd) (s : State) : Host.Outcome State Fault Refusal := packet c s (·.gfpSet c)
def execGfpGet (c : Cmd) (s : State) : Host.Outcome State Fault Refusal := packet c s (·.gfpGet c)
def execGfpBind (c : Cmd) (s : State) : Host.Outcome State Fault Refusal := packet c s (·.gfpBindOp c)
def execGfpStatus (c : Cmd) (s : State) : Host.Outcome State Fault Refusal := packet c s (·.gfpStatus c)

end Sys2Proof.Machine
end

