-- ==== Sys2Proof/Machine/Timing.lean ====
section
/-!
DEFINITION. The timing core: candidates, quality levels, the selector and the SYS DPLL, holdover, 1PPS, clock outputs, and their commands
(11_timing.md §11.1 to §11.6, §11.8, §11.10).
-/
namespace Sys2Proof.Machine

/-! Records -/

def timPrio (w : Word) : Nat := fld w 61 56
def timQlVal (w : Word) : Nat := fld w 55 52
def timQlFixed (w : Word) : Bool := flag w 51
def timFreqLim (w : Word) : Nat := fld w 50 48
def timQual (w : Word) : Nat := fld w 47 38
def timHit (w : Word) : Nat := fld w 37 28
def timCable (w : Word) : Nat := fld w 23 8

def State.timSys (s : State) : Word := s.cfg.tim.sys
def sysManual (w : Word) : Nat := fld w 63 56
def sysManualMode (w : Word) : Bool := flag w 55
def sysQlEn (w : Word) : Bool := flag w 54
def sysQlOpt (w : Word) : Bool := flag w 53
def sysWtr (w : Word) : Nat := fld w 47 36
def sysBw (w : Word) : Nat := fld w 35 32
def sysOutBw (w : Word) : Nat := fld w 31 28
def sysPtpBw (w : Word) : Nat := fld w 27 24
def sysOwnQl (w : Word) : Nat := fld w 23 20
def sysHoldAvg (w : Word) : Nat := fld w 19 8
def sysOutSrc (w : Word) : Nat := fld w 7 0

def State.cand (s : State) (c : Nat) : Cand := s.tim.cands.look Cand.reset c
def State.setCand (s : State) (c : Nat) (x : Cand) : State := { s with tim.cands := s.tim.cands.put Cand.reset c x }

/-- The REFIN of a candidate, if it is one; a 1PPS input; time-capable (Table 11.2, R340). -/
def refinOf (c : Nat) : Option Nat := if 104 ≤ c ∧ c ≤ 111 then some (c - 104) else none
def State.isPps (s : State) (c : Nat) : Bool :=
  (refinOf c).isSome && decide (timType (s.timIn c) = 1 ∨ timType (s.timIn c) = 2)
def State.timeCapable (s : State) (c : Nat) : Bool := decide (c = 112) || s.isPps c

/-! Faults (Table 11.3) -/

/-- The cause of a candidate's fault other than frequency, coded as TIM_IN_STATUS reports it; 0 none. -/
def State.candFault (s : State) (c : Nat) : Nat :=
  let w := s.timIn c
  if c < 40 then
    let l := s.sdhLane c
    if s.inFirkin && !s.laneOn c then 4
    else if decide (s.laneRate c = 0) || (s.lane c).config || !(s.lane c).cdrLocked || !s.laneOn c then 1
    else if s.laneEth c then (if s.linkUp c then 0 else 1)
    else if l.oof || l.los || l.hasLof || l.hasAis then 1 else 0
  else if c < 104 then
    let p := c - 40
    if s.inFirkin && !s.tribOn p then 4
    else if decide (s.tribMode p = 0) || !s.tribOn p || (s.trib p).clkLoss then 1
    else if decide (s.tribMode p = 1) && decide (s.e1Ssm (portE1 p) = .fail) then 1 else 0
  else if c < 112 then
    let x := s.cand c
    let ty := timType w
    if ty = 0 then 1
    else if ty = 3 ∨ ty = 4 then (if x.noEdge then 1 else 0)
    else if ty = 5 then (if s.e1Ssm (refinE1 (c - 104)) = .fail then 1 else 0)
    else if (match x.lastGood with | none => true | some t => s.due (t + 8800)) || x.offPulse then 1
    else if 3 < x.unlabelled then 3 else 0
  else if s.tim.dpll = .locked then 0 else 5

/-- A gate beyond the limit counts as a fault until a later one ends within it (R343). -/
def Cand.freqBad (x : Cand) : Bool := decide (x.gateOk = some false)

/-! Quality levels (R345, R346, Table 11.4) -/

/-- The QL of a candidate; none is QL-none. -/
def State.candQl (s : State) (c : Nat) : Option Nat :=
  let w := s.timIn c
  let ofE1 (e : Eid) : Option Nat := match s.e1Ssm e with | .nibble v => some v | _ => none
  if timQlFixed w then some (timQlVal w)
  else if c < 40 then (if s.sdhRuns c then some (fld (s.sdhLane c).s1.acc 3 0) else none)
  else if c < 104 then (if s.tribMode (c - 40) = 1 then ofE1 (portE1 (c - 40)) else none)
  else if c < 112 ∧ timType w = 5 then ofE1 (refinE1 (c - 104)) else none

/-- The rank of a code; none is excluded. -/
def qlRank (sonet : Bool) (code : Nat) : Option Nat :=
  if sonet then nth none [some 2, some 1, none, none, some 4, none, none, some 3, none, none, some 6, none, some 7, some 5, some 8, none] code
  else nth none [some 5, none, some 1, none, some 2, none, none, none, some 3, none, none, some 4, none, none, none, none] code

/-- The rank of a candidate, QL-none below every code. -/
def State.candRank (s : State) (c : Nat) : Option Nat :=
  match s.candQl c with
  | none => some 9
  | some q => qlRank (sysQlOpt s.timSys) q

/-- A candidate is usable (R344, R365). -/
def State.usable (s : State) (c : Nat) : Bool :=
  decide (c < 113) && decide ((s.cand c).mode = .qualified) && (!sysQlEn s.timSys || (s.candRank c).isSome) &&
    (!s.isPps c || (s.cand c).traceable)

/-- Rank of a candidate in one number, lower preferred (R346). -/
def State.rankKey (s : State) (c : Nat) : Nat :=
  (if sysQlEn s.timSys then (s.candRank c).getD 10 else 0) * 2 ^ 16 + timPrio (s.timIn c) * 2 ^ 8 + c

/-- The element of least key. -/
def leastBy (key : Nat → Nat) (l : List Nat) : Option Nat :=
  l.foldl (fun b x => match b with | none => some x | some y => if key x < key y then some x else some y) none

/-- The usable candidates. Only a candidate with some state of its own can be. -/
def State.usables (s : State) : List Nat := (s.tim.cands.map (·.1)).filter s.usable

/-! Time (R363, R364) -/

/-- The time error against the selected time candidate, in 1/972 ns. -/
def State.theta (s : State) : Option Int := s.tim.timeCand.bind fun c => (s.cand c).theta

/-- A time error lies within a number of ns. -/
def within (ns : Nat) (t : Int) : Bool := decide (t.natAbs ≤ ns * 972)

/-- The time selection and FN_SRC follow the candidates; the first step to a traceable FN is FRAME_STEP's. -/
def State.timeFollow (s : State) : State :=
  let c := leastBy (fun c => timPrio (s.timIn c) * 2 ^ 8 + c) (s.usables.filter s.timeCapable)
  let moved := decide (c ≠ s.tim.timeCand)
  let s : State := { s with tim.timeCand := c }
  let src := s.tick.fnSrc.toNat
  let near : Bool := match s.theta with | some t => within 1000 t | none => false
  let src' := if c.isNone then (if src = 1 then 2 else src) else if (src = 2 ∨ src = 3 ∨ src = 4) ∧ near then 1 else src
  let s : State := { s with tick.fnSrc := BitVec.ofNat 3 src', tim.timeHoldAt := if src' = 2 ∧ src ≠ 2 then s.now else s.tim.timeHoldAt }
  s.raiseIf (moved || decide (src ≠ src')) { src := 0x0B4, code := src', obj := c.getD 0xFF }

/-! The transmitted QL (R347; a switch committed within 10 ms of holdover, log entry 134) -/

def State.followQl (s : State) : State :=
  let w := s.timSys
  let ql := match s.tim.sys, s.tim.selected with
    | .locked, some c => (match s.candQl c with | some q => BitVec.ofNat 4 q | none => Config.noneQl (sysQlOpt w))
    | .acquire, some c => match s.tim.qlHeld, s.candQl c with
      | true, some q => BitVec.ofNat 4 q
      | true, none => Config.noneQl (sysQlOpt w)
      | false, _ => BitVec.ofNat 4 (sysOwnQl w)
    | .holdover, _ => if s.tim.qlHeld then s.tim.txQl else BitVec.ofNat 4 (sysOwnQl w)
    | _, _ => BitVec.ofNat 4 (sysOwnQl w)
  if ql = s.tim.txQl then s else State.raise { s with tim.txQl := ql } { src := 0x0B3, code := ql.toNat }

/-- The QL sent on a lane or tributary port: DNU towards the selected candidate. -/
def State.qlFor (s : State) (c : Nat) : Nat := if s.tim.selected = some c then 0xF else s.tim.txQl.toNat

/-! The SYS DPLL (Table 11.6) -/

def SysMode.code : SysMode → Nat
  | .freeRun => 0
  | .acquire => 1
  | .locked => 2
  | .holdover => 3

def State.setSys (s : State) (m : SysMode) : State :=
  if s.tim.sys = m then s
  else
    let s : State := { s with tim.sys := m }
    let s : State := match m with
      | .acquire => { s with tim.acquireAt := s.now }
      | .locked => { s with tim.lockedAt := s.now, tim.qlHeld := false }
      | .holdover => { s with tim.holdAt := s.now, tim.qlHeld := true }
      | .freeRun => { s with tim.qlHeld := false }
    s.raise { src := 0x0B0, code := m.code }

/-- The age of the oscillator in seconds (R360). -/
def State.oscAge (s : State) : Nat := s.tim.oscBase + (s.now - s.tim.oscFrom) / 8000

/-- History exists once SYS has been LOCKED for 1 s (R358). -/
def State.hasHistory (s : State) : Bool := decide (1000 ≤ s.tim.hist.length)

/-- The mean of a list of integers. -/
def meanI (l : List Int) : Int := l.sum / (Nat.max 1 l.length : Nat)

/-- Holdover is entered: s0 and T0 (R358). Nothing is selected any more. -/
def State.enterHoldover (s : State) : State :=
  let past := (s.tim.hist.drop 1000).take (sysHoldAvg s.timSys * 1000)
  let coarse := decide (past.length < 10000)
  let s : State := { s with tim.selected := none, tim.age0 := s.oscAge, tim.coarse := coarse,
                            tim.s0 := if coarse then s.tim.steer else meanI (past.map (·.1)),
                            tim.t0 := if coarse then s.tim.temp else meanI (past.map (·.2)) }
  s.setSys .holdover

/-- The selected candidate stops being usable (R349, R351). -/
def State.selectedLost (s : State) : State :=
  match s.tim.sys with
  | .locked => s.enterHoldover
  | .acquire => if s.hasHistory then s.enterHoldover else State.setSys { s with tim.selected := none } .freeRun
  | _ => { s with tim.selected := none }

/-- What a change of candidates brings at once: the time selection, the loss of the selected one, the QL. -/
def State.candSettle (s : State) : State :=
  let s := s.timeFollow
  let s := match s.tim.selected with | some c => if s.usable c then s else s.selectedLost | none => s
  s.followQl

/-! Candidate states (Table 11.5) -/

def CandMode.code : CandMode → Nat
  | .disabled => 0
  | .disqualified => 1
  | .qualifying => 2
  | .qualified => 3
  | .hit => 4

def State.candTo (s : State) (c : Nat) (m : CandMode) (silent : Bool := false) : State :=
  let x := s.cand c
  if x.mode = m then s
  else (s.setCand c { x with mode := m, since := s.now }).raiseIf (!silent) { src := 0x0B2, code := m.code, obj := c }

/-- Table 11.5, on the faults as they stand. A change that the Firkin state causes raises nothing (R344). -/
def State.candStep (s : State) (c : Nat) : State :=
  let x := s.cand c
  let hit := timHit (s.timIn c)
  let f := s.candFault c
  let s := match x.mode with
    | .disabled => s
    | .disqualified => if f = 0 ∧ x.gateOk = some true then s.candTo c .qualifying else s
    | .qualifying => if f ≠ 0 ∨ x.freqBad then s.candTo c .disqualified (decide (f = 4)) else s
    | .qualified =>
      if x.freqBad then s.candTo c .disqualified
      else if f = 0 then s
      else s.candTo c (if hit = 0 then .disqualified else .hit) (decide (f = 4))
    | .hit =>
      if x.freqBad then s.candTo c .disqualified
      else if f ≠ 0 then s
      else s.candTo c (if s.now ≤ x.since + 8 * hit then .qualified else .disqualified)
  s.candSettle

/-- CANDIDATE_FAULT (R342): a fault that is declared or cleared reaches the timing core. Of a clock REFIN the row carries it. -/
def execCandidateFault (cand : Fin 113) (noEdge : Bool) (s : State) : Host.Outcome State Fault Refusal :=
  let c := cand.val
  let s := if (refinOf c).isSome then s.setCand c { s.cand c with noEdge := noEdge } else s
  .next (s.candStep c)

/-- Frequency limits in 0.01 ppb (FREQ_LIM). -/
def freqLimit (code : Nat) : Nat := nth 0 [460000, 920000, 1500000, 5000000] code

/-- FREQUENCY_GATE (R343). -/
def execFrequencyGate (cand : Fin 113) (offset : Int) (s : State) : Host.Outcome State Fault Refusal :=
  let c := cand.val
  let w := s.timIn c
  let ok := decide (offset.natAbs ≤ freqLimit (timFreqLim w))
  .next (if !timEn w then s
    else
      let x := s.cand c
      ((s.setCand c { x with offset := clampInt (-2 ^ 31) (2 ^ 31 - 1) offset, gateOk := some ok }).count 0x0801 c (!ok).toNat).candStep c)

/-- QUALIFICATION_EXPIRY (R344). -/
def execQualificationExpiry (cand : Fin 113) (s : State) : Host.Outcome State Fault Refusal :=
  let c := cand.val
  let x := s.cand c
  .next (if x.mode = .qualifying ∧ s.due (x.since + 8000 * timQual (s.timIn c)) then
      (if s.candFault c = 0 ∧ !x.freqBad then (s.candTo c .qualified).candSettle else s.candStep c)
    else s)

/-- HIT_EXPIRY (R344). -/
def execHitExpiry (cand : Fin 113) (s : State) : Host.Outcome State Fault Refusal :=
  let c := cand.val
  let x := s.cand c
  .next (if x.mode = .hit ∧ s.due (x.since + 8 * timHit (s.timIn c)) ∧ s.candFault c ≠ 0 then (s.candTo c .disqualified).candSettle else s)

/-! The selector (R348, R350, R352 to R356) -/

/-- The candidate that the mode prefers among all usable ones. -/
def State.preferred (s : State) : Option Nat :=
  let w := s.timSys
  if sysManualMode w && s.usable (sysManual w) then some (sysManual w) else leastBy s.rankKey s.usables

/-- QUAL_TIME of a candidate has passed since the last commit (R354). -/
def State.settledFor (s : State) (c : Nat) : Bool :=
  match s.tim.commitAt with
  | none => true
  | some t => s.due (t + 8000 * timQual (s.timIn c))

/-- A candidate may be taken in place of the selected one (R354; log entry 38). -/
def State.mayTake (s : State) (c : Nat) : Bool :=
  let w := s.timSys
  s.settledFor c && (!(sysManualMode w && decide (c = sysManual w)) ||
    (match s.tim.wtrSince with | some t => s.due (t + 8000 * sysWtr w) | none => false))

/-- The selector's aim. A command's aim change waits for nothing (R355). -/
def State.aim (s : State) (urgent : Bool) : Option Nat :=
  match s.tim.selected with
  | none => s.preferred
  | some a =>
    let w := s.timSys
    if urgent then s.preferred
    else if sysManualMode w && s.usable (sysManual w) then
      (if s.mayTake (sysManual w) || decide (a = sysManual w) then some (sysManual w) else some a)
    else leastBy s.rankKey (s.usables.filter fun c => decide (c = a) || s.mayTake c)

/-- TIM_REF_SWITCH (Table 14.3; for a cancelled switch, log entry 39). -/
def State.refSwitch (s : State) (cancel : Bool) (new : Nat) : State :=
  s.raise { src := 0x0B1, code := cancel.toNat, aux := s.tim.selected.getD 0xFF, obj := new }

/-- A build-out begins towards the aim, when that is not the selected candidate. -/
def State.startSwitch (s : State) (aim : Option Nat) : State :=
  if aim.isNone || decide (aim = s.tim.selected) then { s with tim.target := none }
  else { s with tim.target := aim, tim.usableThen := s.usables }

/-- The switch commits (R352, Table 11.6). -/
def State.commitSwitch (s : State) (b : Nat) : State :=
  let s := s.refSwitch false b
  let near := (s.cand b).gateOk.isSome && decide ((s.cand b).offset.natAbs ≤ 10000)
  let m : SysMode := match s.tim.sys with
    | .holdover => if near then .locked else .acquire
    | .freeRun => .acquire
    | .acquire => .acquire
    | .locked => .locked
  State.setSys { s with tim.selected := some b, tim.target := none, tim.commitAt := some s.now, tim.wtrSince := none } m

/-- The evaluation of a boundary (R352, R353). -/
def State.select (s : State) (urgent : Bool) : State :=
  let aim := s.aim urgent
  match s.tim.target with
  | none => s.startSwitch aim
  | some b =>
    if !s.usable b then State.startSwitch { s with tim.target := none } aim
    else
      match aim with
      | some c =>
        if decide (c ≠ b) && decide (s.tim.selected ≠ some c) && !s.tim.usableThen.contains c then (s.refSwitch true c).startSwitch aim
        else s.commitSwitch b
      | none => s.commitSwitch b

/-- TIM_HOLDOVER at its boundary (R350). -/
def State.forceHold (s : State) (on : Bool) : State :=
  if on then
    if s.tim.forced then s
    else
      let was := if s.tim.sys = .locked then s.tim.selected else none
      let s : State := { s with tim.forced := true, tim.forcedFrom := was }
      match s.tim.sys with
      | .locked => s.enterHoldover
      | .acquire => if s.hasHistory then s.enterHoldover else State.setSys { s with tim.selected := none } .freeRun
      | _ => { s with tim.selected := none }
  else
    let s : State := { s with tim.forced := false, tim.forcedFrom := none, tim.target := none }
    s

/-- A command whose effect waited for this boundary is answered; a mirrored one waits for the standby (R348, R374, R519). -/
def State.laterDone (s : State) (d : Deferred) (jrn mir : Nat) (data : List Word) : State :=
  let s := if jrn = 0 then s else s.journal jrn
  let sends := decide (mir ≠ 0) && s.mirroring
  let s := if sends then s.mirror mir (mkWord [(63, 56, d.cls), (55, 48, d.op)] :: d.cmd.words) else s
  if sends && !s.pair.stale then
    State.awaitMate { s with cmd.deferred := s.cmd.deferred.erase d } d.cmd d.cls d.op stOk 0 data
  else { s with cmd.deferred := s.cmd.deferred.map fun x => if x = d then { x with answer := some (BitVec.ofNat 8 stOk, data) } else x }

/-- The deferred commands of one kind without an answer. -/
def State.waitingFor (s : State) (w : Waits) : List Deferred := s.cmd.deferred.filter fun d => decide (d.waits = w) && d.answer.isNone

/-- The commands that wait for a boundary are applied; whether one of them changed the aim (R355). -/
def State.timCommands (s : State) : State × Bool :=
  let fn : List Word := [BitVec.ofNat 64 s.fnNat]
  let r := (s.waitingFor .timSys).foldl (fun (a : State × Bool) d =>
    let w := d.cmd.word 1
    let old := a.1.timSys
    let s : State := { a.1 with cfg.tim.sys := w }
    (s.laterDone d 2 5 fn, a.2 || decide (sysManual old ≠ sysManual w) || sysManualMode old != sysManualMode w)) (s, false)
  (r.1.waitingFor .timHoldover).foldl (fun (a : State × Bool) d =>
    let on := flag (d.cmd.word 1) 0
    let from_ := a.1.tim.forcedFrom
    let was := a.1.tim.forced
    let s := a.1.forceHold on
    let s : State := match from_ with
      | some c => if !on && was && decide (s.tim.sys = .holdover) && s.usable c && decide (s.preferred = some c) then
          State.setSys { s with tim.selected := some c } .locked
        else s
      | none => s
    (s.laterDone d 0 0 fn, a.2 || (was && !on))) r

/-! Holdover steering (R359) -/

def State.hold (s : State) : HoldModel := s.cfg.tim.hold
def holdC1 (m : HoldModel) : Int := toSigned 32 (fld m.w0 63 32)
def holdC2 (m : HoldModel) : Int := toSigned 32 (fld m.w0 31 0)
def holdA (m : HoldModel) : Int := toSigned 32 (fld m.w1 63 32)
def holdTau (m : HoldModel) : Nat := fld m.w1 31 0
def holdB (m : HoldModel) : Int := toSigned 32 (fld m.w2 63 32)
def holdEn (m : HoldModel) : Bool := flag m.w2 16

/-- The predicted drift d(t) in 2^-44 ppb. -/
def State.drift (s : State) : Int :=
  let m := s.hold
  let x := clampInt (s.cfg.tim.tMin - 1280) (s.cfg.tim.tMax + 1280) s.tim.temp - s.tim.t0
  let ms := (s.now - s.tim.holdAt) / 8
  holdC1 m * x * 4096 + holdC2 m * x * x + (if holdTau m = 0 then 0 else Config.ageLog (holdA m) (holdTau m) s.tim.age0 ms) +
    holdB m * 16 * ms / 1000

/-- The steering of one control period: s0 − d(t) in holdover, else what the loop gives. -/
def State.steerStep (s : State) (steer temp : Int) : State :=
  let s : State := { s with tim.temp := temp }
  let on := decide (s.tim.sys = .holdover) && holdEn s.hold
  let out := on && (decide (temp < s.cfg.tim.tMin - 1280) || decide (s.cfg.tim.tMax + 1280 < temp))
  let st := match s.tim.sys with
    | .freeRun => 0
    | .holdover => s.tim.s0 - (if on then s.drift else 0)
    | _ => steer
  let hist := if s.tim.sys = .locked then ((st, temp) :: s.tim.hist).take 4096000 else s.tim.hist
  let turned := out != s.tim.extrap
  let s : State := { s with tim.steer := st, tim.hist := hist, tim.modelOn := on, tim.extrap := out }
  s.raiseIf turned { src := 0x0B6, clr := !out, code := (Config.causeCode 0x0B6 0).toNat }

/-! Clock outputs (R370) -/

def State.outCfg (s : State) (i : Nat) : Half := s.cfg.tim.outs.look 0 i

/-- The condition of an output's squelch. -/
def State.squelchNow (s : State) (i : Nat) : Bool :=
  let w := s.outCfg i
  let sq := fld w 26 24
  let rank (c : Nat) : Nat := (qlRank (sysQlOpt s.timSys) c).getD 10
  let unlocked := decide (s.tim.sys ≠ .locked)
  let below := decide (rank (fld w 23 20) < rank s.tim.txQl.toNat)
  if sq = 1 then unlocked else if sq = 2 then below else if sq = 3 then unlocked || below
  else if sq = 4 then decide (s.tick.fnSrc ≠ 1) else false

def State.squelchStep (s : State) : State :=
  { s with tim.squelched := (List.range 5).foldl (fun t i => Tab.put false t i (s.squelchNow i)) s.tim.squelched }

/-- SELECTOR_EVALUATION: once per control period boundary (R348). A standby that follows its partner selects nothing (R371). -/
def State.evaluate (s : State) (steer temp : Int) : State :=
  if s.fnNat % 8 ≠ 0 || decide (s.tim.lastEval = some s.now) then s
  else
    let s := State.steerStep { s with tim.lastEval := some s.now } steer temp
    let r := s.timCommands
    let s := r.1.candSettle
    let m := sysManual s.timSys
    let wtr := if sysManualMode s.timSys && s.usable m && s.settledFor m then some (s.tim.wtrSince.getD s.now) else none
    let s : State := { s with tim.wtrSince := wtr }
    let s := if s.tim.forced then
        (match s.tim.target with | some b => State.refSwitch { s with tim.target := none } true b | none => s)
      else if s.isStandby && s.pair.mateUp then { s with tim.target := none }
      else s.select r.2
    s.followQl.squelchStep

def execSelectorEvaluation (steer temp : Int) (s : State) : Host.Outcome State Fault Refusal := .next (s.evaluate steer temp)

/-- The bandwidth codes and caps (Tables 11.9 and 11.10). -/
def bwMilli (code : Nat) : Nat := nth 0 [0, 1, 3, 10, 30, 100, 1000, 10000, 100000, 1000000, 4000000] code
def State.bwCap (s : State) (c : Nat) : Nat :=
  if c = 112 then 8 else if s.isPps c then 5 else if (refinOf c).isSome && decide (timType (s.timIn c) = 5) then 8 else 10
def State.bwInForce (s : State) : Nat :=
  match s.tim.selected with
  | some c => Nat.min (sysBw s.timSys) (s.bwCap c)
  | none => sysBw s.timSys

/-- Frames of max(1 s, 2 / bandwidth). -/
def lockFrames (code : Nat) : Nat := if code = 0 then 160000000 else Nat.max 8000 (ceilDiv 16000000 (bwMilli code))

/-- DPLL_LOCK (R349): the phase error has stayed within ±100 ns. -/
def execDpllLock (s : State) : Host.Outcome State Fault Refusal :=
  let ok := decide (s.tim.sys = .acquire) && (match s.tim.selected with | some c => s.usable c | none => false) &&
    s.due (s.tim.acquireAt + lockFrames s.bwInForce)
  .next (if ok then (s.setSys .locked).followQl else s)

/-- HOLDOVER_QL_TIMER (R347). -/
def execHoldoverQlTimer (s : State) : Host.Outcome State Fault Refusal :=
  .next (if decide (s.tim.sys = .holdover) && s.tim.qlHeld && s.due (s.tim.holdAt + 80) then State.followQl { s with tim.qlHeld := false } else s)

/-! The model (R360 to R362) -/

def ModelMode.code : ModelMode → Nat
  | .none => 0
  | .learning => 1
  | .valid => 2
  | .loaded => 3

def State.setModel (s : State) (m : ModelMode) : State :=
  if s.cfg.tim.model = m then s else State.raise { s with cfg.tim.model := m } { src := 0x0B6, code := m.code }

/-- Records of 30 days. -/
def modelKept : Nat := 259200

/-- MODEL_RECORD (R361). -/
def execModelRecord (s : State) : Host.Outcome State Fault Refusal :=
  let w := s.timSys
  let good := match s.tim.selected with
    | some c => !sysQlEn w || (match s.candRank c with | some r => decide (r ≤ 3) | none => false)
    | none => false
  let ok := decide (s.tim.sys = .locked) && good && decide (s.cfg.tim.model ≠ .loaded) && decide (s.tim.lockedAt + 800000 < s.now) &&
    s.due (s.tim.recordAt + 80000)
  .next (if !ok then s
    else
      let l := (⟨s.tim.steer, s.tim.temp, s.oscAge⟩ :: s.tim.records).take modelKept
      let s : State := { s with tim.records := l, tim.recordAt := s.now }
      if 8640 ≤ l.length then s.setModel .valid else if s.cfg.tim.model = .none then s.setModel .learning else s)

/-- The least and the greatest of a list of temperatures. -/
def rangeOf (l : List Int) : Option (Int × Int) :=
  match l with
  | [] => none
  | x :: xs => some (xs.foldl (fun a v => (if v < a.1 then v else a.1, if a.2 < v then v else a.2)) (x, x))

/-- MODEL_FIT (R361): each hour. The coefficients that a fit replaces become free values: the least-squares arithmetic is the firmware's own. -/
def execModelFit (s : State) : Host.Outcome State Fault Refusal :=
  .next (match rangeOf (s.tim.records.map (·.temp)) with
    | none => s
    | some (lo, hi) =>
      if decide (s.cfg.tim.model = .loaded) || !s.due (s.tim.fitAt + 28800000) then s
      else
        let m := s.hold
        let f0 := s.takeFree
        let m := if 1024 ≤ hi - lo then { m with w0 := f0.1 } else m
        let f1 := f0.2.takeFree
        let f2 := f1.2.takeFree
        let old := decide (60480 ≤ s.tim.records.length)
        let m := if old then { m with w1 := setFld m.w1 63 32 (fld f1.1 31 0), w2 := setFld m.w2 63 32 (fld f2.1 31 0) } else m
        State.journal { f2.2 with cfg.tim.hold := m, cfg.tim.tMin := lo, cfg.tim.tMax := hi, tim.fitAt := s.now } 5)

/-- OSC_AGE_JOURNAL (R360). -/
def execOscAgeJournal (s : State) : Host.Outcome State Fault Refusal :=
  .next (if s.cfg.tim.age / 3600 = s.oscAge / 3600 then s else State.journal { s with cfg.tim.age := s.oscAge } 1)

/-! 1PPS and time of day (R363, R365) -/

/-- The time counter in 1/972 ns (R339). -/
def counterUnits (fn : BitVec 48) (cycle : BitVec 17) : Int := (fn.toNat * 121500000 + cycle.toNat * 1250 : Nat)

/-- PPS_PULSE. -/
def State.ppsPulse (s : State) (p : PpsRx) : State :=
  let c := 104 + p.refin.val
  let x := s.cand c
  if !s.isPps c || !timEn (s.timIn c) then s
  else
    let anew := match x.lastGood with | none => true | some t => s.due (t + 8800)
    let good := anew || decide ((p.elapsed : Int) - 1000000000 ≤ 10000 ∧ -10000 ≤ (p.elapsed : Int) - 1000000000)
    let label := match x.tod with | some m => some m.sec | none => x.label.map (· + 1)
    let theta := match label with
      | some t => some (counterUnits p.fn p.cycle - ((timCable (s.timIn c) : Nat) : Int) * 972 - (t : Int) * 972000000000)
      | none => none
    let s := s.setCand c { x with
      lastGood := if good then some s.now else x.lastGood, offPulse := !good, label := label, tod := none,
      unlabelled := if x.tod.isSome then 0 else x.unlabelled + 1, theta := if good then theta else x.theta }
    (s.count 0x0808 p.refin.val x.tod.isNone.toNat).candStep c

def execPpsPulse (p : PpsRx) (s : State) : Host.Outcome State Fault Refusal := .next (s.ppsPulse p)

/-- A message for the next pulse, in its window of 100 to 900 ms after the pulse before (in µs). -/
def State.todTake (s : State) (c : Nat) (m : TodMsg) (utc : BitVec 16) (after : Nat) (ok : Bool) : State :=
  if ok && decide (100000 ≤ after ∧ after ≤ 900000) then
    (s.setCand c { s.cand c with tod := some m, traceable := m.traceable, utcOff := utc }).candSettle
  else s.count 0x0800 (c - 104) 1

/-- TOD_MESSAGE (Table 11.11). -/
def execTodMessage (t : TodRx) (s : State) : Host.Outcome State Fault Refusal :=
  let c := 104 + t.refin.val
  let o := t.octets
  let ok := decide (o.length = 16) && decide (at_ o 0 2 = 0xDA54) && decide (crcOver 16 0x1021 0xFFFF (o.take 14) = at_ o 14 2) &&
    flag (nth 0 o 10) 7
  .next (if timType (s.timIn c) ≠ 1 then s
    else s.todTake c ⟨at_ o 2 6, flag (nth 0 o 10) 6⟩ (BitVec.ofNat 16 (at_ o 8 2)) t.after ok)

/-! Commands -/

def timMask : Word := maskOf [(7, 0)]
def Cmd.timObj (c : Cmd) : Nat := fld (c.word 0) 7 0

/-- The faults of a TIM_SYS_CFG. -/
def timSysBad (w : Word) : Bool :=
  let held (v : Nat) : Bool := decide (112 < v ∧ v < 255)
  held (sysManual w) || held (sysOutSrc w) || (sysManualMode w && decide (sysManual w = 255)) || decide (3600 < sysWtr w) ||
    decide (10 < sysBw w) || decide (10 < sysOutBw w) || decide (6 < sysPtpBw w) || decide (sysHoldAvg w = 0)

/-- TIM_SYS_SET: applied and answered at the next boundary. -/
def State.timSysSet (s : State) (c : Cmd) : State :=
  s.runOp c (setting 8 1 OPR [0, maskOf [(63, 53), (47, 0)]] 5) [(timSysBad (c.word 1), 1)] none fun s =>
    if s.journalFull 2 then refuse stNoResource 0xFF s else .later s .timSys

def State.timSysGet (s : State) (c : Cmd) : State := s.runOp c (plainOp 8 2 OPR []) [] none fun s => .ok s [s.timSys]

/-- The faults of a TIM_IN_CFG (R341). -/
def timInBad (c : Nat) (w : Word) : Bool :=
  let ty := timType w
  let pps := decide (ty = 1 ∨ ty = 2)
  let sa := timSsmSa w
  decide (timPrio w = 0) || decide (3 < timFreqLim w) || decide (timQual w = 0 ∨ 600 < timQual w) || decide (1000 < timHit w) ||
    decide (5 < ty) || ((refinOf c).isNone && decide (ty ≠ 0)) || (!pps && decide (timCable w ≠ 0)) ||
    decide (sa ≠ 0 ∧ (sa < 4 ∨ 8 < sa)) || (decide (ty ≠ 5) && decide (sa ≠ 0)) || (decide (ty = 1) && decide (105 < c)) ||
    (timEn w && (refinOf c).isSome && decide (ty = 0))

/-- A candidate's record takes effect (R344). -/
def State.setTimIn (s : State) (c : Nat) (w : Word) : State :=
  let old := s.timIn c
  let s : State := { s with cfg.tim.inputs := s.cfg.tim.inputs.put timInReset c w }
  let anew := timEn old != timEn w || decide (timType old ≠ timType w)
  let s := if anew then s.setCand c { Cand.reset with mode := (s.cand c).mode } else s
  let s := if timType old ≠ timType w then { s with fram.e1 := s.fram.e1.put E1State.reset (refinE1 (c - 104)).toNat E1State.reset } else s
  let x := s.cand c
  let s := s.setCand c { x with gateOk := x.gateOk.map fun _ => decide (x.offset.natAbs ≤ freqLimit (timFreqLim w)) }
  let back := anew || decide (timFreqLim old ≠ timFreqLim w) || decide (timQual old ≠ timQual w)
  (if !back then s else if timEn w then s.candTo c .disqualified else s.candTo c .disabled).candSettle

def State.timInSet (s : State) (c : Cmd) : State :=
  let i := c.timObj
  let w := c.word 1
  s.runOp c (setting 8 3 OPR [timMask, maskOf [(63, 63), (61, 3)]] 5) [(decide (112 < i), 0), (timInBad i w, 1)] none fun s =>
    .ok (s.setTimIn i w) []

def State.timInGet (s : State) (c : Cmd) : State :=
  s.runOp c (plainOp 8 4 OPR [timMask]) [(decide (112 < c.timObj), 0)] none fun s => .ok s [s.timIn c.timObj]

/-- TIM_IN_STATUS. -/
def State.timInStatus (s : State) (c : Cmd) : State :=
  let i := c.timObj
  s.runOp c (plainOp 8 5 OPR [timMask]) [(decide (112 < i), 0)] none fun s =>
    let x := s.cand i
    let ql := s.candQl i
    let f := s.candFault i
    let cause := if x.mode = .disabled then 0 else if f ≠ 0 then f else if x.freqBad then 2 else 0
    let left := if x.mode = .qualifying then ceilDiv (x.since + 8000 * timQual (s.timIn i) - s.now) 8000 else 0
    .ok s [mkWord [(2, 0, x.mode.code), (3, 3, (s.usable i).toNat), (7, 4, ql.getD 0), (8, 8, ql.isNone.toNat), (15, 12, cause), (31, 16, left),
      (63, 32, ofSigned 32 x.offset)]]

/-- TIM_QSTAT. -/
def State.timQstat (s : State) : Half :=
  mkHalf [(31, 28, s.tim.sys.code), (27, 27, s.tim.target.isSome.toNat), (26, 26, s.tim.forced.toNat), (25, 25, s.tim.modelOn.toNat),
    (24, 24, s.tim.extrap.toNat), (23, 16, s.tim.selected.getD 0xFF), (15, 8, s.tim.timeCand.getD 0xFF), (7, 4, s.tim.txQl.toNat)]

/-- TIME_ERR: in ns, saturating. -/
def State.timeErr (s : State) : Half :=
  match s.theta with
  | some t => BitVec.ofNat 32 (ofSigned 32 (clampInt (-2 ^ 31) (2 ^ 31 - 1) (t / 972)))
  | none => 0x8000_0000

def State.holdTime (s : State) : Half := BitVec.ofNat 32 (if s.tim.sys = .holdover then (s.now - s.tim.holdAt) / 8000 else 0)
def State.oscTemp (s : State) : Half := BitVec.ofNat 32 (ofSigned 16 s.tim.temp)

/-- The bandwidth cap applies to SYS or OUT (R357). -/
def State.bwCapped (s : State) : Bool :=
  let tooFast (bw : Nat) (c : Option Nat) : Bool := match c with | some c => decide (s.bwCap c < bw) | none => false
  let w := s.timSys
  tooFast (sysBw w) s.tim.selected || tooFast (sysOutBw w) (if sysOutSrc w = 255 then none else some (sysOutSrc w))

/-- TIM_STATUS. -/
def State.timStatus (s : State) (c : Cmd) : State :=
  s.runOp c (plainOp 8 6 OPR []) [] none fun s =>
    .ok s [mkWord [(31, 0, s.timQstat.toNat), (32, 32, s.bwCapped.toNat), (33, 33, s.tim.coarse.toNat), (35, 34, s.cfg.tim.model.code)],
      BitVec.ofNat 64 (ofSigned 64 (s.tim.s0 / 2 ^ 24)),
      mkWord [(63, 48, ofSigned 16 s.cfg.tim.tMin), (47, 32, ofSigned 16 s.cfg.tim.tMax), (31, 0, s.tim.records.length / 360)]]

/-- TIM_HOLDOVER: acts and is answered at the next boundary. -/
def State.timHoldover (s : State) (c : Cmd) : State :=
  s.runOp c (plainOp 8 7 OPR [0, maskOf [(0, 0)]]) [] none fun s => .later s .timHoldover

/-- TIM_MODEL_SET (R362). -/
def State.timModelSet (s : State) (c : Cmd) : State :=
  let m : HoldModel := ⟨c.word 1, c.word 2, c.word 3⟩
  s.runOp c (setting 8 8 OPR [0, allBits, allBits, maskOf [(63, 20), (17, 16)]] 0) [(decide (3600 < fld m.w2 31 20), 3)] none fun s =>
    if holdEn m && !decide (s.cfg.tim.model = .valid ∨ s.cfg.tim.model = .loaded) then refuse stState 0 s
    else .ok (State.setModel { s with cfg.tim.hold := m } .loaded) []

def State.timModelGet (s : State) (c : Cmd) : State :=
  s.runOp c (plainOp 8 9 OPR []) [] none fun s => .ok s [s.hold.w0, s.hold.w1, s.hold.w2]

/-- TIM_MODEL_LEARN (R362). -/
def State.timModelLearn (s : State) (c : Cmd) : State :=
  s.runOp c { plainOp 8 10 OPR [] with jrn := 1 } [] none fun s => .ok (State.setModel { s with tim.records := [] } .none) []

/-- The faults of an OUT_CFG. -/
def timOutBad (i : Nat) (w : Half) : Bool :=
  let f := fld w 31 28
  let sq := fld w 26 24
  (if i = 4 then decide (f ≠ 0 ∧ f ≠ 7) || flag w 27 else decide (6 < f) || decide (fld w 15 0 ≠ 0)) ||
    decide (4 < sq) || (decide (sq = 4) && decide (i ≠ 4)) || decide (1 < fld w 19 18)

def State.timOutSet (s : State) (c : Cmd) : State :=
  let i := c.timObj
  let w : Half := BitVec.ofNat 32 (fld (c.word 1) 31 0)
  s.runOp c (setting 8 11 OPR [timMask, maskOf [(31, 18), (15, 0)]] 5) [(decide (4 < i), 0), (timOutBad i w, 1)] none fun s =>
    .ok { s with cfg.tim.outs := s.cfg.tim.outs.put 0 i w } []

def State.timOutGet (s : State) (c : Cmd) : State :=
  s.runOp c (plainOp 8 12 OPR [timMask]) [(decide (4 < c.timObj), 0)] none fun s => .ok s [BitVec.ofNat 64 (s.outCfg c.timObj).toNat]

/-- TIM_MON_SET. -/
def State.timMonSet (s : State) (c : Cmd) : State :=
  let v := fld (c.word 1) 7 0
  s.runOp c (setting 8 13 OPR [0, timMask] 0) [(decide (112 < v ∧ v < 255), 1)] none fun s => .ok { s with cfg.tim.mon := BitVec.ofNat 8 v } []

/-- TOD_SET (R365): the message of a TYPE 0x2 input counts as traceable (log entry 37). -/
def State.todSet (s : State) (c : Cmd) : State :=
  let i := c.timObj
  s.runOp c (plainOp 8 14 OPR [timMask, allBits]) [(decide (7 < i), 0)] none fun s =>
    let k := 104 + i
    if timType (s.timIn k) ≠ 2 then refuse stState 0 s
    else
      let after := match (s.cand k).lastGood with | some t => (s.now - t) * 125 | none => 500000
      .ok (s.todTake k ⟨fld (c.word 1) 47 0, true⟩ (BitVec.ofNat 16 (fld (c.word 1) 63 48)) after true) []

def State.timThermSet (s : State) (c : Cmd) : State :=
  s.runOp c (setting 8 18 OPR [0, maskOf [(31, 0)]] 0) [] none fun s =>
    .ok { s with cfg.tim.therm := BitVec.ofNat 32 (fld (c.word 1) 31 0) } []

def execTimSysSet (c : Cmd) (s : State) : Host.Outcome State Fault Refusal := packet c s (·.timSysSet c)
def execTimSysGet (c : Cmd) (s : State) : Host.Outcome State Fault Refusal := packet c s (·.timSysGet c)
def execTimInSet (c : Cmd) (s : State) : Host.Outcome State Fault Refusal := packet c s (·.timInSet c)
def execTimInGet (c : Cmd) (s : State) : Host.Outcome State Fault Refusal := packet c s (·.timInGet c)
def execTimInStatus (c : Cmd) (s : State) : Host.Outcome State Fault Refusal := packet c s (·.timInStatus c)
def execTimStatus (c : Cmd) (s : State) : Host.Outcome State Fault Refusal := packet c s (·.timStatus c)
def execTimHoldover (c : Cmd) (s : State) : Host.Outcome State Fault Refusal := packet c s (·.timHoldover c)
def execTimModelSet (c : Cmd) (s : State) : Host.Outcome State Fault Refusal := packet c s (·.timModelSet c)
def execTimModelGet (c : Cmd) (s : State) : Host.Outcome State Fault Refusal := packet c s (·.timModelGet c)
def execTimModelLearn (c : Cmd) (s : State) : Host.Outcome State Fault Refusal := packet c s (·.timModelLearn c)
def execTimOutSet (c : Cmd) (s : State) : Host.Outcome State Fault Refusal := packet c s (·.timOutSet c)
def execTimOutGet (c : Cmd) (s : State) : Host.Outcome State Fault Refusal := packet c s (·.timOutGet c)
def execTimMonSet (c : Cmd) (s : State) : Host.Outcome State Fault Refusal := packet c s (·.timMonSet c)
def execTodSet (c : Cmd) (s : State) : Host.Outcome State Fault Refusal := packet c s (·.todSet c)
def execTimThermSet (c : Cmd) (s : State) : Host.Outcome State Fault Refusal := packet c s (·.timThermSet c)

end Sys2Proof.Machine
end

