-- ==== Sys2Proof/Machine/Ptp.lean ====
section
/-!
DEFINITION. The PTP boundary clock, the PTP DPLL, and the reception of Ethernet frames (11_timing.md §11.7, 10_packet_interworking.md R321). The
message layouts and the best-master comparison are those of IEEE 1588 and of its G.8275.1 profile (log entry 44).
-/
namespace Sys2Proof.Machine

def State.ptpCfg (s : State) (i : Nat) : Word := s.cfg.tim.ports.look ptpPortReset i
def ptpEn (w : Word) : Bool := flag w 63
def ptpMasterOnly (w : Word) : Bool := flag w 62
def ptpDa (w : Word) : Nat := if flag w 61 then 0x0180_C200_000E else 0x011B_1900_0000
def ptpPlace (w : Word) : Nat := fld w 60 55
def ptpLocalPrio (w : Word) : Nat := fld w 54 47
def ptpVid (w : Word) : Nat := fld w 46 35
def ptpAsym (w : Word) : Int := toSigned 16 (fld w 34 19)
def State.ptpDomain (s : State) : Nat := fld s.cfg.tim.ptp0 63 56
def State.ptpMaxClass (s : State) : Nat := fld s.cfg.tim.ptp0 47 40
def State.clockId (s : State) : BitVec 64 := s.cfg.tim.ptp1

def State.ptpPort (s : State) (i : Nat) : PtpPort := s.tim.ports.look PtpPort.reset i
def State.setPtpPort (s : State) (i : Nat) (p : PtpPort) : State := { s with tim.ports := s.tim.ports.put PtpPort.reset i p }

/-- The port in SLAVE state. -/
def State.slavePort (s : State) : Option Nat := (s.tim.ports.find? fun x => decide (x.2.mode = .slave)).map (·.1)

/-- The parent's data set. -/
def State.parent (s : State) : Option PtpData := s.slavePort.bind fun i => (s.ptpPort i).best

/-- The clockClass announced (R369). -/
def State.ownClass (s : State) : Nat :=
  match s.tim.timeCand with
  | some 112 => (match s.parent with | some p => p.cls | none => 248)
  | other =>
    let src := s.tick.fnSrc.toNat
    if src = 2 then (if s.now - s.tim.timeHoldAt ≤ fld s.cfg.tim.ptp0 39 24 * 480000 then 135 else 165)
    else if decide (src = 1) && (match other with | some c => (s.cand c).traceable | none => false) then 6 else 248

/-- The data set of the clock itself. -/
def State.ownData (s : State) : PtpData :=
  { cls := s.ownClass, acc := 0xFE, var := 0xFFFF, prio2 := fld s.cfg.tim.ptp0 55 48, localPrio := 128, gm := s.clockId, steps := 0, sender := 0 }

/-- The alternate BMCA's order: true when the first is better. -/
def ptpBetter (a b : PtpData) : Bool :=
  let key (d : PtpData) : List Nat := [d.cls, d.acc, d.var, d.prio2, d.localPrio, d.gm.toNat, d.steps, d.sender.toNat]
  go (key a) (key b)
where
  go : List Nat → List Nat → Bool
    | a :: l, b :: m => if a = b then go l m else decide (a < b)
    | _, _ => false

/-! The PTP DPLL (R368) -/

/-- It leaves LOCKED: the PTP candidate faults. -/
def State.dpllTo (s : State) (m : SysMode) : State :=
  if s.tim.dpll = m then s else State.candStep { s with tim.dpll := m } 112

def State.dpllLeave (s : State) : State :=
  if s.tim.dpll = .locked then State.dpllTo { s with tim.goodSince := none } (if s.slavePort.isSome then .acquire else .holdover) else s

/-- The parent no longer serves: no slave port, or its class passes MAX_CLASS. -/
def State.dpllCheck (s : State) : State :=
  match s.parent with
  | some p => if s.ptpMaxClass < p.cls then s.dpllLeave else s
  | none => { s.dpllLeave with tim.goodSince := none }

/-- A new filtered offset from the master, in ns. -/
def State.ptpOffset (s : State) (off : Int) : State :=
  let good := decide (off.natAbs ≤ 100)
  let s : State := { s with tim.offset := off, tim.offsetAt := s.now,
                            tim.goodSince := if good then some (s.tim.goodSince.getD s.now) else none }
  let s := s.setCand 112 { s.cand 112 with theta := some (off * 972) }
  let s := if s.tim.dpll = .locked then (if 1000 < off.natAbs then s.dpllLeave else s) else s.dpllTo .acquire
  s.timeFollow

/-- PTP_SERVO_LOCK: offsets have stayed within ±100 ns for 64 s. -/
def execPtpServoLock (s : State) : Host.Outcome State Fault Refusal :=
  let ok := (match s.parent with | some p => decide (p.cls ≤ s.ptpMaxClass) | none => false) &&
    (match s.tim.goodSince with | some t => s.due (t + 512000) | none => false)
  .next (if ok then s.dpllTo .locked else s)

/-- PTP_OFFSET_TIMEOUT: 2 s without an offset. -/
def execPtpOffsetTimeout (s : State) : Host.Outcome State Fault Refusal :=
  .next (if s.tim.dpll = .locked ∧ s.due (s.tim.offsetAt + 16000) then s.dpllLeave else s)

/-! Port states -/

/-- portState of IEEE 1588-2019. -/
def PtpMode.code : PtpMode → Nat
  | .disabled => 3
  | .listening => 4
  | .master => 6
  | .passive => 7
  | .slave => 9

def State.ptpTo (s : State) (i : Nat) (m : PtpMode) : State :=
  let p := s.ptpPort i
  if p.mode = m then s
  else
    (s.setPtpPort i { p with mode := m, syncRx := none, syncTx := none, reqTx := none }).raise { src := 0x0B5, code := m.code, obj := i }

/-- The state decision of every running port that has heard an Announce, or has waited for one. -/
def State.ptpDecide (s : State) : State :=
  let own := s.ownData
  let heard := s.tim.ports.filterMap fun x =>
    match x.2.best with
    | some d => if decide (x.2.mode ≠ .disabled) && !ptpMasterOnly (s.ptpCfg x.1) then some (x.1, d) else none
    | none => none
  let best := heard.foldl (fun (b : Option (Nat × PtpData)) x =>
    match b with | none => some x | some y => if ptpBetter x.2 y.2 then some x else some y) none
  let decideOne (i : Nat) (p : PtpPort) : PtpMode :=
    match p.mode, p.best with
    | .disabled, _ => .disabled
    | .listening, none => .listening
    | _, mine =>
      let mine := if ptpMasterOnly (s.ptpCfg i) then none else mine
      match best with
      | none => .master
      | some b =>
        if own.cls < 128 then
          (match mine with | some d => if ptpBetter d own then .passive else .master | none => .master)
        else if ptpBetter own b.2 then .master
        else if b.1 = i then .slave
        else match mine with | some d => if d.gm = b.2.gm then .passive else .master | none => .master
  let s := s.tim.ports.foldl (fun s x => s.ptpTo x.1 (decideOne x.1 x.2)) s
  s.dpllCheck

/-- ANNOUNCE_TIMEOUT: 3 intervals of an eighth of a second without an Announce of the sender. -/
def execAnnounceTimeout (port : Fin 16) (s : State) : Host.Outcome State Fault Refusal :=
  let i := port.val
  let p := s.ptpPort i
  .next (if p.mode = .disabled ∨ p.mode = .master ∨ !s.due (p.heardAt + 3000) then s
    else
      let s := (s.setPtpPort i { p with best := none }).ptpTo i .master
      s.ptpDecide)

/-! Messages -/

/-- A time in ns as a PTP timestamp of ten octets, and back. -/
def ptpStamp (ns : Int) : List Byte := let n := ns.toNat; octetsOf 6 (n / 1000000000) ++ octetsOf 4 (n % 1000000000)
def ptpTime (o : List Byte) (i : Nat) : Int := (at_ o i 6 * 1000000000 + at_ o (i + 6) 4 : Nat)

/-- The correction field in ns. -/
def ptpCorrection (o : List Byte) : Int := toSigned 64 (at_ o 8 8) / 65536

/-- The time counter in ns (R339). -/
def counterNs (fn : BitVec 48) (cycle : BitVec 17) : Int := counterUnits fn cycle / 972

/-- The identity of a port. -/
def State.portId (s : State) (i : Nat) : BitVec 80 := BitVec.ofNat 80 (s.clockId.toNat * 65536 + i + 1)

/-- The header of a message of a type, its length and its rate. -/
def State.ptpHeader (s : State) (i type len seq : Nat) (interval : Nat) : List Byte :=
  octetsOf 1 type ++ [2] ++ octetsOf 2 len ++ octetsOf 1 s.ptpDomain ++ [0] ++ octetsOf 2 0 ++ octetsOf 8 0 ++ octetsOf 4 0 ++
    octetsOf 10 (s.portId i).toNat ++ octetsOf 2 (seq % 65536) ++ octetsOf 1 (if type = 0 then 0 else if type = 1 then 1 else if type = 9 then 3 else 5) ++
    octetsOf 1 interval

/-- A message leaves a port in its frame. -/
def State.ptpSend (s : State) (i kind : Nat) (msg : List Byte) : State :=
  let w := s.ptpCfg i
  let mac := if ptpPlace w = 40 then s.host.craft.mgmtMac.toNat else (s.psn (ptpPlace w)).mac
  let tag := if ptpVid w = 0xFFF then [] else octetsOf 2 0x8100 ++ octetsOf 2 (ptpVid w)
  (s.count 0x0807 i 1).emit (.ptp i kind (octetsOf 6 (ptpDa w) ++ octetsOf 6 mac ++ tag ++ octetsOf 2 0x88F7 ++ msg))

/-- PTP_MESSAGE_SEND: Sync, Delay_Req or Announce, as the port's state has it; timestamped at the cycle of the present frame (R366, R367). -/
def execPtpMessageSend (port : Fin 16) (kind : Fin 3) (cycle : BitVec 17) (s : State) : Host.Outcome State Fault Refusal :=
  let i := port.val
  let p := s.ptpPort i
  let t := counterNs s.tick.fn cycle - ptpAsym (s.ptpCfg i)
  let d := match s.tim.timeCand, s.parent with
    | some 112, some x => { x with steps := x.steps + 1 }
    | _, _ => s.ownData
  .next (if kind.val = 0 ∧ p.mode = .master then
      (s.setPtpPort i { p with sentSync := p.sentSync + 1 }).ptpSend i 0 (s.ptpHeader i 0 44 p.sentSync 0xFC ++ ptpStamp t)
    else if kind.val = 1 ∧ p.mode = .slave then
      (s.setPtpPort i { p with reqSeq := (p.reqSeq + 1) % 65536, reqTx := some t }).ptpSend i 1 (s.ptpHeader i 1 44 (p.reqSeq + 1) 0x7F ++ ptpStamp t)
    else if kind.val = 2 ∧ p.mode = .master then
      let utc := match s.tim.timeCand with | some c => (s.cand c).utcOff.toNat | none => 0
      (s.setPtpPort i { p with sentAnnounce := p.sentAnnounce + 1 }).ptpSend i 11
        (s.ptpHeader i 11 64 p.sentAnnounce 0xFD ++ octetsOf 10 0 ++ octetsOf 2 utc ++ octetsOf 2 128 ++ octetsOf 1 d.cls ++ octetsOf 1 d.acc ++
          octetsOf 2 d.var ++ octetsOf 1 d.prio2 ++ octetsOf 8 d.gm.toNat ++ octetsOf 2 d.steps ++ octetsOf 1 0xA0)
    else s)

/-- A message on a running port. -/
def State.ptpMessage (s : State) (i : Nat) (o : List Byte) (rx : Int) : State :=
  let p := s.ptpPort i
  let type := fld (nth 0 o 0) 3 0
  let seq := at_ o 30 2
  let sender : BitVec 80 := BitVec.ofNat 80 (at_ o 20 10)
  let mine := decide (p.mode = .slave) && (match p.best with | some d => decide (d.sender = sender) | none => false)
  if at_ o 4 1 ≠ s.ptpDomain then s
  else if type = 0 then
    let s := s.count 0x0802 i 1
    if !mine then s
    else
      let two := flag (nth 0 o 6) 1
      s.setPtpPort i { p with syncSeq := seq, syncRx := some rx, syncTx := if two then none else some (ptpTime o 34 + ptpCorrection o) }
  else if type = 8 then
    let s := s.count 0x0803 i 1
    if mine && p.syncRx.isSome && decide (p.syncSeq = seq) then s.setPtpPort i { p with syncTx := some (ptpTime o 34 + ptpCorrection o) } else s
  else if type = 9 then
    let s := s.count 0x0804 i 1
    if !mine || decide (at_ o 44 10 ≠ (s.portId i).toNat) || decide (seq ≠ p.reqSeq) then s
    else
      match p.syncTx, p.syncRx, p.reqTx with
      | some t1, some t2, some t3 =>
        let t4 := ptpTime o 34 - ptpCorrection o
        let off := ((t2 - t1) - (t4 - t3)) / 2
        let s : State := { s.setPtpPort i { p with reqTx := none } with tim.pathDelay := ((t2 - t1) + (t4 - t3)) / 2 }
        s.ptpOffset (Config.servo (sysPtpBw s.timSys) s.tim.offset off)
      | _, _, _ => s
  else if type = 11 then
    let s := s.count 0x0805 i 1
    let d : PtpData := { cls := at_ o 48 1, acc := at_ o 49 1, var := at_ o 50 2, prio2 := at_ o 52 1, localPrio := ptpLocalPrio (s.ptpCfg i),
                         gm := BitVec.ofNat 64 (at_ o 53 8), steps := at_ o 61 2, sender := sender }
    if at_ o 20 8 = s.clockId.toNat then s
    else
      let take := match p.best with | none => true | some b => decide (b.sender = sender) || ptpBetter d b
      if take then (s.setPtpPort i { p with best := some d, heardAt := s.now }).ptpDecide else s
  else if type = 1 then
    let s := s.count 0x0806 i 1
    if p.mode = .master then
      s.ptpSend i 9 (s.ptpHeader i 9 54 seq 0xFC ++ ptpStamp rx ++ octetsOf 10 sender.toNat)
    else s
  else s

/-- A frame of EtherType 0x88F7 on a lane, or on CP2 as place 40 (R366). -/
def State.ptpFrame (s : State) (place : Nat) (h : EthHead) (fn : BitVec 48) (cycle : BitVec 17) : State :=
  match s.tim.ports.find? fun x => ptpEn (s.ptpCfg x.1) && decide (ptpPlace (s.ptpCfg x.1) = place) && decide (ptpVid (s.ptpCfg x.1) = h.vid) with
  | some x => s.ptpMessage x.1 h.rest (counterNs fn cycle + ptpAsym (s.ptpCfg x.1))
  | none => s.count 0x0612 place 1

/-! Reception of Ethernet frames (R321) -/

/-- ETHERNET_FRAME_RECEIVE: the MAC, then PTP, then the queues and the forwarding entries. -/
def State.ethReceive (s : State) (f : EthRx) : State :=
  let n := f.lane.val
  let h := ethHead f.octets
  let size := f.octets.length + 4
  if !s.laneEth n || !s.linkUp n then s
  else if !f.fcsOk || decide (size < 64) || decide (9600 < size) then s.count 0x0108 n 1
  else if h.etype = 0x8808 then
    let l := s.lane n
    (s.setLane n { l with pauseDiscards := l.pauseDiscards + 1 }).count 0x0106 n 1
  else
    let s := s.count 0x0107 n 1
    if h.etype = 0x88F7 then s.ptpFrame n h f.fn f.cycle else s.ethForward n h f.octets

def execEthernetFrameReceive (f : EthRx) (s : State) : Host.Outcome State Fault Refusal := .next (s.ethReceive f)

/-! Commands -/

/-- PTP_SET. -/
def State.ptpSet (s : State) (c : Cmd) : State :=
  let w := c.word 1
  s.runOp c (setting 8 15 OPR [0, maskOf [(63, 24)], allBits] 5) [(decide (fld w 63 56 < 24 ∨ 43 < fld w 63 56), 1)] none fun s =>
    .ok (State.ptpDecide { s with cfg.tim.ptp0 := w, cfg.tim.ptp1 := c.word 2 }) []

/-- PTP_PORT_SET. A port that is turned on listens; a changed one starts anew. -/
def State.ptpPortSet (s : State) (c : Cmd) : State :=
  let i := c.timObj
  let w := c.word 1
  s.runOp c (setting 8 16 OPR [timMask, maskOf [(63, 19)]] 0) [(decide (15 < i), 0), (decide (40 < ptpPlace w ∨ ptpLocalPrio w = 0), 1)] none fun s =>
    let clash := s.cfg.tim.ports.any fun x => decide (x.1 ≠ i) && ptpEn x.2 && decide (ptpPlace x.2 = ptpPlace w)
    if ptpEn w && (decide (s.clockId = 0) || (decide (ptpPlace w ≠ 40) && !s.laneEth (ptpPlace w)) || clash) then refuse stState 0 s
    else
      let old := s.ptpCfg i
      let s : State := { s with cfg.tim.ports := s.cfg.tim.ports.put ptpPortReset i w }
      let s := if old = w then s
        else (s.setPtpPort i { PtpPort.reset with mode := (s.ptpPort i).mode, heardAt := s.now }).ptpTo i (if ptpEn w then .listening else .disabled)
      .ok s.ptpDecide []

/-- PTP_STATUS. Without a slave port the parent is the clock itself. -/
def State.ptpStatus (s : State) (c : Cmd) : State :=
  let i := c.timObj
  s.runOp c (plainOp 8 17 OPR [timMask]) [(decide (15 < i), 0)] none fun s =>
    let d := s.parent.getD s.ownData
    .ok s [mkWord [(3, 0, (s.ptpPort i).mode.code), (11, 8, s.tim.dpll.code), (23, 16, d.cls),
        (31, 24, if s.parent.isSome then d.steps + 1 else 0), (63, 32, ofSigned 32 s.tim.offset)],
      BitVec.ofNat 64 (ofSigned 64 s.tim.pathDelay), d.gm]

def execPtpSet (c : Cmd) (s : State) : Host.Outcome State Fault Refusal := packet c s (·.ptpSet c)
def execPtpPortSet (c : Cmd) (s : State) : Host.Outcome State Fault Refusal := packet c s (·.ptpPortSet c)
def execPtpStatus (c : Cmd) (s : State) : Host.Outcome State Fault Refusal := packet c s (·.ptpStatus c)

end Sys2Proof.Machine
end

