-- ==== Sys2Proof/Machine/Transmit.lean ====
section
/-!
DEFINITION. The transmit side of SDH and SONET lanes, of E1s and of C37.94 ports (04_sdh_framing.md Tables 4.2 and 4.3, §4.5;
05_trib_gfp_framing.md; 09_fathom_merge.md R289 and R290).
-/
namespace Sys2Proof.Machine

/-! What an egress path carries (R97, R185, R196) -/

/-- The kinds of content of an egress path. -/
inductive PathSrc where
  | fill
  | through
  | lo
  | pie
  | vcat
  | test
  | asyncE1
  | syncE1
  deriving DecidableEq, Repr

/-- The end a record brings to a destination it drives. -/
def Conn.towards (r : Conn) (e : Eid) : Eid := if (eidPositions r.z 1).any (eidPositions e 1).contains then r.a else r.z

/-- The content of an egress path, named by the EID of its working lane. -/
def State.pathSource (s : State) (e : Eid) : PathSrc :=
  let b := s.cfg.b
  let at_ := eidPositions e 1
  let grainsHere := b.conns.any fun x => (x.2.grainVcs b).contains e
  if decide (eidLevelN e = 0) && (hoTriples e).any (fun t => let c := b.tcode (eidObj e) t; decide (c = 3 ∨ c = 4)) then .lo
  else if s.isCarrier e then .pie
  else if s.isMember e then .vcat
  else if grainsHere then (if s.framerBound e then .asyncE1 else .syncE1)
  else
    match b.conns.find? fun x => !x.2.isFree && (x.2.driven b).any at_.contains with
    | none => .fill
    | some x =>
      match eidKind (x.2.towards e) with
      | .null => .fill
      | .test => .test
      | .trib => .asyncE1
      | .queue => .asyncE1
      | _ => .through

/-- The lane whose egress image a lane sends; none sends the fill (R249). -/
def State.imageOf (s : State) (n : Nat) : Option Nat :=
  match s.cfg.b.protOf n with
  | none => some n
  | some x => if !lpArch x.2 || (s.protection false x.1).bridge then some (lpWork x.2) else none

/-! Trace octets (R101) -/

/-- The octets of one cycle through an entry. -/
def TraceEntry.cycle (t : TraceEntry) : List Byte := t.octets.take (if t.len = 0 then 1 else if t.len = 1 then 16 else 64)

/-- The next octet of a cycle, and what is left of it. -/
def State.nextTrace (s : State) (entry : Nat) (left : List Byte) : Byte × List Byte :=
  match left with
  | b :: l => (b, l)
  | [] => match (s.traceEntry entry).cycle with | b :: l => (b, l) | [] => (0, [])

/-! Marks (R289, R290) -/

/-- The symmetric record whose line end a path carries. -/
def State.symOn (s : State) (e : Eid) : Option (Nat × Conn) :=
  s.cfg.b.conns.find? fun x => x.2.sym && !x.2.isFree &&
    [x.2.a, x.2.z].any fun f => decide (eidKind f = .line) && decide (markPath f = e)

/-- A mark message of a path, built at the frame of its octet 0. -/
def State.markMessage (s : State) (e : Eid) (seq : BitVec 4) (t : PathTx) : Option (List Byte) :=
  let head (kind lag : Nat) : List Byte := [0x7E, BitVec.ofNat 8 (kind * 16 + seq.toNat)] ++ octetsOf 6 t.stamp.toNat ++ octetsOf 3 lag ++
    [if s.tick.fnSrc = 1 ∨ s.tick.fnSrc = 2 then 0x80 else 0]
  let close (o : List Byte) : List Byte := o ++ octetsOf 2 (crcOver 16 0x1021 0xFFFF o)
  match s.symOn e with
  | some x =>
    let r := s.symRec x.1
    some (close (head 2 t.lag.toNat ++ octetsOf 4 (r.nIn.getD 0xFFFF_FFFF).toNat ++ octetsOf 4 t.dIn.toNat ++ octetsOf 4 t.dOut.toNat ++
      octetsOf 4 (s.symPadNs x.1) ++ octetsOf 2 (s.cfg.b.symTag x.1)))
  | none => if s.cfg.mark.tx.look false e.toNat then some (close (head 1 0 ++ List.replicate 18 0)) else none

/-- The mark octet of a path in a frame, if it is a mark source, with the message it belongs to. -/
def State.markStep (s : State) (e : Eid) (t : PathTx) : State × Option Byte :=
  let p := s.path e
  let n := if eidLevelN e = 0 then t.stamp.toNat % 32 else t.stamp.toNat % 128 / 4
  if markPosOf (s.pathOh e) = 0 then (s, none)
  else if n = 0 then
    match s.markMessage e p.markSeq t with
    | some m => (s.setPath e { p with markMsg := m, markSeq := p.markSeq + 1 }, m.head?)
    | none => (s.setPath e { p with markMsg := [] }, none)
  else (s, p.markMsg[n]?)

/-! Pointer generation (R106 to R109) -/

/-- A pointer word: NDF, SS bits by the lane's kind, and the value. -/
def ptrWord (ndf sonet : Bool) (v : Nat) : BitVec 16 := mkBits 16 [(15, 12, if ndf then 9 else 6), (11, 10, if sonet then 0 else 2), (9, 0, v)]

/-- The egress process of a path in one frame or multiframe, and the pointer it sends. -/
def State.egress (s : State) (e : Eid) (t : PathTx) : State × BitVec 16 :=
  let sonet := s.laneSonet (eidPort e)
  let p := s.path e
  if t.allQb then (s.setPath e { p with egress := { p.egress with wasAis := true } }, 0xFFFF)
  else
    let f := s.takeFree
    let q := match t.jump with | some v => { p.egress with value := v.toNat % (topOffset e + 1), wasAis := true } | none => p.egress
    let r := q.step (justUnit e) (topOffset e) t.drift f.1.toNat
    let s := if q.started then s else f.2
    let ndf := q.wasAis || decide (r.2 = .recentre ∨ r.2 = .start)
    let pos := (decide (r.2 = .pos)).toNat
    let neg := (decide (r.2 = .neg)).toNat
    let re := decide (r.2 = .recentre)
    let y := if q.wasAis then { r.1 with sinceNdf := 0, wasAis := false } else r.1
    let s := s.setPath e { p with egress := y }
    let s := (((s.count 0x0204 e.toNat pos).count 0x0205 e.toNat neg).count 0x0206 e.toNat re.toNat).raiseIf re { src := 0x046, obj := e.toNat }
    (s, if pos = 1 then ptrWord false sonet (q.value ^^^ iBits) else if neg = 1 then ptrWord false sonet (q.value ^^^ dBits)
      else ptrWord ndf sonet r.1.value)

/-! Path overhead (Table 4.3) -/

/-- The even and odd parity bits of an octet in BIP-2. -/
def bip2 (b : Byte) : Nat := 2 * (popCount (b.toNat &&& 0xAA) 8 % 2) + popCount (b.toNat &&& 0x55) 8 % 2

/-- A VCAT control packet leaves on a member at the start of a control multiframe (R155, R157, R161): every member of the group carries the same MFI.
Its octets lie where G.707 puts them (log entry 45). -/
def State.vcatSend (s : State) (e : Eid) : State :=
  match s.fram.vcat.find? fun x => x.2.members.any fun m => decide (m.eid = e) with
  | none => s
  | some x =>
    let w := s.vcatCfg x.1
    match x.2.members.find? fun m => decide (m.eid = e) with
    | none => s
    | some m =>
      if s.now % vcatMulti w ≠ 0 then s
      else
        let f := s.takeFree
        let mst := (List.range 64).map fun i => x.2.members.any fun y => decide (y.sqRx = i) && y.mstTx
        f.2.emit (.vcatPacket e (s.now % 4096) m.sq m.ctrlTx (flag f.1 0) mst x.2.rsAckTx)

/-- HP-RDI or LP-RDI is returned on a terminated path (Table 4.9). -/
def State.pathRdiTx (s : State) (e : Eid) : Bool := !s.pathMasked (s.seen e) && (s.path (s.seen e)).down

/-- The overhead octets a path sends. `e` names the path, `img` the path of the working lane whose content it carries. -/
def State.pathOverhead (s : State) (e img : Eid) (src : PathSrc) (t : PathTx) : State × List Byte :=
  let ho := decide (eidLevelN e = 0)
  let at_ := if ho then 4 else 2
  let at_ := at_ + (if markPosOf (s.pathOh img) = 2 then 1 else 0)
  let mk := s.markStep img t
  let s := mk.1
  let put (o : List Byte) : List Byte := match mk.2 with | some b => patch o at_ [b] | none => o
  if src = .fill then (s, List.replicate (if ho then 9 else 4) 0)
  else if src = .through then
    let p := s.path e
    let o := put t.oh
    let fix := p.markIn ^^^ p.markOut
    let o := if ho then patch o 1 [nth 0 t.oh 1 ^^^ fix] else patch o 0 [nth 0 t.oh 0 ^^^ BitVec.ofNat 8 (bip2 fix * 64)]
    (s.setPath e { p with markIn := nth 0 t.oh at_, markOut := nth 0 o at_ }, o)
  else
    let rx := s.path (s.seen img)
    let rdi := s.pathRdiTx img
    let p := s.path e
    let tr := s.nextTrace (fld (s.pathOh img) 47 40) p.traceLeft
    if ho then
      let s := if src = .vcat then s.vcatSend img else s
      let f := s.takeFree
      let s := if src = .vcat then f.2 else s
      let h4 : Byte := if src = .lo then BitVec.ofNat 8 (0xFC + p.h4Tx.toNat) else if src = .vcat then BitVec.ofNat 8 f.1.toNat else 0
      let c2 : Byte := if src = .lo then 0x02 else if src = .test then 0xFE else 0x1B
      let g1 : Byte := BitVec.ofNat 8 (Nat.min 8 rx.lastViol * 16 + 8 * rdi.toNat)
      (s.setPath e { p with traceLeft := tr.2, h4Tx := p.h4Tx + 1, markIn := 0, markOut := 0 }, put [tr.1, t.parity, c2, g1, 0, 0, h4, 0, 0])
    else
      let s := if src = .vcat then s.vcatSend img else s
      let f := s.takeFree
      let s := if src = .vcat then f.2 else s
      let label := if src = .asyncE1 then 2 else if src = .syncE1 then 4 else if src = .vcat then 5 else 6
      let v5 : Byte := mkBits 8 [(7, 6, fld t.parity 7 6), (5, 5, (decide (0 < rx.lastViol)).toNat), (3, 1, label), (0, 0, rdi.toNat)]
      let k4 : Byte := if src = .vcat then mkBits 8 [(6, 6, f.1.toNat % 2)] else 0
      (s.setPath e { p with traceLeft := tr.2, markIn := 0, markOut := 0 }, put [v5, tr.1, 0, k4])

/-- One path of a transmitted frame: its pointer and overhead; AIS is all ones (R108). -/
def State.pathTransmit (s : State) (e : Eid) (image : Option Nat) (t : PathTx) : State × Eid × BitVec 16 × List Byte :=
  let img := match image with | some n => setFld e 31 24 n | none => e
  let src := if image.isNone then PathSrc.fill else s.pathSource img
  if src = .fill then
    let o := s.pathOverhead e img src t
    (o.1, e, ptrWord false (s.laneSonet (eidPort e)) 0, o.2)
  else
    let g := s.egress e t
    let o := g.1.pathOverhead e img src t
    (o.1, e, g.2, if t.allQb then List.replicate (if eidLevelN e = 0 then 9 else 4) 0xFF else o.2)

/-- SDH_FRAME_TRANSMIT: the overhead octets in the order A1 A2 J0, the rest of row 1, B1 E1 F1 D1 to D3 B2 K1 K2 D4 to D12 S1 M1 M0 E2, and the
paths of the frame. -/
def State.sdhTransmit (s : State) (f : SdhTx) : State :=
  let n := f.lane.val
  if !s.sdhRuns n then s
  else
    let l := s.sdhLane n
    let oh := s.laneOh n
    let j := s.nextTrace (fld oh 55 48) l.j0Left
    let s := s.setSdhLane n { l with j0Left := j.2 }
    let k := s.kSent n
    let dcc : Byte := BitVec.ofNat 8 (fld oh 23 16)
    let octet (hi lo : Nat) : Byte := BitVec.ofNat 8 (fld oh hi lo)
    let overhead : List Byte := [0xF6, 0x28, j.1, 0xAA, f.b1, octet 47 40, octet 39 32, dcc, dcc, dcc] ++
      octetsOf (3 * rateN (s.laneRate n)) f.b2.toNat ++ [k.1, k.2] ++ List.replicate 9 dcc ++
      [BitVec.ofNat 8 (s.qlFor n), BitVec.ofNat 8 l.lastB2, 0, octet 31 24]
    let image := s.imageOf n
    let mine := f.paths.filter fun t => decide (eidKind t.eid = .line) && decide (eidPort t.eid = n) && decide (eidLevelN t.eid ≤ 1) && eidForm t.eid
    let r := mine.foldl (fun (a : State × List (Eid × BitVec 16 × List Byte)) t =>
      let x := a.1.pathTransmit t.eid image t
      (x.1, a.2 ++ [x.2])) (s, [])
    r.1.emit (.sdhFrame n overhead r.2)

def execSdhFrameTransmit (t : SdhTx) (s : State) : Host.Outcome State Fault Refusal := .next (s.sdhTransmit t)

/-! E1 and C37.94 -/

/-- A remote alarm is returned for an E1 (Table 5.4). -/
def State.e1ReturnsA (s : State) (e : Eid) : Bool :=
  let ds := s.e1Defects e
  unmasked ds 1 || unmasked ds 2 || unmasked ds 3 || (!(s.e1 e).inFrame && !s.e1Masked e)

/-- Octets as bits, the first octet highest. -/
def frameBits (o : List Byte) : BitVec 256 := BitVec.ofNat 256 (natOfOctets o)

/-- Si of a transmitted frame, and whether it is an E bit that reports an errored submultiframe (Table 5.1, R132). -/
def E1State.siTx (x : E1State) (crc4 n : Nat) : Bool × Bool :=
  if crc4 = 0 then (true, false)
  else if n % 2 = 0 then (x.txLast.getLsbD (3 - n % 8 / 2), false)
  else if n = 13 ∨ n = 15 then
    (if x.crc4 = .fallback then (false, false) else if 0 < x.eOwed then (false, true) else (true, false))
  else ((mfExpected n).getD true, false)

/-- The E1s the device frames on transmit. -/
def State.e1Transmit (s : State) (e : Eid) (grains : List Byte) : State :=
  let x := s.e1 e
  let w := s.e1Cfg e
  let mode := e1Crc4 w
  let n := x.txFrame
  let si := x.siTx mode n
  let ssm := if mode = 0 then 0 else e1SsmSa w
  let ql := s.qlFor (if eidKind e = .trib then 40 + eidTrib e else eidPort e)
  let sa := if ssm = 0 then fld w 20 16 else (setFlag (BitVec.ofNat 5 (fld w 20 16)) (8 - ssm) (decide (ql / 2 ^ (3 - n % 8 / 2) % 2 = 1))).toNat
  let ts0 : Byte := if n % 2 = 0 then mkBits 8 [(7, 7, si.1.toNat), (6, 0, 0x1B)]
    else mkBits 8 [(7, 7, si.1.toNat), (6, 6, 1), (5, 5, (s.e1ReturnsA e).toNat), (4, 0, sa)]
  let body := (grains ++ List.replicate 31 0xFF).take 31
  let bits := frameBits (ts0 :: body)
  let crc := crc4Frame bits bits 0 (decide (n % 2 = 0)) (if n % 8 = 0 then 0 else x.txCrc)
  let x' := { x with txFrame := (n + 1) % 16, txCrc := crc, txLast := if n % 8 = 7 then crc else x.txLast, eOwed := x.eOwed - si.2.toNat }
  (s.setE1 e x').emit (.e1Frame e (ts0 :: body))

/-- A data octet of C37.94: each bit followed by its complement (R139). -/
def c37Pairs (b : Byte) : List Byte :=
  octetsOf 2 ((List.range 8).foldl (fun v i => let x := (b.getLsbD (7 - i)).toNat; v * 4 + 2 * x + (1 - x)) 0)

/-- A C37.94 frame: the channel count, the yellow bit, and twelve slots; the parts that the standard fixes are left out. -/
def State.c37Transmit (s : State) (p : Nat) (grains : List Byte) : State :=
  let n := s.tribN p
  let x := s.c37 p
  let yellow := x.los || x.lof.on || !x.inFrame
  let data := (grains.take n ++ List.replicate (n - grains.length) 0xFF) ++ List.replicate (12 - n) 0xFF
  s.emit (.e1Frame (portE1 p) ([BitVec.ofNat 8 n, if yellow then 1 else 0] ++ data.flatMap c37Pairs))

/-- E1_FRAME_TRANSMIT. -/
def execE1FrameTransmit (eid : Eid) (grains : List Byte) (s : State) : Host.Outcome State Fault Refusal :=
  let p := eidTrib eid
  .next (if !isE1Eid eid then s
    else if eidKind eid = .trib ∧ s.c37Runs p then s.c37Transmit p grains
    else if s.e1Runs eid then s.e1Transmit eid grains else s)

end Sys2Proof.Machine
end

