-- ==== Sys2Proof/Machine/Reset.lean ====
section
/-!
DEFINITION. What every reset does: fault frame, reset record, the volatile state cleared; the tamper log and zeroisation; and how the blocks start
from a configuration (18_reset_recovery.md 18.1, 18.5, 18.6; R501, R553).
-/
namespace Sys2Proof.Machine

/-- STATE of PWR_STATUS; the Gill state and the first steps of a wake are 7, as in the tamper log (Table 18.8). -/
def PwrMode.code : PwrMode → Nat
  | .run => 0
  | .firkin => 1
  | .entry => 2
  | .gill => 7
  | .waking n => if n = 5 then 3 else 7

/-- PWR_STATUS. -/
def State.pwrStat (s : State) : Half :=
  let p := s.pwr
  mkHalf [(31, 29, p.mode.code), (28, 28, p.voscOn.toNat), (27, 27, p.voscLatched.toNat), (26, 26, p.avsFault.toNat), (25, 25, p.rcClocks.toNat),
    (23, 16, p.lineOn.toNat), (15, 15, p.tribOn.toNat), (14, 14, p.pktOn.toNat), (13, 13, p.mateOn.toNat), (12, 12, p.fabOn.toNat),
    (9, 0, p.vcore.toNat)]

/-- What the newest record of the journal stands for. -/
def Journal.latest (j : Journal) : JSnap :=
  match j.log.getLast? with
  | some r => r.snap
  | none => j.base

/-- The settings of chapter 18 as the always-on engines know them. -/
def State.tamperCfg (s : State) (n : Nat) : Half := s.jr.latest.cfg.boot.tamper.look tamperCfgReset n

/-! The tamper log (R581) -/

/-- An entry of the tamper log: kind, input or operation, power-up flag, ARG, actions (Table 18.8). -/
def State.logTamper (s : State) (kind n : Nat) (up : Bool) (arg actions : Nat) : State :=
  let k := s.jr.kept
  let count := (k.tamperCount + 1) % 2 ^ 64
  let w0 := BitVec.ofNat 64 count
  let w1 := mkWord [(63, 60, kind), (59, 56, n), (55, 55, up.toNat), (50, 48, s.tick.fnSrc.toNat), (47, 0, s.fnNat)]
  let w2 := mkWord [(63, 32, arg), (31, 24, actions), (23, 21, s.pwr.mode.code)]
  let e : TamperEntry := ⟨w0, w1, w2, BitVec.ofNat 64 (crc32 [w0, w1, w2])⟩
  { s with jr.kept := { k with tamperLog := lastN 512 (k.tamperLog ++ [e]), tamperCount := count } }

/-- An event raised at once, or after the wake when the device sleeps (R580). -/
def State.raiseLater (s : State) (src : Nat) (clr : Bool) (code obj : Nat) : State :=
  if s.awake && s.boot.mode = .running then s.raise { src := src, clr := clr, code := code, obj := obj }
  else { s with boot.owed := s.boot.owed ++ [(src, clr, code, obj)] }

/-- Owed events are raised. -/
def State.raiseOwed (s : State) : State :=
  s.boot.owed.foldl (fun s e => s.raise { src := e.1, clr := e.2.1, code := e.2.2.1, obj := e.2.2.2 }) { s with boot.owed := [] }

/-- Zeroisation: the key entries of every tenant but tenant 0, or of all, go; the partner is told (R579). -/
def State.zeroise (s : State) (all : Bool) (n : Nat) : State :=
  let was := s.commissioning
  let gone := (s.cmd.keys.map (·.1)).filter fun t => all || decide (t ≠ 0)
  let s := gone.foldl (fun s t => s.setTenantKeys t .reset) s
  let s : State := { s with jr.keys := s.jr.keys.filter fun e => !all && decide (e.tid = 0) }
  let s := s.logTamper 4 n false 0 0
  let s := if s.mirroring then gone.foldl (fun s t => s.mirror 4 (s.tenantBody t)) s else s
  let s := s.raiseLater 0x183 false all.toNat 0
  if s.commissioning && !was && s.cmd.journalRead then s.raiseLater 0x0C6 false 0 0 else s

/-- The ports that tamper locks hold (R578): bit 0 of a lock is CP2, bit 1 CP3. -/
def Kept.lockedPorts (k : Kept) : BitVec 4 :=
  let all := k.locks.foldl (fun a e => a ||| e.2) (0 : BitVec 2)
  BitVec.ofNat 4 (4 * all.toNat)

/-! Reset (R562 to R564) -/

/-- The fault frame: what of it the model holds (log entry 10). -/
def State.faultFrame (s : State) : FaultFrame :=
  { fn := s.tick.fn, eccInfo := s.mem.eccInfo, matrixInfo := s.host.matrix.errInfo, pwrStatus := s.pwrStat,
    inService := (List.range 4).map fun t => (s.target t).stack.map (·.1),
    chans := (List.range 8).map fun c => match (s.host.chans.look Chan.reset c).mode with | .idle => 0 | .running => 1 | .waiting => 2 }

/-- The fault frame and the reset record of a reset (R564). -/
def State.resetRecord (s : State) (cause : Nat) : State :=
  let k := s.jr.kept
  let r : ResetRec := ⟨cause, s.tick.fnSrc, s.tick.fn, (s.now - s.boot.bootedAt) / 8000, k.olderFrame⟩
  let k := if k.olderFrame then { k with frame1 := some s.faultFrame } else { k with frame0 := some s.faultFrame }
  { s with jr.kept := { k with olderFrame := !k.olderFrame, resets := lastN 16 (k.resets ++ [r]) } }

/-- The slot that does not run (R585); after a host boot, slot A (log entry 60). -/
def State.idleIsA (s : State) : Bool := decide (s.boot.slot ≠ 0)

/-- A write of the idle slot is cut short: the slot is without its marker (R585). -/
def State.tearFlash (s : State) : State :=
  if !s.boot.flashBusy then s
  else
    let k := s.jr.kept
    { s with boot.flashBusy := false, jr.kept := if s.idleIsA then { k with imageA := .none } else { k with imageB := .none } }

/-- VOSC_OUT starts: the oscillator age starts again (R360); a success is known 4 ms later. -/
def State.voscStart (s : State) : State :=
  State.emit { s with pwr.voscOn := true, pwr.voscLatched := false, pwr.voscRetryAt := s.now + 32, tim.oscFrom := s.now, tim.oscBase := 0 } (.pin .voscOut true)

/-- WDT_MS. -/
def State.wdtMs (s : State) : Nat := s.cfg.boot.wdtMs.toNat

/-- The watchdog goes on with a full period (R571). -/
def State.wdtResume (s : State) : State :=
  { s with boot.wdtKicks := 0, boot.wdtEnd := s.now + (if s.boot.wdtArmed then 8 * s.wdtMs else 80000) }

/-- A key of the octets or marks of one of these stores. -/
def inStores (l : List Nat) (k : Nat) : Bool := l.contains (k / 2 ^ 32)

/-- The volatile state outside PD_AON is cleared and boot begins: what stays is the journal, the always-on domain, and, unless it is lost, the Gill
store (R562, R563; log entry 58). -/
def State.cleared (s : State) (cause : Nat) (gill : Bool) : State :=
  let stores := if gill then [7, 8] else [8]
  let p := s.pwr
  { State.reset with
    pending := s.pending, outs := s.outs, freeIdx := s.freeIdx, now := s.now,
    ident := { Identity.reset with strapBoot := s.ident.strapBoot, strapHome := s.ident.strapHome, strapCompat := s.ident.strapCompat,
                                   strapTestN := s.ident.strapTestN, keyHash := s.ident.keyHash },
    cmd := { CmdState.reset with locked := s.jr.kept.lockedPorts },
    mem := { MemState.reset with octets := s.mem.octets.filter (fun c => inStores stores c.1), marks := s.mem.marks.filter fun c => inStores stores c.1 },
    tim := { TimState.reset with oscFrom := s.tim.oscFrom, oscBase := s.tim.oscBase },
    pwr := { PowerState.reset with
             voscOn := p.voscOn, voscLatched := p.voscLatched, voscTries := p.voscTries, voscRetryAt := p.voscRetryAt, voscOwed := p.voscOwed,
             rcClocks := s.ident.strapCompat, oscRunning := p.oscRunning || !s.awake, wakeStatus := p.wakeStatus,
             wakeFails := if gill then p.wakeFails else [],
             wakeLog := if gill then p.wakeLog else [], sleep := if gill then p.sleep else .none, calXtal := p.calXtal, calRc := p.calRc, pfwLow := p.pfwLow,
             dieTemp := p.dieTemp },
    pair := { PairState.reset with home := s.pair.home, strapConflict := s.pair.strapConflict, claimHigh := s.pair.claimHigh,
                                   mode := if s.pair.mode = .faulted then .faulted else .alone, lastCause := s.pair.lastCause },
    boot := { BootState.reset with cause := cause, tamperActive := s.boot.tamperActive, mbox := s.boot.mbox, owed := s.boot.owed,
                                   bootFail := s.boot.bootFail },
    jr := { s.jr with compacting := false } }

/-- A reset other than a power-on reset: the token is released before anything else (R562); boot brings up the core, asks for its voltage and
starts the oscillator when it is off (R538, R540, Table 17.7). -/
def State.restart (s : State) (cause : Nat) (gill : Bool := true) : State :=
  let t := ((s.fatal.tearFlash).resetRecord cause).cleared cause gill
  let t := if s.pwr.coreEn then t else t.emit (.pin .coreEn true)
  (if t.pwr.voscOn then t else t.voscStart).emit (.avs 750)

/-! The start of the blocks from a configuration -/

/-- A lane starts in CONFIG at its rate (R58, R534). -/
def State.laneStart (s : State) (n : Nat) : State :=
  let w := s.laneCfg n
  let s := s.setLane n { Lane.reset with config := decide (rateOf w ≠ 0) }
  s.setSdhLane n (if rateSdh (rateOf w) then { SdhLane.reset with framer := .hunt } else .reset)

def State.lanesStart (s : State) (which : Nat → Bool) : State :=
  (List.range 40).foldl (fun s n => if which n then s.laneStart n else s) s

/-- The members of the VCAT groups start as just added, with rings of their own (R159, R282); `rings` false keeps the rings they have. -/
def State.vcatStart (s : State) (rings : Bool) : State :=
  s.cfg.fram.members.foldl (fun s x =>
    let g := x.1
    let w := s.vcatCfg g
    let s := x.2.foldl (fun s e =>
      let n := ringBlocks (storedRate e 1) (s.cfg.mark.vcatDmax.look 16 g + memberJ (vcatType w))
      let r := if rings then s.takeBlocks n else ([], s)
      let s : State := if rings then { r.2 with align.members := r.2.align.members.put [] e.toNat r.1 } else s
      let m := Member.make e 0 ctrlIdle (if vcatLcas w then .adding else .steady)
      s.setVcat g { s.vcat g with members := (s.vcat g).members ++ [m] }) s
    s.vcatOrder g) { s with fram.vcat := [] }

/-- Candidates and PTP ports start; nothing is raised (R344, R372). -/
def State.timStart (s : State) : State :=
  let s := (List.range 113).foldl (fun s c => if timEn (s.timIn c) then s.candTo c .disqualified true else s) s
  (List.range 16).foldl (fun s i => if ptpEn (s.ptpCfg i) then s.setPtpPort i { PtpPort.reset with mode := .listening } else s) s

/-- Everything that follows from the records of a configuration: groups and their rings, pairs, symmetric records, queues (R501). -/
def State.applyConfig (s : State) (new : BCfg) : State :=
  let old := BCfg.reset
  let oh := s.cfg.sdh
  let s : State := { s with cfg.b := new }
  let s := (new.prot.pg.map (·.1)).foldl (fun s i => s.flipGroup old new i) s
  let s := (new.prot.lp.map (·.1)).foldl (fun s i => s.flipPair old new i) s
  let s := ((new.fab.conn.map (·.1)).filter fun i => (new.connAt i).sym).foldl (fun s i => s.flipSym old new i) s
  let s := (new.queues.map (·.1)).foldl (fun s i => s.flipQueue old new i) s
  { s with cfg.sdh := oh }

/-- Counters with CKPT = 1 resume from their last checkpoint, the others start at 0 (R475). -/
def State.countersResume (s : State) : State :=
  { s with ev.counters := s.jr.checkpoints.foldl (fun t x => Tab.put Counter.reset t x.1 ⟨x.2, 0⟩) [] }

end Sys2Proof.Machine
end

