-- ==== Sys2Proof/Machine/Power.lean ====
section
/-!
DEFINITION. Power states, supplies, the oscillator supply, the Gill entry and the wake, time across sleep, the power-fail checkpoint, and the commands
of class 0x0D (17_power.md; R502, R503).
-/
namespace Sys2Proof.Machine

/-! POWER_CFG and WAKE_CFG -/

def State.voscEn (s : State) : Bool := flag s.cfg.power.power 63
def State.oscKeep (s : State) : Bool := flag s.cfg.power.power 62
def State.wakeFirkin (s : State) : Bool := decide (fld s.cfg.power.power 61 60 = 1)
def State.retries (s : State) : Nat := fld s.cfg.power.power 59 57
def State.retryMs (s : State) : Nat := fld s.cfg.power.power 55 46
def State.firkinMate (s : State) : Bool := flag s.cfg.power.power 39

/-! Firkin (R532 to R535) -/

/-- The essential set, as the flags stand. -/
def State.essentialSet (s : State) : Essential :=
  let lanes := (List.range 40).foldl (fun (m : BitVec 40) n => setFlag m n (flag (s.laneCfg n) 28)) 0
  { lanes := lanes, ports := (List.range 64).foldl (fun (m : BitVec 64) n => setFlag m n (flag (s.tribCfg n) 15)) 0,
    conns := (s.cfg.b.fab.conn.map (·.1)).filter fun i => let r := s.cfg.b.connAt i; !r.isFree && r.essential,
    queues := (s.cfg.b.queues.map (·.1)).filter fun q => let r := s.cfg.b.queue q; decide (r.kind ≠ 0) && r.essential && lanes.getLsbD r.lane }

/-- The quintets that hold an essential lane. -/
def Essential.quintets (e : Essential) : BitVec 8 :=
  (List.range 40).foldl (fun (m : BitVec 8) n => if e.lanes.getLsbD n then setFlag m (n / 5) true else m) 0

/-- PD_PKT stays on while any essential queue exists (R326). -/
def State.pktNeeded (s : State) : Bool := s.cfg.b.queues.any fun x => let r := s.cfg.b.queue x.1; decide (r.kind ≠ 0) && r.essential

def State.mateNeeded (s : State) : Bool := s.firkinMate && s.paired

/-- A group keeps running in Firkin (R276). -/
def State.groupKeeps (s : State) (e : Essential) (pg : Nat) : Bool :=
  e.conns.any fun i => let r := s.cfg.b.connAt i; r.pgEn && decide (r.pg = pg)

/-- Firkin is entered at a tick. -/
def State.enterFirkin (s : State) : State :=
  let e := s.essentialSet
  let s : State := { s with pwr.mode := .firkin, pwr.ess := e, pwr.lineOn := e.quintets, pwr.tribOn := decide (e.ports ≠ 0), pwr.pktOn := s.pktNeeded,
                            pwr.mateOn := s.mateNeeded }
  (s.mateFollow).raise { src := 0x160, code := 1 }

/-- What Firkin held down starts when Run is entered (R309, R326, R534). -/
def State.leaveFirkin (s : State) : State :=
  let e := s.pwr.ess
  let s : State := { s with pwr.mode := .run, pwr.ess := .none, pwr.lineOn := 0xFF, pwr.tribOn := true, pwr.pktOn := true, pwr.mateOn := true }
  let s := s.lanesStart fun n => !e.lanes.getLsbD n
  let s := (s.pie.queues.map (·.1)).foldl (fun s q => if e.queues.contains q then s else s.queueTo q (s.queue q).toIdle) s
  let s := s.alignAfresh (s.groupKeeps e)
  (s.mateFollow).raise { src := 0x160, code := 0 }

/-- PWR_STATE Run or Firkin at the tick (R534). -/
def State.pwrTick (s : State) : State :=
  let s := match s.pwr.goal with
    | none => s
    | some firkin =>
      let s : State := { s with pwr.goal := none }
      let s := if firkin then (if s.pwr.mode = .run then s.enterFirkin else s) else if s.pwr.mode = .firkin then s.leaveFirkin else s
      s.fix .pwrState stOk [s.tick.fn.setWidth 64]
  if s.pwr.voscOwed && s.pwr.voscOn && s.due s.pwr.voscRetryAt then
    State.raise { s with pwr.voscOwed := false, pwr.voscTries := 0 } { src := 0x161, clr := true }
  else s

/-! The core regulator (R537 to R539) -/

/-- A voltage is requested. -/
def State.avsAsk (s : State) (mv : Nat) : State := State.emit { s with pwr.avsRequest := mv, pwr.avsBusy := true } (.avs mv)

/-- An AVS fault: a fatal fault of the pair; the last request is held. -/
def State.avsFail (s : State) : State :=
  if s.pwr.avsFault then s else (State.fatal { s with pwr.avsFault := true, pwr.avsBusy := false }).raiseLater 0x162 false 0 0

/-- AVS_REQUEST_DONE: VDone, and the monitor within 15 mV of the request. -/
def execAvsRequestDone (mv : BitVec 10) (s : State) : Host.Outcome State Fault Refusal :=
  .next (if s.pwr.avsBusy && decide (s.pwr.avsRequest ≤ mv.toNat + 15) && decide (mv.toNat ≤ s.pwr.avsRequest + 15) then
      { s with pwr.avsBusy := false, pwr.vcore := mv, pwr.avsTimeouts := 0, pwr.avsNacks := 0 }
    else s)

/-- AVS_TIMEOUT: 1 ms after its write. -/
def execAvsTimeout (s : State) : Host.Outcome State Fault Refusal :=
  .next (if !s.pwr.avsBusy then s
    else
      let n := s.pwr.avsTimeouts + 1
      let s : State := { s with pwr.avsBusy := false, pwr.avsTimeouts := n }
      if 3 ≤ n then s.avsFail else s)

/-- AVS_NACK: ACK 0b01 is retried after 10 µs, anything else counts towards a fault. -/
def execAvsNack (again : Bool) (s : State) : Host.Outcome State Fault Refusal :=
  .next (if again then (if s.pwr.avsBusy then s.avsAsk s.pwr.avsRequest else s)
    else
      let n := s.pwr.avsNacks + 1
      let s : State := { s with pwr.avsNacks := n }
      if 3 ≤ n then s.avsFail else s)

/-- AVS_ADJUST: one step of 5 mV at most per 1 ms, from the delay monitors (R538). -/
def execAvsAdjust (up : Bool) (s : State) : Host.Outcome State Fault Refusal :=
  let v := if up then s.pwr.avsRequest + 5 else s.pwr.avsRequest - 5
  .next (if (s.pwr.mode = .run ∨ s.pwr.mode = .firkin) ∧ !s.pwr.avsFault ∧ !s.pwr.avsBusy ∧ s.due s.pwr.avsStepAt ∧ 700 ≤ v ∧ v ≤ 820 then
      State.avsAsk { s with pwr.avsStepAt := s.now + 8 } v
    else s)

/-- VCORE_OUT_OF_RANGE (R539): for 10 µs. -/
def execVcoreOutOfRange (mv : BitVec 10) (s : State) : Host.Outcome State Fault Refusal :=
  .next (if (mv.toNat < 680 ∨ 840 < mv.toNat) ∧ s.awake then State.avsFail { s with pwr.vcore := mv } else s)

/-- VDD_NV_LOSS: the journal engine stops before the next word, so a record that is not committed is not there (R592). The model journals whole
records, so nothing is lost; a compaction in progress ends without its superblock. -/
def execVddNvLoss (s : State) : Host.Outcome State Fault Refusal := .next { s with jr.compacting := false }

/-! The oscillator supply (R540 to R542) -/

/-- VOSC_LATCH_OFF. -/
def execVoscLatchOff (s : State) : Host.Outcome State Fault Refusal :=
  .next (if !s.pwr.voscOn then s
    else
      State.raiseLater (State.emit { s with pwr.voscOn := false, pwr.voscLatched := true, pwr.voscOwed := true,
                                            pwr.voscRetryAt := s.now + 8 * s.retryMs } (.pin .voscOut false)) 0x161 false 3 0)

/-- VOSC_RETRY: an automatic attempt. -/
def execVoscRetry (s : State) : Host.Outcome State Fault Refusal :=
  .next (if s.pwr.voscLatched && decide (s.pwr.voscTries < s.retries) && (s.due s.pwr.voscRetryAt || !s.awake) then
      State.voscStart { s with pwr.voscTries := s.pwr.voscTries + 1 }
    else s)

/-- OSCIN_LOSS: stopped for 1 µs. -/
def execOscinLoss (s : State) : Host.Outcome State Fault Refusal :=
  .next (if s.awake then State.setSys { s with pwr.oscRunning := false, pwr.rcClocks := true, tim.selected := none } .freeRun
    else { s with pwr.oscRunning := false })

/-- OSCIN_RETURN: 10 ms after. A move inside a frame is a stage mismatch. -/
def execOscinReturn (inFrame : Bool) (s : State) : Host.Outcome State Fault Refusal :=
  .next (if s.pwr.oscRunning then s
    else
      let s : State := { s with pwr.oscRunning := true }
      if !s.awake then s
      else
        let s := State.setSys { s with pwr.rcClocks := false, tim.acquireAt := s.now } .acquire
        if inFrame then { s with tick.slipCauses := s.tick.slipCauses ++ [4] } else s)

/-! Entering the Gill state (R543 to R546) -/

/-- Steps 1 to 3 of the entry: ports, rings and channels stop, open bushels and maintenance state end, the counters are checkpointed and staging
is written. -/
def State.beginEntry (s : State) : State :=
  let s := s.ringsOff
  let s := [4, 5, 6, 7].foldl State.chanAbort s
  let s := (s.bush.list.filter fun b => decide (b.mode = .open_)).foldl (fun s b => s.abandon b 1) s
  let s : State := { s with line.lanes := s.line.lanes.map (fun x => (x.1, x.2.quietened)),
                            line.mates := s.line.mates.map (fun x => (x.1, { x.2 with loop := 0, gen := 0, chk := 0, chkLock := false })),
                            line.tribs := s.line.tribs.map fun x => (x.1, { x.2 with loop := 0 }) }
  let s : State := { s with ev.traces := [], ev.traceFull := false }
  (List.range 16).foldl (fun s _ => s.drainStaging) s.checkpoint

/-- An entry is abandoned: causes 1 wake source, 2 PFW_N, 3 time (R545). -/
def State.abandonEntry (s : State) (cause : Nat) : State :=
  if s.pwr.mode = .entry then
    (State.wdtResume { s with pwr.mode := if s.pwr.fromFirkin then .firkin else .run }).raise { src := 0x165, code := cause }
  else s

/-- GILL_ENTRY_TIMEOUT: 20 ms. -/
def execGillEntryTimeout (s : State) : Host.Outcome State Fault Refusal := .next (if s.due s.pwr.entryEnd then s.abandonEntry 3 else s)

/-- The source the Gill timebase counts: 0 OSCIN / 1,024, 1 the crystal, 2 the RC (R555). -/
def State.gillSource (s : State) (start : Nat) : Nat :=
  if start = 0 ∧ s.oscKeep ∧ s.pwr.oscRunning ∧ s.pwr.voscOn then 0 else if start ≤ 1 ∧ s.pwr.calXtal ≠ 0 then 1 else 2

/-- CORE_EN driven (R536). -/
def State.setCoreEn (s : State) (b : Bool) : State := if s.pwr.coreEn = b then s else State.emit { s with pwr.coreEn := b } (.pin .coreEn b)

/-- VOSC_OUT turned off. -/
def State.voscDown (s : State) (keep : Bool) : State :=
  if keep || !s.pwr.voscOn then s else State.emit { s with pwr.voscOn := false } (.pin .voscOut false)

/-- The point of no return: the time counter is handed over, the sleep record written, the domains go down. -/
def State.sleep (s : State) : State :=
  let keep := s.oscKeep && s.pwr.voscOn
  let s := if s.paired then s else s.letGo
  let s : State := { s with
    pwr.mode := .gill, pwr.sleep := ⟨s.tick.fn, s.tick.fnSrc, [], 0⟩, pwr.gapSrc := s.gillSource 0,
    pwr.lineOn := 0, pwr.tribOn := false, pwr.pktOn := false, pwr.mateOn := false, pwr.fabOn := false,
    pwr.oscRunning := keep && s.pwr.oscRunning, pwr.rcClocks := false, pwr.resumeImage := true, pwr.avsBusy := false,
    pwr.armLanes := (List.range 40).foldl (fun (m : BitVec 40) n => setFlag m n (!(s.lane n).active)) 0,
    pwr.armPorts := (List.range 64).foldl (fun (m : BitVec 64) n => setFlag m n (s.trib n).clkLoss) 0,
    pwr.armMgmt := !s.host.craft.cp2Link, pwr.armMate := !s.mateLinkUp, pwr.wakeAttempt := 0, pwr.wakePending := false, pwr.wakeGivenUp := false,
    pwr.wakeExtra := [], mem.hot := false }
  let s := ((s.setCoreEn false).voscDown keep).mateFollow
  { s with host.craft.cp2Link := false, host.ports := s.host.ports.map fun x => (x.1, { x.2 with linkUp := false }) }

/-- GILL_ENTRY_COMPLETE: steps 4 to 7, the last at a tick. -/
def execGillEntryComplete (s : State) : Host.Outcome State Fault Refusal :=
  .next (if s.pwr.mode = .entry ∧ !s.due s.pwr.entryEnd then s.sleep else s)

/-! The wake (R547 to R554) -/

/-- WAKE_CFG enables a source, and the lane or port runs (Table 17.6). -/
def State.wakeOn (s : State) (src obj : Nat) : Bool :=
  let c := s.cfg.power
  match src with
  | 1 => decide (obj < 40) && flag c.wake0 obj && decide (s.laneRate obj ≠ 0)
  | 2 => decide (obj < 64) && flag c.wake1 obj && decide (s.tribMode obj ≠ 0)
  | 3 => decide (obj < 64) && flag c.wake2 obj && decide (s.tribMode obj ≠ 0)
  | 4 => flag c.wake3 63
  | 5 => flag c.wake3 62
  | 6 => flag c.wake3 61
  | 7 => flag c.wake3 60
  | _ => false

/-- An activity source is armed; pattern sources are from the point of no return (R549). -/
def State.wakeArmed (s : State) (src obj : Nat) : Bool :=
  match src with
  | 1 => s.pwr.armLanes.getLsbD obj
  | 2 => s.pwr.armPorts.getLsbD obj
  | 4 => s.pwr.armMgmt
  | 6 => s.pwr.armMate
  | _ => true

/-- An activity source is declared inactive: it is armed. -/
def State.arm (s : State) (src obj : Nat) : State :=
  match src with
  | 1 => { s with pwr.armLanes := setFlag s.pwr.armLanes obj true }
  | 2 => { s with pwr.armPorts := setFlag s.pwr.armPorts obj true }
  | 4 => { s with pwr.armMgmt := true }
  | 6 => { s with pwr.armMate := true }
  | _ => s

/-- A wake sequence begins: step 1. -/
def State.wakeBegin (s : State) : State :=
  State.avsAsk (State.setCoreEn { s with pwr.mode := .waking 1, pwr.wakeAttempt := s.pwr.wakeAttempt + 1, pwr.wakePending := false } true) 750

/-- WAKE_SOURCE: a source qualifies, or an activity source is declared inactive. -/
def execWakeSource (src : BitVec 4) (obj : BitVec 8) (active : Bool) (s : State) : Host.Outcome State Fault Refusal :=
  let n := src.toNat
  let o := if n ≤ 3 then obj.toNat else 0
  .next (if !s.wakeOn n o then s
    else
      match s.pwr.mode with
      | .entry => if active then s.abandonEntry 1 else s
      | .gill =>
        if !active then s.arm n o
        else if !s.wakeArmed n o then s
        else if s.pwr.wakePending then { s with pwr.wakeExtra := s.pwr.wakeExtra ++ [(n, o)] }
        else State.wakeBegin { s with pwr.wakeSrc := n, pwr.wakeObj := o, pwr.wakeAttempt := 0, pwr.wakeGivenUp := false, pwr.wakeTime := 0,
                                        pwr.wakeStatus := setFld s.pwr.wakeStatus 27 24 0 }
      | .waking _ => if active then { s with pwr.wakeExtra := s.pwr.wakeExtra ++ [(n, o)] } else s
      | _ => s)

/-- Duration in ns of ticks of a source (R555). -/
def State.gapNs (s : State) (src ticks : Nat) : Nat :=
  if src = 0 then ticks * 6400000 / 243 else if src = 1 then ticks * 1000000000 / Nat.max 1 s.pwr.calXtal else ticks * 1000000000 / Nat.max 1 s.pwr.calRc

/-- A stretch of sleep on the present source ends. -/
def State.endStretch (s : State) (ticks : Nat) : State :=
  { s with pwr.sleep.stretches := s.pwr.sleep.stretches ++ [⟨s.pwr.gapSrc, ticks, s.gapNs s.pwr.gapSrc ticks⟩] }

/-- GILL_TIMEBASE_SWITCH: the source that counts has stopped. -/
def execGillTimebaseSwitch (ticks : Nat) (s : State) : Host.Outcome State Fault Refusal :=
  .next (if s.awake || decide (s.pwr.gapSrc = 2) then s
    else
      let s := s.endStretch ticks
      { s with pwr.gapSrc := s.gillSource (s.pwr.gapSrc + 1), pwr.oscRunning := if s.pwr.gapSrc = 0 then false else s.pwr.oscRunning })

/-- TIMEBASE_CALIBRATION: a 1 s gate of OSCIN (R555). -/
def execTimebaseCalibration (xtal : Option Nat) (rc : Nat) (s : State) : Host.Outcome State Fault Refusal :=
  .next (if (s.pwr.mode = .run ∨ s.pwr.mode = .firkin) ∧ s.pwr.oscRunning then
      { s with pwr.calXtal := xtal.getD 0, pwr.calRc := if rc = 0 then s.pwr.calRc else rc }
    else s)

/-- The stretch of a source contributes to U, in ns (R557). -/
def gapU (x : Stretch) : Nat :=
  if x.src = 0 then 26340 + x.ns / 10000000 else if x.src = 1 then 30520 + x.ns * 50 / 1000000 else 10 + x.ns * 2 / 100

/-- The source of the longest stretch. -/
def SleepGap.longest (g : SleepGap) : Nat :=
  (g.stretches.foldl (fun (b : Stretch) x => if b.ns < x.ns then x else b) ⟨nth 0 (g.stretches.map (·.src)) 0, 0, 0⟩).src

def SleepGap.ns (g : SleepGap) : Nat := (g.stretches.map (·.ns)).sum
def SleepGap.ticks (g : SleepGap) : Nat := (g.stretches.map (·.ticks)).sum

/-- FN_SRC after a wake (R556). -/
def SleepGap.fnSrcAfter (g : SleepGap) : BitVec 3 :=
  let n := g.fnSrc.toNat
  if n = 0 then 0 else if n = 4 then 4 else if g.stretches.any fun x => decide (x.src = 2) && decide (0 < x.ticks) then 4 else 3

/-- An entry of the wake log, newest first (R558): a sequence that failed with a code, or, for code 0, one that ended, with the last failure
code of its wake. -/
def State.wakeLogAdd (s : State) (code : Nat) (fn : BitVec 48) : State :=
  let p := s.pwr
  let code := if code = 0 then fld p.wakeStatus 27 24 else code
  let w0 := mkWord [(63, 60, p.wakeSrc), (59, 56, code), (55, 48, p.wakeObj), (47, 0, fn.toNat)]
  let w1 := mkWord [(63, 48, Nat.min p.wakeTime 0xFFFF), (47, 40, p.wakeAttempt), (39, 32, p.sleep.longest), (31, 0, p.sleep.ns / 1000000000)]
  { s with pwr.wakeLog := ((w0, w1) :: p.wakeLog).take 16,
           pwr.wakeStatus := mkHalf [(31, 28, p.wakeSrc), (27, 24, code), (23, 16, p.wakeObj),
             (15, 0, Nat.min p.wakeTime 0xFFFF)] }

/-- What a wake finds as at entry, and what starts afresh (R546, R553; log entry 59). -/
def State.resumed (s : State) : State :=
  let r := State.reset
  let stores := [1, 7, 8]
  let keepSys := s.oscKeep && s.pwr.voscOn
  let t := s.tim
  let s : State := { s with
    line := { r.line with shortSlips := [] }, sdh := r.sdh, fab := r.fab, fram := r.fram,
    pie := { r.pie with queues := s.pie.queues.map (fun x => (x.1, x.2.toIdle)) },
    ev := { r.ev with srcCfg := s.ev.srcCfg, targets := s.ev.targets.map (fun x => (x.1, { EvicTarget.reset with cfg := x.2.cfg })),
                      rings := s.ev.rings.map (fun x => (x.1, { EvRing.reset with cfg := x.2.cfg })), pins := s.ev.pins, lost := s.ev.lost,
                      snapFn := s.ev.snapFn, snapSeq := s.ev.snapSeq },
    host := { r.host with ports := s.host.ports, rings := s.host.rings,
                          craft := { r.host.craft with mgmtMac := s.host.craft.mgmtMac, mgmtVid := s.host.craft.mgmtVid, craftCfg := s.host.craft.craftCfg },
                          matrix := { r.host.matrix with ctrl := s.host.matrix.ctrl, ctrlLocked := s.host.matrix.ctrlLocked,
                                                         lockCeil := s.host.matrix.lockCeil } },
    mem := { r.mem with octets := s.mem.octets.filter (fun c => inStores stores c.1), marks := s.mem.marks.filter (fun c => inStores stores c.1),
                        counts := s.mem.counts, band := s.mem.band, hot := s.mem.hot },
    tim := { r.tim with s0 := t.s0, t0 := t.t0, age0 := t.age0, coarse := t.coarse, oscFrom := t.oscFrom, oscBase := t.oscBase, records := t.records,
                        steer := if keepSys then t.s0 else 0, sys := if keepSys then .holdover else .freeRun, holdAt := s.now } }
  (((s.countersResume.vcatStart false).alignAfresh fun _ => false).timStart)

/-- WAKE_FAIL of the attempts that failed, after a start that succeeds (R551). -/
def State.raiseWakeFails (s : State) : State :=
  s.pwr.wakeFails.foldl (fun s f => s.raise { src := 0x164, code := f.1, aux := f.2 }) { s with pwr.wakeFails := [] }

/-- The end of step 4: the time counter is rebuilt, the sleep-gap record written, deferred events and WAKE_DONE raised (R550, R556, R557). -/
def State.wakeStep4 (s : State) (time ticks : Nat) : State :=
  let s := s.endStretch ticks
  let g := s.pwr.sleep
  let carry := if g.fnSrc = 1 then 0 else s.pwr.uCarry
  let u := carry + (g.stretches.map gapU).sum
  let fn := fnAdd g.fn (g.ns / 125000)
  let hot := s.mem.hot
  let s : State := { s.resumed with
    tick := { s.tick with fn := fn, fnSrc := g.fnSrcAfter, cycle := 0, copyLeft := 0, loading := none, loadLeft := 0, flipPassed := false,
                          flipBushel := none, slipCauses := [], stepKnown := none, badStages := [], slewedLast := false, stepArm := false },
    pwr := { s.pwr with mode := .waking 5, sleep := { g with u := u }, uCarry := u, wakeTime := time, rcClocks := false, fabOn := true, pktOn := true } }
  let s : State := { s with tim.oscBase := if s.pwr.voscOn then s.tim.oscBase + g.ns / 1000000000 else s.tim.oscBase }
  let s := State.wakeLogAdd s 0 fn
  let s := (s.raiseIf hot { src := 0x124 })
  let s := State.raiseOwed { s with mem.hot := false }
  let s := s.raiseWakeFails.wdtResume
  let s := s.raise { src := 0x163, code := s.pwr.wakeSrc, aux := Nat.min time 0xFF_FFFF, obj := s.pwr.wakeObj }
  let s := s.raise { src := 0x166, code := g.longest, aux := Nat.min (g.ns / 1000000000) 0xFF_FFFF, obj := Nat.min (u / 1000) 0xFFFF_FFFF }
  let e := s.essentialSet
  let s : State := if s.wakeFirkin then
      { s with pwr.ess := e, pwr.lineOn := e.quintets, pwr.tribOn := decide (e.ports ≠ 0), pwr.pktOn := s.pktNeeded, pwr.mateOn := s.mateNeeded }
    else { s with pwr.ess := .none, pwr.lineOn := 0xFF, pwr.tribOn := true, pwr.pktOn := true, pwr.mateOn := true }
  let s := s.lanesStart fun n => !s.wakeFirkin || e.lanes.getLsbD n
  if s.paired then s else { s with pair.claimCause := 1 }

/-- The domains raised in an attempt go down again (R551, R552). -/
def State.wakeDown (s : State) (short : Bool) : State :=
  let keep := s.oscKeep && s.pwr.voscOn && !short
  let s := (s.setCoreEn false).voscDown keep
  { s with pwr.mode := .gill, pwr.fabOn := false, pwr.pktOn := false, pwr.avsBusy := false, pwr.voscLatched := short || s.pwr.voscLatched,
           pwr.oscRunning := keep && s.pwr.oscRunning, pwr.rcClocks := false }

/-- WAKE_STEP_READY: the time since the source qualified, in units of 10 µs, and the ticks of the Gill timebase since its last switch. -/
def execWakeStepReady (time ticks : Nat) (s : State) : Host.Outcome State Fault Refusal :=
  .next (match s.pwr.mode with
    | .waking n =>
      if s.pwr.pfwLow && decide (n < 5) then
        State.wakeLogAdd { s.wakeDown false with pwr.wakeTime := time, pwr.wakePending := true } 0xA s.pwr.sleep.fn
      else if n = 1 then
        let s : State := { s with pwr.mode := .waking 2, pwr.avsBusy := false, pwr.vcore := 750, pwr.rcClocks := s.ident.strapCompat }
        if s.pwr.voscOn || !s.voscEn then s else s.voscStart
      else if n = 2 then { s with pwr.mode := .waking 3, pwr.oscRunning := true }
      else if n = 3 then { s with pwr.mode := .waking 4, pwr.fabOn := true, pwr.pktOn := true }
      else if n = 4 then s.wakeStep4 time ticks
      else
        let firkin := s.wakeFirkin
        State.raise { s with pwr.mode := if firkin then .firkin else .run } { src := 0x160, code := firkin.toNat }
    | _ => s)

/-- Failure codes of a step (Table 17.7). -/
def wakeCodes (n : Nat) : List Nat := if n = 1 then [1, 2] else if n = 2 then [3, 4, 5] else if n = 3 then [6] else if n = 4 then [7, 8, 9] else []

/-- WAKE_STEP_TIMEOUT: a step fails with a code (R551); code 9 is a cold boot (R552). -/
def execWakeStepTimeout (code : BitVec 4) (time : Nat) (s : State) : Host.Outcome State Fault Refusal :=
  let c := code.toNat
  .next (match s.pwr.mode with
    | .waking n =>
      if !(wakeCodes n).contains c then s
      else
        let s := State.wakeLogAdd { s with pwr.wakeTime := time } c s.pwr.sleep.fn
        if c = 9 then State.restart { s with pwr.wakeFails := s.pwr.wakeFails ++ [(c, s.pwr.wakeAttempt)] } 7
        else
          let more := decide (s.pwr.wakeAttempt ≤ s.retries)
          { s.wakeDown (c = 3) with pwr.wakeFails := s.pwr.wakeFails ++ [(c, s.pwr.wakeAttempt)], pwr.wakePending := more, pwr.wakeGivenUp := !more }
    | _ => s)

/-- WAKE_RETRY: RETRY_MS after a failure. -/
def execWakeRetry (s : State) : Host.Outcome State Fault Refusal :=
  .next (if s.pwr.mode = .gill ∧ s.pwr.wakePending ∧ !s.pwr.pfwLow then
      (if s.pwr.voscLatched && !s.pwr.voscOn then State.wakeBegin { s with pwr.voscLatched := false } else s.wakeBegin)
    else s)

/-! The power-fail checkpoint (R502, R503) -/

/-- Step 4: the power-fail record, reason 1 for PFW_N. -/
def State.powerFailRecord (s : State) : State :=
  { s with jr.powerFails := lastN 16 (s.jr.powerFails ++ [⟨s.tick.fn, s.tick.cycle, s.tick.fnSrc, 1⟩]), jr.powerFailCount := s.jr.powerFailCount + 1 }

/-- PFW_CHECKPOINT: PFW_N low for 2 µs. -/
def execPfwCheckpoint (s : State) : Host.Outcome State Fault Refusal :=
  .next (if s.pwr.pfwLow then s
    else
      let s := s.tearFlash
      let s : State := { s with pwr.pfwLow := true }
      if s.awake then
        let s : State := { (s.abandonEntry 2) with cmd.held := true, jr.compacting := false }
        let s := (List.range 16).foldl (fun s _ => s.drainStaging) s.checkpoint
        s.powerFailRecord.raise { src := 0x128 }
      else s.powerFailRecord)

/-- PFW_RETURN: PFW_N high for 1 ms. A wake that it stopped starts again (R552). -/
def execPfwReturn (s : State) : Host.Outcome State Fault Refusal :=
  .next (if !s.pwr.pfwLow then s
    else
      let s : State := { s with pwr.pfwLow := false, cmd.held := false }
      if s.awake then s.raise { src := 0x128, clr := true }
      else if s.pwr.mode = .gill ∧ s.pwr.wakePending then s.wakeBegin else s)

/-! Class 0x0D (Table 17.9) -/

/-- PWR_STATE (R531, R534, R543). The reply to a Gill entry goes out before the entry begins. -/
def State.pwrState (s : State) (c : Cmd) : State :=
  let v := fld (c.word 1) 1 0
  let r := s.runOp c { plainOp 0x0D 0x01 SUP [0, maskOf [(1, 0)]] with } [(decide (v = 3), 1)] none fun s =>
    let fn : List Word := [s.tick.fn.setWidth 64]
    if v = 2 then
      let sched := s.bush.list.any fun b => b.scheduled && b.live
      unlessFail s [((s.paired && s.pair.token) || sched || decide (s.tick.copyLeft ≠ 0) || s.pwr.pfwLow ||
          !decide (s.pwr.mode = .run ∨ s.pwr.mode = .firkin), stState, 0)]
        (.ok { s with pwr.fromFirkin := decide (s.pwr.mode = .firkin), pwr.mode := .entry, pwr.entryEnd := s.now + 160, pwr.goal := none } fn)
    else if !decide (s.pwr.mode = .run ∨ s.pwr.mode = .firkin) then refuse stState 0 s
    else if s.pwr.goal.isNone ∧ decide (s.pwr.mode = .firkin) = decide (v = 1) then .ok s fn
    else .later { s with pwr.goal := some (decide (v = 1)) } .pwrState
  if r.pwr.mode = .entry ∧ s.pwr.mode ≠ .entry then r.beginEntry else r

def powerCfgMask : Word := maskOf [(63, 57), (55, 46), (43, 39)]

def State.pwrSet (s : State) (c : Cmd) : State :=
  let w := c.word 1
  let bad := (flag w 62 && !flag w 63) || decide (2 ≤ fld w 61 60) || decide (fld w 55 46 < 10 ∨ 1000 < fld w 55 46)
  s.runOp c (setting 0x0D 0x02 SUP [0, powerCfgMask]) [(bad, 1)] none fun s => .ok { s with cfg.power.power := w } []

def State.pwrGet (s : State) (c : Cmd) : State := s.runOp c (plainOp 0x0D 0x03 OPR []) [] none fun s => .ok s [s.cfg.power.power]

def State.wakeSet (s : State) (c : Cmd) : State :=
  s.runOp c (setting 0x0D 0x04 SUP [0, maskOf [(39, 0)], allBits, allBits, maskOf [(63, 60)]]) [] none fun s =>
    .ok { s with cfg.power.wake0 := c.word 1, cfg.power.wake1 := c.word 2, cfg.power.wake2 := c.word 3, cfg.power.wake3 := c.word 4 } []

def State.wakeGet (s : State) (c : Cmd) : State :=
  s.runOp c (plainOp 0x0D 0x05 OPR []) [] none fun s => .ok s [s.cfg.power.wake0, s.cfg.power.wake1, s.cfg.power.wake2, s.cfg.power.wake3]

/-- PWR_STATUS. The core current and the die temperature are what the hardware measures (log entry 1). -/
def State.pwrStatus (s : State) (c : Cmd) : State :=
  s.runOp c (plainOp 0x0D 0x06 OPR []) [] none fun s =>
    let f := s.takeFree
    .ok f.2 [mkWord [(63, 32, s.pwr.wakeStatus.toNat), (31, 0, s.pwrStat.toNat)], f.1 &&& maskOf [(31, 0)]]

def State.wakeLogGet (s : State) (c : Cmd) : State :=
  s.runOp c (plainOp 0x0D 0x07 OPR []) [] none fun s =>
    .ok s (BitVec.ofNat 64 s.pwr.wakeLog.length :: s.pwr.wakeLog.flatMap fun e => [e.1, e.2])

def State.sleepGapGet (s : State) (c : Cmd) : State :=
  s.runOp c (plainOp 0x0D 0x08 OPR []) [] none fun s =>
    let g := s.pwr.sleep
    .ok s [mkWord [(63, 56, g.stretches.length - 1), (53, 52, g.longest), (50, 48, g.fnSrc.toNat), (47, 0, g.fn.toNat)], BitVec.ofNat 64 g.ticks,
      BitVec.ofNat 64 g.ns, mkWord [(31, 0, Nat.min (g.u / 1000) 0xFFFF_FFFF)]]

/-- VOSC_CTRL: one start at once (R541). With bit 0 at 0 nothing is retried. -/
def State.voscCtrl (s : State) (c : Cmd) : State :=
  s.runOp c (plainOp 0x0D 0x09 SUP [0, maskOf [(0, 0)]]) [] none fun s =>
    if !s.pwr.voscLatched then refuse stState 0 s else .ok (if flag (c.word 1) 0 then s.voscStart else s) []

/-- FIRKIN_CHECK (R532). -/
def State.firkinCheck (s : State) (c : Cmd) : State :=
  s.runOp c (plainOp 0x0D 0x0A OPR []) [] none fun s =>
    let e := s.essentialSet
    let inSet (x : Eid) : Bool :=
      match eidKind x with
      | .line => e.lanes.getLsbD (eidPort x)
      | .trib => e.ports.getLsbD (eidTrib x)
      | .queue => e.queues.contains (eidQid x)
      | .mate => s.mateNeeded
      | _ => true
    let out := e.conns.filter fun i =>
      let r := s.cfg.b.connAt i
      [r.a, r.z].any fun x => !eidNull x && !inSet x
    let groups := (s.cfg.b.prot.pg.map (·.1)).filter (s.groupKeeps e)
    let pairs := (s.cfg.b.prot.lp.map (·.1)).filter fun n => match s.cfg.b.lp n with | some w => e.lanes.getLsbD (lpWork w) | none => false
    .ok s [mkWord [(10, 10, s.mateNeeded.toNat), (9, 9, s.pktNeeded.toNat), (8, 8, (decide (e.ports ≠ 0)).toNat), (7, 0, e.quintets.toNat)],
      mkWord [(63, 32, out.length), (31, 0, e.conns.length)], mkWord [(31, 0, groups.length + pairs.length)]]

/-- A lane carries a connection endpoint: of a record, a group or a pair. The mate channels run over all four mate lanes (R74). -/
def State.burstTaken (s : State) (n : Nat) : Bool :=
  if n < 40 then s.either (fun b => laneInRecord b n || (b.pairOf n).isSome)
  else s.either fun b => b.someEnd (fun e => decide (eidKind e = .mate)) || b.someLeg fun e => decide (eidKind e = .mate)

/-- WAKE_SEND (R548). -/
def State.wakeSend (s : State) (c : Cmd) : State :=
  let n := fld (c.word 0) 5 0
  s.runOp c (plainOp 0x0D 0x0B OPR [maskOf [(5, 0)]]) [(decide (n = 40 ∨ 45 < n), 0)] none fun s =>
    if decide (n ≠ 41) && s.burstTaken n then refuse stState 0 s else .ok (s.emit (.wakeBurst n 0)) []

def execPwrState (c : Cmd) (s : State) : Host.Outcome State Fault Refusal := packet c s (·.pwrState c)
def execPwrSet (c : Cmd) (s : State) : Host.Outcome State Fault Refusal := packet c s (·.pwrSet c)
def execPwrGet (c : Cmd) (s : State) : Host.Outcome State Fault Refusal := packet c s (·.pwrGet c)
def execWakeSet (c : Cmd) (s : State) : Host.Outcome State Fault Refusal := packet c s (·.wakeSet c)
def execWakeGet (c : Cmd) (s : State) : Host.Outcome State Fault Refusal := packet c s (·.wakeGet c)
def execPwrStatus (c : Cmd) (s : State) : Host.Outcome State Fault Refusal := packet c s (·.pwrStatus c)
def execWakeLog (c : Cmd) (s : State) : Host.Outcome State Fault Refusal := packet c s (·.wakeLogGet c)
def execSleepGapGet (c : Cmd) (s : State) : Host.Outcome State Fault Refusal := packet c s (·.sleepGapGet c)
def execVoscCtrl (c : Cmd) (s : State) : Host.Outcome State Fault Refusal := packet c s (·.voscCtrl c)
def execFirkinCheck (c : Cmd) (s : State) : Host.Outcome State Fault Refusal := packet c s (·.firkinCheck c)
def execWakeSend (c : Cmd) (s : State) : Host.Outcome State Fault Refusal := packet c s (·.wakeSend c)

end Sys2Proof.Machine
end

