-- ==== Sys2Proof/Machine/Boot.lean ====
section
/-!
DEFINITION. Boot, the watchdog, the recovery port, tamper inputs, field return and the commands of class 0x0E (18_reset_recovery.md; R501, R590).
-/
namespace Sys2Proof.Machine

/-! Images (Tables 18.3 and 18.4) -/

/-- A field of n octets, most significant first. -/
def octField (l : List Byte) (off n : Nat) : Nat := natOfOctets ((l.drop off).take n)

/-- What an image shows under the checks of R567. -/
def parseImage (keyHash : BitVec 256) (l : List Byte) : Image :=
  let len := octField l 16 4
  let body := (l.drop 256).take len
  { marker := decide (octField l 0 4 = 0xDA46_5700)
    headerOk := decide (256 + len ≤ l.length) && decide (octField l 4 2 = 1) && decide (octField l 14 2 = 0) && decide (octField l 180 76 = 0) &&
      decide (len ≤ 3932160)
    keyOk := decide (natOfOctets (sha256 ((l.drop 52).take 64)) = keyHash.toNat)
    sigOk := ecdsaVerifies (octField l 52 32) (octField l 84 32) (octField l 116 32) (octField l 148 32) (natOfOctets (sha256 (l.take 116))) &&
      decide (natOfOctets (sha256 body) = octField l 20 32)
    version := BitVec.ofNat 48 (octField l 6 6)
    svn := BitVec.ofNat 16 (octField l 12 2) }

/-- The failure code of an image, 0 when it is accepted (R567, Table 18.5). -/
def Image.code (i : Image) (svnMin : BitVec 16) : Nat :=
  if !i.marker then 1 else if !i.headerOk then 2 else if !i.keyOk then 3 else if !i.sigOk then 4 else if i.svn.toNat < svnMin.toNat then 5 else 0

/-- A boot configuration block whose marker, profile and CRC are right (Table 18.3). -/
def parseBlock (l : List Byte) : Option BootBlock :=
  if 4096 ≤ l.length ∧ octField l 0 4 = 0xDA42_4346 ∧ octField l 4 1 ≤ 2 ∧
      crcOver 32 0x04C1_1DB7 0xFFFF_FFFF (l.take 4092) = octField l 4092 4 then
    some ⟨BitVec.ofNat 2 (octField l 4 1), BitVec.ofNat 48 (octField l 12 6)⟩
  else none

/-! The choice of the ROM -/

inductive BootPlan where
  /-- A slot starts (true: B); it is the second tried, or R568 moved it to the front. -/
  | flash (slotB fallback : Bool) (image : Image) (block : BootBlock)
  | host
  | stop (code : Nat)
  deriving DecidableEq, Repr

/-- The order of the slots: the higher SVN, then the higher version; slot A among equals (R567; log entry 60). -/
def Kept.preferB (k : Kept) : Bool :=
  let rank (i : Image) : Nat := if i.marker && i.headerOk then 1 + i.svn.toNat * 2 ^ 48 + i.version.toNat else 0
  decide (rank k.imageA < rank k.imageB)

/-- Three short runs in a row put the other slot first (R568). -/
def Kept.swapped (k : Kept) : Bool :=
  let p := k.preferB.toNat
  decide (3 ≤ k.shortRuns.look 0 p) && decide (k.shortRuns.look 0 (1 - p) < 3)

/-- What the ROM does at the straps as sampled (R565, R567, R568). -/
def State.bootPlan (s : State) : BootPlan :=
  let k := s.jr.kept
  let strap := s.ident.strapBoot.toNat
  if 4 ≤ strap then .stop 7
  else if strap = 2 then .host
  else
    match k.block with
    | none => .stop 8
    | some b =>
      let first := k.preferB != k.swapped
      let image (slotB : Bool) : Image := if slotB then k.imageB else k.imageA
      let c (slotB : Bool) : Nat := (image slotB).code k.svnMin
      if c first = 0 then .flash first k.swapped (image first) b
      else if c (!first) = 0 then .flash (!first) true (image (!first)) b
      else if strap = 3 then .host
      else .stop (if c (!first) = 1 then c first else c (!first))

/-! Power-on and the other resets -/

/-- The straps are sampled (R562). -/
def State.sampleStraps (s : State) (x : Straps) : State :=
  { s with ident.strapBoot := x.boot, ident.strapHome := x.home, ident.strapCompat := x.compat, ident.strapTestN := x.testN, pair.home := x.home,
           pair.strapConflict := false }

/-- POWER_ON_RESET: everything volatile is at its reset value, the journal is as it was, and the flash is what the board holds (R562, R563, R590). -/
def State.powerOn (s : State) (straps : Straps) (flash : Flash) (tampers : BitVec 4) (claimHigh : Bool) : State :=
  let k := { s.jr.kept with block := flash.block, imageA := flash.imageA, imageB := flash.imageB }
  let r := State.reset
  let s : State := { r with pending := s.pending, outs := s.outs, freeIdx := s.freeIdx, now := s.now, ident.keyHash := s.ident.keyHash,
                            jr := { s.jr with kept := k, compacting := false }, cmd.locked := k.lockedPorts, tim.oscFrom := s.now,
                            pair.claimHigh := claimHigh, pwr.rcClocks := straps.compat }
  let s := ((((s.sampleStraps straps).emit (.pin .actOut false)).emit (.pin .actClaim true)).emit (.pin .coreEn true)).emit (.pin .voscOut true)
  let s := s.emit (.avs 750)
  let s := if straps.testN then s else (s.logTamper 5 0 false 0 0).raiseLater 0x187 false 0 0
  (List.range 4).foldl (fun s n =>
    if tampers.getLsbD n && flag (s.tamperCfg n) 31 then
      State.logTamper { s with boot.tamperActive := setFlag s.boot.tamperActive n true } 1 n true 0 1
    else s) s

def execPowerOnReset (straps : Straps) (flash : Flash) (tampers : BitVec 4) (claimHigh : Bool) (s : State) : Host.Outcome State Fault Refusal :=
  .next (s.powerOn straps flash tampers claimHigh)

/-- BROWN_OUT_RESET: VDD_CORE below 0.68 V for 10 µs, while the core is powered. -/
def execBrownOutReset (s : State) : Host.Outcome State Fault Refusal := .next (if s.pwr.coreEn then s.restart 2 else s)

/-- SYS_RESET takes effect 10 ms after its reply (R584). -/
def State.resetDue (s : State) : State :=
  match s.boot.resetAt with
  | some t => if s.due t then s.restart 4 else s
  | none => s

/-! The watchdog (R571) -/

/-- The watchdog is suspended. -/
def State.wdtHeld (s : State) : Bool := s.boot.frozen || !s.awake || s.pwr.mode = .entry

/-- WATCHDOG_KICK by processor 0 or 1: the first arms it. -/
def execWatchdogKick (proc : Bool) (s : State) : Host.Outcome State Fault Refusal :=
  .next (if s.boot.frozen || s.boot.mode = .failed then s
    else
      let s := if s.boot.wdtArmed then s else { s with boot.wdtArmed := true, boot.wdtKicks := 0, boot.wdtEnd := s.now + 8 * s.wdtMs }
      { s with boot.wdtKicks := setFlag s.boot.wdtKicks proc.toNat true })

/-- A period in which both have kicked ends, and the next begins. -/
def State.wdtPeriod (s : State) : State :=
  if s.boot.wdtArmed && !s.wdtHeld && s.due s.boot.wdtEnd && decide (s.boot.wdtKicks = 3) then
    { s with boot.wdtLast := true, boot.wdtKicks := 0, boot.wdtEnd := s.boot.wdtEnd + 8 * s.wdtMs }
  else s

/-- The watchdog expires: a period ends without a kick of both, or 10 s pass from the firmware's start without any. Before BOOT_COMPLETE the
firmware's start is not a step of its own, so an unarmed expiry is taken as it comes. -/
def State.wdtExpires (s : State) : Bool :=
  !s.wdtHeld && s.boot.mode ≠ .failed &&
    (if s.boot.wdtArmed then s.due s.boot.wdtEnd && decide (s.boot.wdtKicks ≠ 3) else (s.boot.mode ≠ .running || s.due s.boot.wdtEnd))

/-- WATCHDOG_EXPIRY, a short run within 60 s of BOOT_COMPLETE (R568). -/
def execWatchdogExpiry (s : State) : Host.Outcome State Fault Refusal :=
  let n := s.boot.slot.toNat
  let short := decide (s.boot.mode = .running) && decide (s.now < s.boot.bootedAt + 480000) && decide (n < 2)
  .next (if !s.wdtExpires then s
    else if short then
      State.restart { s with jr.kept := { s.jr.kept with shortRuns := s.jr.kept.shortRuns.put 0 n (s.jr.kept.shortRuns.look 0 n + 1) } } 3
    else s.restart 3)

/-- SHORT_RUN_COUNT_CLEAR: a run of 60 s (R568). -/
def execShortRunCountClear (s : State) : Host.Outcome State Fault Refusal :=
  .next (if s.boot.mode = .running ∧ s.due (s.boot.bootedAt + 480000) ∧ !s.boot.runCredited then
      { s with boot.runCredited := true, jr.kept := { s.jr.kept with shortRuns := [] } }
    else s)

/-- SVN_ADVANCE: 24 h of the running image (R567). -/
def execSvnAdvance (s : State) : Host.Outcome State Fault Refusal :=
  .next (if s.boot.mode = .running ∧ s.due (s.boot.bootedAt + 691200000) ∧ s.jr.kept.svnMin.toNat < s.boot.svn.toNat then
      { s with jr.kept := { s.jr.kept with svnMin := s.boot.svn } }
    else s)

/-! Boot completes or fails (R501, R570) -/

/-- What the journal restores: the damage found as (code, object), the snapshot, and the journal as boot leaves it (R501; log entry 61). -/
def Journal.restore (j : Journal) (r : Restore) : List (Nat × Nat) × JSnap × Journal :=
  let none_ : JSnap := ⟨.reset, []⟩
  let lost := (j.keys.filter fun e => r.badKeys.contains (e.tid, e.slot)).map fun e => (3, e.tid)
  let keys := j.keys.filter fun e => !r.badKeys.contains (e.tid, e.slot)
  let x : List (Nat × Nat) × JSnap × Journal :=
    if !j.valid then ([], none_, j)
    else if r.badBase then ([(1, 0)], none_, j)
    else
      match r.badLog.filter fun q => j.log.any fun e => decide (e.seq = q) with
      | some q => ([(2, q)], j.standing (q - 1), { j with log := j.log.filter fun e => decide (e.seq < q) })
      | none => ([], j.latest, j)
  (x.1 ++ lost, x.2.1, { x.2.2 with keys := keys, corrupt := !(x.1 ++ lost).isEmpty })

/-- The keys of the journal, with H of every stream at the slot's reserve (R399). -/
def State.restoreKeys (s : State) : State :=
  s.jr.keys.foldl (fun s e =>
    let k := ((s.tenantKeys e.tid).setKey e.slot (some e.key)).setRes e.slot e.res
    (s.setTenantKeys e.tid k).setStreams e.tid e.slot e.res.toNat) s

/-- The blocks start from the restored configuration. -/
def State.startBlocks (s : State) (b : BCfg) : State :=
  let s := (((s.applyConfig b).lanesStart fun _ => true).vcatStart true).timStart.countersResume
  { s with align.lowFree := s.fathomFree }

/-- The configuration and the journalled bushels, each with its BUSHEL_RESTORED (R20, R213, R501). -/
def State.restoreConfig (s : State) (r : Restore) : State :=
  let x := s.jr.restore r
  let snap := x.2.1
  let s : State := { s with jr := x.2.2, cfg := snap.cfg }
  let b := (snap.bushels.filter fun y => !y.scheduled).foldl (fun b y => b.applyAll y.changes) snap.cfg.b
  let tooBig := s.limitPassed BCfg.reset b
  let kept := if tooBig then [] else (snap.bushels.filter (·.scheduled)).map fun y => { y with mode := .restored, wasRestored := true }
  let s : State := { s with bush.list := kept, bush.lastId := (kept.getLast?.map (·.id)).getD 0 }
  let s := s.startBlocks (if tooBig then .reset else b)
  let s := (if tooBig then [] else snap.bushels).foldl (fun s y =>
    s.raise { src := 0x072, code := (Config.causeCode 0x072 y.scheduled.toNat).toNat, obj := y.id }) s
  x.1.foldl (fun s d => s.raise { src := 0x127, code := d.1, obj := d.2 }) (s.raiseIf tooBig { src := 0x022 })

/-- The firmware starts from a slot and runs to BOOT_COMPLETE (R570). -/
def State.firmware (s : State) (ms : BitVec 16) (r : Restore) : State :=
  let s := s.restoreConfig r
  let s := s.restoreKeys
  let s : State := { s with cmd.journalRead := true }
  let s := s.raiseIf s.commissioning { src := 0x0C6 }
  let s : State := if s.voscEn || !s.pwr.voscOn then s else State.emit { s with pwr.voscOn := false } (.pin .voscOut false)
  let s : State := { s with boot := { s.boot with mode := .running, bootMs := ms.toNat, bootedAt := s.now, runCredited := false, bootAddr := 0, bootLen := 0,
                                                  wdtEnd := if s.boot.wdtArmed then s.boot.wdtEnd else s.now + 80000 },
                            pwr.rcClocks := !s.pwr.oscRunning, pair.mirrorRecv := s.jr.mirrorGen, pair.mirrorSent := s.jr.mirrorGen }
  let s := s.raiseIf s.boot.fallback { src := 0x181 }
  let s := (s.raise { src := 0x180, code := s.boot.cause, aux := ms.toNat }).raiseOwed.raiseWakeFails
  let s := if s.pair.mode = .faulted then s.role .alone 0 else s
  let s : State := if s.paired then { s with pair.bootWaitEnd := some (s.now + 8 * s.bootWait) } else { s with pair.claimCause := 1 }
  s.mateFollow

/-- The block of the board takes effect (R19). -/
def State.useBlock (s : State) (b : BootBlock) : State :=
  { s with ident.profile := if b.profile = 0 then .broad else if b.profile = 1 then .deep else .packet, ident.profileValid := true,
           host.craft.mgmtMac := b.mac }

/-- BOOT_COMPLETE: the time since the reset in ms, and what reading the journal showed. -/
def execBootComplete (ms : BitVec 16) (r : Restore) (s : State) : Host.Outcome State Fault Refusal :=
  .next (match s.boot.mode with
    | .booting =>
      match s.bootPlan with
      | .flash slotB fallback i b =>
        let s : State := { s.useBlock b with boot.slot := BitVec.ofNat 2 slotB.toNat, boot.fallback := fallback, boot.version := i.version, boot.svn := i.svn }
        s.firmware ms r
      | _ => s
    | .hostFetch => s.firmware ms r
    | _ => s)

/-- Boot stops with a code (R570). -/
def State.bootStop (s : State) (code : Nat) : State := { s with boot.mode := .failed, boot.bootFail := BitVec.ofNat 8 code }

/-- BOOT_FAIL: a step of the hardware failed, or what the straps and the flash show. -/
def execBootFail (hardware : Bool) (s : State) : Host.Outcome State Fault Refusal :=
  .next (if s.boot.mode = .booting then
      (if hardware then s.bootStop 9 else match s.bootPlan with | .stop code => s.bootStop code | _ => s)
    else s)

/-- BOOT_GO_TIMEOUT: 30 s from the link without a GO (R569). -/
def execBootGoTimeout (s : State) : Host.Outcome State Fault Refusal :=
  .next (if s.boot.mode = .hostWait ∧ s.boot.ctrlState = 0 ∧ s.due s.boot.goBy then s.bootStop 6 else s)

/-- GO: the ROM fetches and checks the block and the image behind it (R569). -/
def State.bootGo (s : State) (octets : List Byte) : State :=
  let l := octets.take s.boot.bootLen.toNat
  let fail (code : Nat) : State := { s with boot.ctrlState := 2, boot.ctrlFail := BitVec.ofNat 8 code, boot.bootFail := BitVec.ofNat 8 code }
  if s.boot.mode ≠ .hostWait then s
  else
    match parseBlock l with
    | none => fail 8
    | some b =>
      let i := parseImage s.ident.keyHash (l.drop 4096)
      let code := i.code s.jr.kept.svnMin
      if code ≠ 0 then fail code
      else { s.useBlock b with boot.ctrlState := 3, boot.mode := .hostFetch, boot.slot := 2, boot.version := i.version, boot.svn := i.svn }

/-- RESET_STATUS and BOOT_CTRL. -/
def State.resetStat (s : State) : Half :=
  mkHalf [(31, 28, s.boot.cause), (27, 26, s.boot.slot.toNat), (25, 25, s.boot.fallback.toNat), (23, 16, s.boot.bootFail.toNat),
    (15, 0, Nat.min s.boot.bootMs 0xFFFF)]

def State.bootCtrl (s : State) : Half := mkHalf [(31, 30, s.boot.ctrlState.toNat), (15, 8, s.boot.ctrlFail.toNat)]

/-! The recovery port (R572 to R576) -/

/-- A recovery response: STATUS, LEN, data and the CRC-16 over them. -/
def State.recReply (s : State) (status : Nat) (data : List Byte) : State :=
  let r := BitVec.ofNat 8 status :: octetsOf 2 data.length ++ data
  s.emit (.recovery (r ++ octetsOf 2 (crcOver 16 0x1021 0xFFFF r)))

/-- REC_LOCK in force (R563, R574). -/
def State.recLock (s : State) : Nat := s.jr.latest.cfg.boot.recLock.toNat

/-- REC_LOCK allows an operation (R574). -/
def State.recAllows (s : State) (op : Nat) : Bool :=
  match s.recLock with
  | 0 => true
  | 1 => op = 1 || op = 4 || op = 7 || op = 8
  | _ => op = 1 || op = 8

/-- STATUS of a refused transaction: CRC, lock, ARG, arming; `armed` carries the time since the previous transaction in ms (R573). -/
def State.recFail (s : State) (op : Nat) (crcOk argOk : Bool) (armed : Option Nat) : Option Nat :=
  if !crcOk then some 1
  else if !s.recAllows op then some 3
  else if !argOk then some 5
  else match armed with
    | some ms => if s.boot.armed = some (BitVec.ofNat 8 op) ∧ ms < 10 then none else some 2
    | none => none

/-- A transaction: it cancels an ARM, and answers or runs `f`, which replies itself. -/
def State.recOp (s : State) (op : Nat) (crcOk argOk : Bool) (armed : Option Nat) (f : State → State) : State :=
  let t : State := { s with boot.armed := none }
  match s.recFail op crcOk argOk armed with
  | some st => t.recReply st []
  | none => f t

/-- An armed operation that is performed is logged and reported (R573, Table 18.10). -/
def State.recDone (s : State) (op : Nat) (arg : Half) : State := (s.logTamper 3 op false arg.toNat 0).raiseLater 0x184 false op 0

/-- The status block (Table 18.7). -/
def State.recStatus (s : State) : List Word :=
  let b := s.boot
  let locked := (List.range 4).foldl (fun (m : BitVec 4) n => setFlag m n (decide (s.jr.kept.locks.look 0 n ≠ 0))) 0
  [mkWord [(63, 32, devId.toNat), (31, 0, s.pairStat.toNat)], mkWord [(63, 32, s.pwrStat.toNat), (31, 0, s.pwr.wakeStatus.toNat)],
    mkWord [(63, 32, s.resetStat.toNat), (29, 28, s.recLock), (27, 27, b.frozen.toNat), (26, 26, s.pair.standbyHold.toNat), (25, 25, b.wdtArmed.toNat),
      (24, 24, b.wdtLast.toNat), (23, 20, b.tamperActive.toNat), (19, 16, locked.toNat)],
    mkWord [(50, 48, s.tick.fnSrc.toNat), (47, 0, s.fnNat)], mkWord [(63, 32, s.journalStat.toNat), (31, 0, s.jr.lastSeq)],
    mkWord [(63, 32, s.jr.kept.tamperCount), (31, 0, s.jr.nextIdx.toNat)], 0, 0]

def execRecStatus (arg : Half) (crcOk : Bool) (s : State) : Host.Outcome State Fault Refusal :=
  .next (s.recOp 1 crcOk (decide (arg = 0)) none fun s => s.recReply 0 (wordsOctets s.recStatus))

/-- ARM. -/
def execArm (arg : Half) (crcOk : Bool) (s : State) : Host.Outcome State Fault Refusal :=
  let op := fld arg 7 0
  .next (s.recOp 2 crcOk (decide (fld arg 31 16 = 0) && decide (fld arg 15 8 = 255 - op)) none fun s =>
    State.recReply { s with boot.armed := some (BitVec.ofNat 8 op) } 0 [])

/-- The records of the device log from the newest back, oldest first. -/
def State.logTail (s : State) (count skip : Nat) : List EvRec :=
  let next := s.jr.nextIdx.toNat
  let have_ := (s.jr.nextIdx - BitVec.ofNat 32 s.jr.oldest).toNat
  let n := Nat.min count (have_ - skip)
  (List.range n).map fun i => s.jr.devLog.look ⟨0, 0⟩ ((next + 2 ^ 32 - skip - n + i) % 4096)

/-- JOURNAL_TAIL: a compaction holds the journal. -/
def execJournalTail (arg : Half) (crcOk : Bool) (s : State) : Host.Outcome State Fault Refusal :=
  let n := if fld arg 7 0 = 0 then 256 else fld arg 7 0
  .next (s.recOp 4 crcOk (decide (fld arg 31 24 = 0)) none fun s =>
    if s.jr.compacting then s.recReply 6 [] else s.recReply 0 (wordsOctets ((s.logTail n (fld arg 23 8)).flatMap fun r => [r.w0, r.w1])))

/-- FREEZE, and its release: FREEZE_STATE with its length, and the watchdog goes on (R571, R575). -/
def State.freeze (s : State) (on : Bool) : State :=
  if s.boot.frozen = on then s
  else if on then { s with boot.frozen := true, boot.frozenAt := s.now }
  else
    (State.wdtResume { s with boot.frozen := false }).raiseIf (decide (s.boot.mode = .running))
      { src := 0x185, aux := Nat.min ((s.now - s.boot.frozenAt) / 8) 0xFF_FFFF }

def execFreeze (arg : Half) (crcOk : Bool) (since : Nat) (s : State) : Host.Outcome State Fault Refusal :=
  .next (s.recOp 3 crcOk (decide (fld arg 31 1 = 0)) (some since) fun s =>
    if !s.awake then s.recReply 7 [] else ((s.freeze (flag arg 0)).recDone 3 arg).recReply 0 [])

/-- FORCE_STANDBY: the token goes and nothing is claimed until the hold ends (R576). In the Gill state there is only the hold. -/
def execForceStandby (arg : Half) (crcOk : Bool) (since : Nat) (s : State) : Host.Outcome State Fault Refusal :=
  let hold := flag arg 0
  .next (s.recOp 5 crcOk (decide (fld arg 31 1 = 0)) (some since) fun s =>
    let had := s.pair.token
    let s := if hold && s.awake then s.abandonHand.letGo else s
    let s := if hold && had && s.awake && s.paired then s.role .standby 0 else s
    (State.recDone { s with pair.standbyHold := hold } 5 arg).recReply 0 [])

/-- HARD_RESET: after the response; FULL samples the straps and loses the Gill store (Table 18.1). -/
def execHardReset (arg : Half) (crcOk : Bool) (since : Nat) (straps : Straps) (s : State) : Host.Outcome State Fault Refusal :=
  .next (s.recOp 6 crcOk (decide (fld arg 31 1 = 0)) (some since) fun s =>
    let s := (s.logTamper 3 6 false arg.toNat 0).recReply 0 []
    let s : State := { s with boot.owed := s.boot.owed ++ [(0x184, false, 6, 0)] }
    if flag arg 0 then
      let t := s.restart 6 false
      State.sampleStraps { t with pwr.rcClocks := straps.compat } { straps with testN := t.ident.strapTestN }
    else s.restart 5)

/-- GILL_READ: what the Gill store holds there is the firmware's own (log entry 1). -/
def execGillRead (arg : Half) (crcOk : Bool) (s : State) : Host.Outcome State Fault Refusal :=
  let n := fld arg 23 16
  let ok := decide (fld arg 31 24 = 0) && decide (fld arg 15 11 = 0) && decide (n ≠ 0) && decide (fld arg 10 0 + n ≤ 1536)
  .next (s.recOp 7 crcOk ok none fun s =>
    let r := (List.range n).foldl (fun (r : List Word × State) _ => (r.1 ++ [r.2.takeFree.1], r.2.takeFree.2)) ([], s)
    r.2.recReply 0 (wordsOctets r.1))

/-- ARG of the mailbox operations. -/
def mboxArg (arg : Half) : Bool := decide (fld arg 31 16 = 0) && decide (fld arg 15 8 ≠ 0) && decide (fld arg 7 0 + fld arg 15 8 ≤ 256)

def execMboxRead (arg : Half) (crcOk : Bool) (s : State) : Host.Outcome State Fault Refusal :=
  .next (s.recOp 8 crcOk (mboxArg arg) none fun s =>
    s.recReply 0 (wordsOctets ((List.range (fld arg 15 8)).map fun i => s.boot.mbox.look 0 (fld arg 7 0 + i))))

def execMboxWrite (arg : Half) (data : List Word) (crcOk : Bool) (since : Nat) (s : State) : Host.Outcome State Fault Refusal :=
  .next (s.recOp 9 (crcOk && decide (data.length = fld arg 15 8)) (mboxArg arg) (some since) fun s =>
    let m := (List.range data.length).foldl (fun (m : Tab Word) i => m.put 0 (fld arg 7 0 + i) (nth 0 data i)) s.boot.mbox
    (State.recDone { s with boot.mbox := m } 9 arg).recReply 0 [])

/-! Tamper inputs (R577 to R580) -/

/-- The locks an input sets: bit 0 CP2, bit 1 CP3. -/
def tamperLocks (w : Half) : BitVec 2 := BitVec.ofNat 2 ((flag w 3).toNat + 2 * (flag w 2).toNat)

def State.setLocks (s : State) (n : Nat) (l : BitVec 2) : State :=
  let k := { s.jr.kept with locks := s.jr.kept.locks.put 0 n l }
  { s with jr.kept := k, cmd.locked := k.lockedPorts }

/-- An input has changed as filtered. -/
def State.tamperChange (s : State) (n : Nat) (active : Bool) : State :=
  let w := s.tamperCfg n
  if !flag w 31 || s.boot.tamperActive.getLsbD n == active then s
  else
    let s : State := { s with boot.tamperActive := setFlag s.boot.tamperActive n active }
    let s := s.logTamper (if active then 1 else 2) n false 0 (if active then fld w 7 0 else fld w 1 0)
    let s := if active then s.setLocks n (s.jr.kept.locks.look 0 n ||| tamperLocks w) else s
    let s := if active && flag w 4 then s.zeroise (flag w 5) n else s
    if flag w 1 then s.raiseLater 0x182 (!active) 0 n else s

def execTamper (input : Fin 4) (active : Bool) (s : State) : Host.Outcome State Fault Refusal := .next (s.tamperChange input.val active)

/-! Class 0x0E (Table 18.9) -/

/-- SYS_RESET (R584). -/
def State.sysReset (s : State) (c : Cmd) : State :=
  s.runOp c (plainOp 0x0E 0x01 SUP [0, maskOf [(0, 0)]]) [] none fun s =>
    if !flag (c.word 1) 0 && s.pair.token && !(s.pair.mateUp && s.pair.peer.healthy) then refuse stState 0 s
    else .ok { s with boot.resetAt := some (s.now + 80) } []

def resetWords (r : ResetRec) : List Word :=
  [mkWord [(63, 60, r.cause), (50, 48, r.fnSrc.toNat), (47, 0, r.fn.toNat)], mkWord [(63, 32, r.secs), (0, 0, r.slot.toNat)]]

def State.resetLog (s : State) (c : Cmd) : State :=
  s.runOp c (plainOp 0x0E 0x02 OPR []) [] none fun s =>
    .ok s (BitVec.ofNat 64 s.jr.kept.resets.length :: s.jr.kept.resets.reverse.flatMap resetWords)

def State.wdtSet (s : State) (c : Cmd) : State :=
  let v := fld (c.word 1) 13 0
  s.runOp c (setting 0x0E 0x03 SUP [0, maskOf [(13, 0)]]) [(decide (v < 100 ∨ 10000 < v), 1)] none fun s =>
    .ok { s with cfg.boot.wdtMs := BitVec.ofNat 14 v } []

/-- TAMPER_SET; LOG reads 1 whatever is written. -/
def State.tamperSet (s : State) (c : Cmd) : State :=
  let v := fld (c.word 1) 25 16
  let n := fld (c.word 0) 1 0
  s.runOp c (setting 0x0E 0x04 SUP [maskOf [(1, 0)], maskOf [(31, 30), (25, 16), (5, 0)]]) [(decide (v = 0 ∨ 1000 < v), 1)] none fun s =>
    .ok { s with cfg.boot.tamper := s.cfg.boot.tamper.put tamperCfgReset n (BitVec.ofNat 32 (fld (c.word 1) 31 0) ||| 1) } []

def State.tamperGet (s : State) (c : Cmd) : State :=
  let n := fld (c.word 0) 1 0
  s.runOp c (plainOp 0x0E 0x05 OPR [maskOf [(1, 0)]]) [] none fun s =>
    .ok s [mkWord [(33, 33, (decide (s.jr.kept.locks.look 0 n ≠ 0)).toNat), (32, 32, (s.boot.tamperActive.getLsbD n).toNat),
      (31, 0, (s.cfg.boot.tamper.look tamperCfgReset n).toNat)]]

def State.tamperClear (s : State) (c : Cmd) : State :=
  s.runOp c (plainOp 0x0E 0x06 SUP [0, maskOf [(3, 0)]]) [] none fun s =>
    .ok ((List.range 4).foldl (fun s n => if flag (c.word 1) n then (s.setLocks n 0).logTamper 6 n false 0 0 else s) s) []

def State.tamperLogGet (s : State) (c : Cmd) : State :=
  let n := fld (c.word 0) 15 9
  s.runOp c (plainOp 0x0E 0x07 OPR [maskOf [(15, 0)]]) [(decide (n = 0 ∨ 64 < n), 0)] none fun s =>
    .ok s (BitVec.ofNat 64 s.jr.kept.tamperCount ::
      (((s.jr.kept.tamperLog.reverse.drop (fld (c.word 0) 8 0)).take n).flatMap fun e => [e.w0, e.w1, e.w2, e.w3]))

/-- The capture (R583): of Table 18.11 what the model holds; JOURNAL_STATUS, the frames and the models stay readable where they are. -/
def State.capture (s : State) (reason : Nat) (erase : Bool) (note : List Word) : State :=
  let k := s.jr.kept
  let seq := (match k.capture with | some x => x.seq | none => 0) + 1
  let x : Capt := { seq := seq, fn := s.tick.fn, count := BitVec.ofNat 32 k.tamperCount, reason := BitVec.ofNat 8 reason, erase := erase, note := note,
                    resets := k.resets, wakes := s.pwr.wakeLog, devLogNext := s.jr.nextIdx, counters := s.ev.counters.map fun y => (y.1, y.2.live) }
  let s := State.raise { s with jr.kept := { k with capture := some x } } { src := 0x186 }
  let s := s.fix .returnCapture stOk [seq.setWidth 64]
  if erase then s.zeroise true 0 else s

/-- RETURN_CAPTURE replies once the capture is written. -/
def State.returnCapture (s : State) (c : Cmd) : State :=
  let w := c.word 1
  let r := s.runOp c (plainOp 0x0E 0x08 SUP ([0, maskOf [(9, 0)]] ++ List.replicate 8 allBits)) [] none fun s =>
    if s.pair.token && !flag w 9 then refuse stState 0 s else .later s .returnCapture
  if r.cmd.deferred.length = s.cmd.deferred.length then r else r.capture (fld w 7 0) (flag w 8) (c.words.drop 2)

def State.captureStatus (s : State) (c : Cmd) : State :=
  s.runOp c (plainOp 0x0E 0x09 OPR []) [] none fun s =>
    .ok s (match s.jr.kept.capture with
      | some x => [mkWord [(63, 32, x.count.toNat), (31, 0, x.seq.toNat)], x.fn.setWidth 64]
      | none => [0, 0])

def State.recSet (s : State) (c : Cmd) : State :=
  let v := fld (c.word 1) 1 0
  s.runOp c (setting 0x0E 0x0A SUP [0, maskOf [(1, 0)]]) [(decide (v = 3), 1)] none fun s => .ok { s with cfg.boot.recLock := BitVec.ofNat 2 v } []

/-- FW_STAGE: the image as fetched from the host (R585). -/
def State.fwStage (s : State) (c : Cmd) (image : List Byte) : State :=
  s.runOp c (plainOp 0x0E 0x0B SUP [0, allBits, maskOf [(31, 0)]]) [] none fun s =>
    let i := parseImage s.ident.keyHash (image.take (fld (c.word 2) 31 0))
    unlessFail s [(decide (2 ≤ c.port.val), stNotPermitted, 0), (s.boot.flashBusy, stBusy, 0), (decide (i.code s.jr.kept.svnMin ≠ 0), stBadParam, 0xFF)]
      (.later { s with boot.flashBusy := true, boot.staged := some i } .fwStage)

/-- The staged image stands in the slot that does not run, and the reply is due; without one the write was cut short (R585). -/
def State.flashDone (s : State) : State :=
  match s.boot.flashBusy, s.boot.staged with
  | true, some i =>
    let k := s.jr.kept
    State.fix { s with boot.flashBusy := false, boot.staged := none,
                       jr.kept := if s.idleIsA then { k with imageA := i } else { k with imageB := i } } .fwStage stOk []
  | _, _ => s.fix .fwStage stInternal []

def execSysReset (c : Cmd) (s : State) : Host.Outcome State Fault Refusal := packet c s (·.sysReset c)
def execResetLog (c : Cmd) (s : State) : Host.Outcome State Fault Refusal := packet c s (·.resetLog c)
def execWdtSet (c : Cmd) (s : State) : Host.Outcome State Fault Refusal := packet c s (·.wdtSet c)
def execTamperSet (c : Cmd) (s : State) : Host.Outcome State Fault Refusal := packet c s (·.tamperSet c)
def execTamperGet (c : Cmd) (s : State) : Host.Outcome State Fault Refusal := packet c s (·.tamperGet c)
def execTamperClear (c : Cmd) (s : State) : Host.Outcome State Fault Refusal := packet c s (·.tamperClear c)
def execTamperLog (c : Cmd) (s : State) : Host.Outcome State Fault Refusal := packet c s (·.tamperLogGet c)
def execReturnCapture (c : Cmd) (s : State) : Host.Outcome State Fault Refusal := packet c s (·.returnCapture c)
def execCaptureStatus (c : Cmd) (s : State) : Host.Outcome State Fault Refusal := packet c s (·.captureStatus c)
def execRecSet (c : Cmd) (s : State) : Host.Outcome State Fault Refusal := packet c s (·.recSet c)
def execFwStage (c : Cmd) (image : List Byte) (s : State) : Host.Outcome State Fault Refusal := packet c s (·.fwStage c image)

end Sys2Proof.Machine
end

