-- ==== Sys2Proof/Machine/Opcodes.lean ====
section
/-!
DEFINITION. The opcodes by class and number (Table 12.9), and step 7 of R401.
-/
namespace Sys2Proof.Machine

/-- Opcodes of class 0x00, System. -/
def ops0 : List (Nat × (Cmd → List Byte → State → State)) :=
  [(0x01, fun c _ s => s.devInfo c), (0x02, fun c _ s => s.seqSync c), (0x03, fun c _ s => s.echo c), (0x04, fun c _ s => s.fnGet c),
    (0x05, fun c _ s => s.cmdPortSet c), (0x06, fun c _ s => s.cmdPortStatus c)]

/-- Opcodes of class 0x01, Lanes and ports. -/
def ops1 : List (Nat × (Cmd → List Byte → State → State)) :=
  [(0x01, fun c _ s => s.laneSet c), (0x02, fun c _ s => s.laneGet c), (0x03, fun c _ s => s.laneStatus c),
    (0x04, fun c _ s => s.laneLoop c), (0x05, fun c _ s => s.lanePrbs c), (0x06, fun c _ s => s.mateSet c),
    (0x07, fun c _ s => s.mateStatus c), (0x08, fun c _ s => s.tribSet c), (0x09, fun c _ s => s.tribGet c),
    (0x0A, fun c _ s => s.tribStatus c), (0x0B, fun c _ s => s.tribLoop c)]

/-- Opcodes of class 0x02, Framing. -/
def ops2 : List (Nat × (Cmd → List Byte → State → State)) :=
  [(0x01, fun c _ s => s.sdhOhSet c), (0x02, fun c _ s => s.sdhOhGet c), (0x03, fun c _ s => s.sdhStatus c),
    (0x04, fun c _ s => s.sdhCapture c), (0x05, fun c _ s => s.pathOhSet c), (0x06, fun c _ s => s.pathStatus c),
    (0x07, fun c _ s => s.pathCapture c), (0x08, fun c _ s => s.traceSet c), (0x09, fun c _ s => s.traceGet c),
    (0x0A, fun c _ s => s.sdhThreshGet c), (0x20, fun c _ s => s.e1Set c), (0x21, fun c _ s => s.e1Get c), (0x22, fun c _ s => s.e1Status c),
    (0x23, fun c _ s => s.e1FramerBind c), (0x24, fun c _ s => s.c37Status c), (0x25, fun c _ s => s.gfpSet c),
    (0x26, fun c _ s => s.gfpGet c), (0x27, fun c _ s => s.gfpBindOp c), (0x28, fun c _ s => s.gfpStatus c), (0x29, fun c _ s => s.vcatSet c),
    (0x2A, fun c _ s => s.vcatGet c), (0x2B, fun c _ s => s.memberAdd c), (0x2C, fun c _ s => s.memberRemove c),
    (0x2D, fun c _ s => s.vcatStatus c)]

/-- Opcodes of class 0x03, Fabric. -/
def ops3 : List (Nat × (Cmd → List Byte → State → State)) :=
  [(0x01, fun c _ s => s.changeOp c 3 1), (0x02, fun c _ s => s.changeOp c 3 2), (0x03, fun c _ s => s.changeOp c 3 3),
    (0x04, fun c _ s => s.connGet c), (0x05, fun c _ s => s.connFind c), (0x06, fun c _ s => s.connLatency c),
    (0x07, fun c _ s => s.changeOp c 3 7), (0x08, fun c _ s => s.structGet c), (0x09, fun c _ s => s.changeOp c 3 9),
    (0x0A, fun c _ s => s.tugGet c), (0x0B, fun c _ s => s.mapRead c)]

/-- Opcodes of class 0x04, Bushels. -/
def ops4 : List (Nat × (Cmd → List Byte → State → State)) :=
  [(0x01, fun c _ s => s.bushelOpen c), (0x02, fun c _ s => s.bushelCommit c), (0x03, fun c _ s => s.bushelCancel c),
    (0x04, fun c _ s => s.bushelStatus c), (0x05, fun c f s => s.bushelFetch c f), (0x06, fun c _ s => s.shed c),
    (0x07, fun c _ s => s.usageGet c), (0x08, fun c _ s => s.bushelList c)]

/-- Opcodes of class 0x05, Protection. -/
def ops5 : List (Nat × (Cmd → List Byte → State → State)) :=
  [(0x01, fun c _ s => s.changeOp c 5 1), (0x02, fun c _ s => s.changeOp c 5 2), (0x03, fun c _ s => s.changeOp c 5 3),
    (0x04, fun c _ s => s.pgGet c), (0x05, fun c _ s => s.pgCmd c), (0x06, fun c _ s => s.pgStatus c), (0x07, fun c _ s => s.changeOp c 5 7),
    (0x08, fun c _ s => s.changeOp c 5 8), (0x09, fun c _ s => s.lpGet c), (0x0A, fun c _ s => s.lpCmd c), (0x0B, fun c _ s => s.lpStatus c),
    (0x0C, fun c _ s => s.pgScan c)]

/-- Opcodes of class 0x06, Alignment. -/
def ops6 : List (Nat × (Cmd → List Byte → State → State)) :=
  [(0x01, fun c _ s => s.changeOp c 6 1), (0x02, fun c _ s => s.alignGet c), (0x03, fun c _ s => s.alignStatus c),
    (0x04, fun c _ s => s.alignRestart c), (0x05, fun c _ s => s.changeOp c 6 5), (0x06, fun c _ s => s.symGet c),
    (0x07, fun c _ s => s.symStatus c), (0x08, fun c _ s => s.markSet c), (0x09, fun c _ s => s.markCapture c),
    (0x0A, fun c _ s => s.vcatAlignSet c), (0x0B, fun c _ s => s.fathomMap c)]

/-- Opcodes of class 0x07, Packet interworking. -/
def ops7 : List (Nat × (Cmd → List Byte → State → State)) :=
  [(0x01, fun c _ s => s.changeOp c 7 1), (0x02, fun c _ s => s.changeOp c 7 2), (0x03, fun c _ s => s.changeOp c 7 3),
    (0x04, fun c _ s => s.queueGet c), (0x05, fun c _ s => s.queueStatus c), (0x06, fun c _ s => s.hdrSet c), (0x07, fun c _ s => s.hdrGet c),
    (0x08, fun c _ s => s.psnSet c), (0x09, fun c _ s => s.psnGet c), (0x0A, fun c _ s => s.fwdSet c), (0x0B, fun c _ s => s.fwdGet c),
    (0x0C, fun c _ s => s.pieStatus c)]

/-- Opcodes of class 0x08, Timing. -/
def ops8 : List (Nat × (Cmd → List Byte → State → State)) :=
  [(0x01, fun c _ s => s.timSysSet c), (0x02, fun c _ s => s.timSysGet c), (0x03, fun c _ s => s.timInSet c),
    (0x04, fun c _ s => s.timInGet c), (0x05, fun c _ s => s.timInStatus c), (0x06, fun c _ s => s.timStatus c),
    (0x07, fun c _ s => s.timHoldover c), (0x08, fun c _ s => s.timModelSet c), (0x09, fun c _ s => s.timModelGet c),
    (0x0A, fun c _ s => s.timModelLearn c), (0x0B, fun c _ s => s.timOutSet c), (0x0C, fun c _ s => s.timOutGet c),
    (0x0D, fun c _ s => s.timMonSet c), (0x0E, fun c _ s => s.todSet c), (0x0F, fun c _ s => s.ptpSet c), (0x10, fun c _ s => s.ptpPortSet c),
    (0x11, fun c _ s => s.ptpStatus c), (0x12, fun c _ s => s.timThermSet c)]

/-- Opcodes of class 0x09, Tenants and security. -/
def ops9 : List (Nat × (Cmd → List Byte → State → State)) :=
  [(0x01, fun c _ s => s.tenantSet c), (0x02, fun c _ s => s.tenantGet c), (0x03, fun c _ s => s.tenantDel c),
    (0x04, fun c _ s => s.tenantList c), (0x05, fun c _ s => s.keyLoad c), (0x06, fun c _ s => s.keyRetire c),
    (0x07, fun c _ s => s.authLogGet c)]

/-- Opcodes of class 0x0A, Counters. -/
def ops10 : List (Nat × (Cmd → List Byte → State → State)) :=
  [(0x01, fun c _ s => s.counterSet c), (0x02, fun c _ s => s.counterGet c), (0x03, fun c _ s => s.counterRead c),
    (0x04, fun c _ s => s.counterClear c), (0x05, fun c _ s => s.snapshotCmd c), (0x06, fun c _ s => s.counterDump c),
    (0x07, fun c _ s => s.filterSet c), (0x08, fun c _ s => s.filterGet c), (0x09, fun c _ s => s.userSlotSet c),
    (0x0A, fun c _ s => s.wordTraceSet c), (0x0B, fun c _ s => s.traceRead c), (0x0C, fun c _ s => s.traceClear c)]

/-- Opcodes of class 0x0B, Memories and journal. -/
def ops11 : List (Nat × (Cmd → List Byte → State → State)) :=
  [(0x01, fun c _ s => s.memStatus c), (0x02, fun c _ s => s.memErrLog c), (0x03, fun c _ s => s.journalStatus c),
    (0x04, fun c _ s => s.journalCompact c), (0x05, fun c _ s => s.journalRead c), (0x06, fun c _ s => s.ckptNow c),
    (0x07, fun c _ s => s.memInject c)]

/-- Opcodes of class 0x0C, Paired operation. -/
def ops12 : List (Nat × (Cmd → List Byte → State → State)) :=
  [(0x01, fun c _ s => s.pairSet c), (0x02, fun c _ s => s.pairGet c), (0x03, fun c _ s => s.pairStatus c),
    (0x04, fun c _ s => s.pairSwitch c), (0x05, fun c _ s => s.pairHold c), (0x06, fun c _ s => s.pairResync c),
    (0x07, fun c _ s => s.pairForce c)]

/-- Opcodes of class 0x0D, Power. -/
def ops13 : List (Nat × (Cmd → List Byte → State → State)) :=
  [(0x01, fun c _ s => s.pwrState c), (0x02, fun c _ s => s.pwrSet c), (0x03, fun c _ s => s.pwrGet c), (0x04, fun c _ s => s.wakeSet c),
    (0x05, fun c _ s => s.wakeGet c), (0x06, fun c _ s => s.pwrStatus c), (0x07, fun c _ s => s.wakeLogGet c),
    (0x08, fun c _ s => s.sleepGapGet c), (0x09, fun c _ s => s.voscCtrl c), (0x0A, fun c _ s => s.firkinCheck c),
    (0x0B, fun c _ s => s.wakeSend c)]

/-- Opcodes of class 0x0E, Reset and recovery. -/
def ops14 : List (Nat × (Cmd → List Byte → State → State)) :=
  [(0x01, fun c _ s => s.sysReset c), (0x02, fun c _ s => s.resetLog c), (0x03, fun c _ s => s.wdtSet c), (0x04, fun c _ s => s.tamperSet c),
    (0x05, fun c _ s => s.tamperGet c), (0x06, fun c _ s => s.tamperClear c), (0x07, fun c _ s => s.tamperLogGet c),
    (0x08, fun c _ s => s.returnCapture c), (0x09, fun c _ s => s.captureStatus c), (0x0A, fun c _ s => s.recSet c),
    (0x0B, fun c f s => s.fwStage c f)]

/-- Opcodes of class 0x0F, Events. -/
def ops15 : List (Nat × (Cmd → List Byte → State → State)) :=
  [(0x01, fun c _ s => s.eventRead c), (0x02, fun c _ s => s.eventLogStatus c), (0x03, fun c _ s => s.evicRegRead c),
    (0x04, fun c _ s => s.evicRegWrite c)]

/-- The classes. -/
def opClasses : List (List (Nat × (Cmd → List Byte → State → State))) :=
  [ops0, ops1, ops2, ops3, ops4, ops5, ops6, ops7, ops8, ops9, ops10, ops11, ops12, ops13, ops14, ops15]

/-- The meaning of an opcode; octets that it makes the device fetch from host memory come with it. -/
def opMeaning (cls op : Nat) : Option (Cmd → List Byte → State → State) :=
  ((nth [] opClasses cls).find? fun x => decide (x.1 = op)).map (·.2)

/-- A command is handled: steps 6 to 10 of R401. -/
def State.handleOp (s : State) (cls op : Nat) (c : Cmd) (fetched : List Byte) : State :=
  match opMeaning cls op with
  | some f => f c fetched s
  | none =>
    match s.claimFail c with
    | some (st, d) => s.answer c cls op st d []
    | none => s.answer c cls op stBadOpcode 0 []

end Sys2Proof.Machine
end

