-- ==== Sys2Proof/Machine/Carriage.lean ====
section
/-!
DEFINITION. Packets on the four command ports: steps 1 to 5 of R401, barriers, deferred replies and the command rings (12_commands.md §12.1 to §12.7,
13_host_ports_dma.md R442).
-/
namespace Sys2Proof.Machine

/-! A packet as octets (Table 12.1) -/

/-- The header is readable (R376). -/
def packetReadable (o : List Byte) : Bool := decide (16 ≤ o.length) && decide (at_ o 0 2 = 0xDA48)

/-- The length fields agree (R376). -/
def packetLengths (o : List Byte) : Bool :=
  let len := at_ o 2 2
  decide (len = o.length) && decide (len % 8 = 0) && decide (48 ≤ len) && decide (len ≤ 4096) && decide (len - 32 = paramOctets (at_ o 14 2))

/-- The fields of a packet, unverified. -/
def packetCmd (p : WaitPacket) : Cmd :=
  let o := p.octets
  let f := at_ o 6 2
  { port := p.port, tid := BitVec.ofNat 12 (f / 16), priv := BitVec.ofNat 2 (f / 4), slot := false, key := none,
    tag := BitVec.ofNat 128 (at_ o (o.length - 16) 16), seq := BitVec.ofNat 32 (at_ o 8 4), quiet := f % 2 = 1, barrier := f / 2 % 2 = 1,
    bushel := BitVec.ofNat 16 (at_ o 12 2), plen := at_ o 14 2, words := takeWords ((o.length - 32) / 8) (o.drop 16), ret := p.ret }

/-- A command's packet (Table 12.1) before its tag: 48 octets at least. -/
def Cmd.body (c : Cmd) (cls op : Nat) : List Byte :=
  octetsOf 2 0xDA48 ++ octetsOf 2 (32 + paramOctets c.plen) ++ octetsOf 1 cls ++ octetsOf 1 op ++
    octetsOf 2 (c.tid.toNat * 16 + c.priv.toNat * 4 + c.barrier.toNat * 2 + c.quiet.toNat) ++ octetsOf 4 c.seq.toNat ++
    octetsOf 2 c.bushel.toNat ++ octetsOf 2 c.plen ++ wordsOctets c.words

/-- The octets of a command's packet. -/
def Cmd.encode (c : Cmd) (cls op : Nat) : List Byte := c.body cls op ++ octetsOf 16 c.tag.toNat

/-! Steps 1 to 5 -/

/-- A packet is discarded silently. -/
def State.dropPacket (s : State) (p : WaitPacket) : State := (s.silent p.port.val).releaseTo p.port.val p.ret

/-- An AUTH_FAIL or REPLAY: the log, AUTH_FAILS of CMD_SEC, and CMD_AUTH_FAIL at most once per second per port. -/
def State.noteAuth (s : State) (c : Cmd) (status : Nat) : State :=
  let n := c.port.val
  let s := s.logAuth c.port status c.seq c.tid c.priv
  let s : State := { s with cmd.secFails := satAdd 16 s.cmd.secFails 1 }
  let p := s.port n
  if !s.mayReport p.authEvent then s.setPort n { p with authSince := p.authSince + 1 }
  else (s.setPort n { p with authEvent := s.now + 1, authSince := 0 }).raise
    { src := 0x0C0, code := n, aux := Nat.min (p.authSince + 1) 0xFF_FFFF }

/-- AUTH_FAIL; the port turns quiet when those of one second reach AUTH_LIMIT (R402). -/
def State.failAuth (s : State) (c : Cmd) (cls op : Nat) : State :=
  let n := c.port.val
  let g := s.portCfg n
  let p := (s.port n).atSecond s.second
  let s := (s.setPort n { p with authFails := p.authFails + 1, nAuthFail := sat32 p.nAuthFail 1 }).count 0x0902 n 1
  let s := (s.noteAuth c stAuthFail).send (c.reply cls op stAuthFail 0 [])
  if g.authLimit.toNat ≤ p.authFails + 1 then
    (s.setPort n { s.port n with quietEnd := some (s.now + 8000 * g.quietS.toNat) }).raise { src := 0x0C1, obj := n }
  else s

/-- The key slot whose key gives the tag: slot 0 is tried first (R391). -/
def State.verify (s : State) (c : Cmd) (o : List Byte) : Option (Bool × Key) :=
  let k := s.tenantKeys c.t
  let msg := o.take (o.length - 16)
  let fits (x : Option Key) : Option Key := x.filter fun x => decide (tagOf x msg = c.tag)
  match fits k.key0, fits k.key1 with
  | some x, _ => some (false, x)
  | none, some x => some (true, x)
  | none, none => none

/-- A packet the commissioning state admits (R394). -/
def commissionAdmits (c : Cmd) (cls op : Nat) : Bool :=
  decide (c.port.val = 0 ∨ c.port.val = 3) && decide (c.tid = 0) && decide (c.tag = 0) &&
    ((decide (cls = 0) && decide (1 ≤ op ∧ op ≤ 3)) || (decide (cls = 9) && decide (op = 5) && decide (tidOf c = 0)))

/-- Two commands are of one stream (§12.5). -/
def Cmd.sameStream (a b : Cmd) : Bool := decide (a.port = b.port) && decide (a.tid = b.tid) && a.slot == b.slot

/-- The same packet. -/
def Cmd.samePacket (a b : Cmd) : Bool := a.sameStream b && decide (a.seq = b.seq) && decide (a.tag = b.tag)

/-- Handled commands whose reply is still to come. -/
def State.unanswered (s : State) : List Cmd := s.cmd.deferred.map (·.cmd) ++ s.pair.waits.map (·.cmd)

/-- An earlier command of the stream has not replied, or waits itself: what a barrier waits for, and what keeps the order of a stream (R404). -/
def State.mustWait (s : State) (c : Cmd) (ahead : List WaitCmd) : Bool :=
  (ahead.any fun w => w.cmd.sameStream c) || (c.barrier && s.unanswered.any c.sameStream)

/-- A command that has passed step 5 is handled, or waits. -/
def State.queueCmd (s : State) (cls op : Nat) (c : Cmd) (fetched : List Byte) : State :=
  if s.mustWait c s.cmd.waiting then { s with cmd.waiting := s.cmd.waiting ++ [⟨cls, op, c⟩] } else s.handleOp cls op c fetched

/-- A duplicate: the cached reply, or nothing where the original sent nothing or its reply is still to come (R398). -/
def State.duplicate (s : State) (c : Cmd) (e : Option CacheEntry) : State :=
  let n := c.port.val
  let s := (s.setPort n { s.port n with nDuplicate := sat32 (s.port n).nDuplicate 1 }).count 0x0904 n 1
  match e with
  | none => s.release c
  | some e => if e.silent then s.release c else s.send { e.reply with ret := c.ret }

/-- REPLAY (R397). -/
def State.replay (s : State) (c : Cmd) (cls op : Nat) : State :=
  let n := c.port.val
  let s := (s.setPort n { s.port n with nReplay := sat32 (s.port n).nReplay 1 }).count 0x0905 n 1
  (s.noteAuth c stReplay).send (c.reply cls op stReplay (if c.seq = 0 then 1 else 0) [])

/-- A command is accepted: H becomes SEQ, CMD_SEQ_LOW once for its slot (R396, R400). -/
def State.acceptSeq (s : State) (c : Cmd) : State :=
  let n := c.port.val
  let s := s.setStreamH c.t c.slot n c.seq.toNat
  let s := (s.setPort n { s.port n with nAccepted := sat32 (s.port n).nAccepted 1 }).count 0x0900 n 1
  let k := s.tenantKeys c.t
  if 0xF000_0000 < c.seq.toNat ∧ !k.low c.slot then
    (s.setTenantKeys c.t (k.setLow c.slot true)).raise { src := 0x0C2, code := c.slot.toNat, obj := c.t }
  else s

/-- Step 5: the sequence number of a verified command (R396 to R398). -/
def State.sequence (s : State) (cls op : Nat) (c : Cmd) (fetched : List Byte) : State :=
  if s.streamH c.t c.slot c.port.val < c.seq.toNat then (s.acceptSeq c).queueCmd cls op c fetched
  else
    let same (e : CacheEntry) : Bool := decide (e.tid = c.tid) && e.slot == c.slot && decide (e.seq = c.seq) && decide (e.tag = c.tag)
    match (s.port c.port.val).cache.find? same with
    | some e => s.duplicate c (some e)
    | none =>
      if decide (c.seq ≠ 0) && (s.unanswered.any c.samePacket || s.cmd.waiting.any fun w => w.cmd.samePacket c) then s.duplicate c none
      else if c.seq = 0 ∧ cls = 0 ∧ op = 2 then s.queueCmd cls op c fetched
      else s.replay c cls op

/-- The command processor takes a packet from its port: steps 1 to 5 of R401, and what follows. -/
def State.admission (s : State) (p : WaitPacket) (fetched : List Byte) : State :=
  let o := p.octets
  let c := packetCmd p
  let cls := at_ o 4 1
  let op := at_ o 5 1
  if !packetReadable o then s.dropPacket p
  else if !(s.portCfg p.port.val).en || (s.port p.port.val).quietEnd.isSome then s.dropPacket p
  else if !packetLengths o then s.respond { c with words := [] } cls op stBadLength 0xFE []
  else if s.commissioning then
    (if commissionAdmits c cls op then s.queueCmd cls op c fetched else s.failAuth c cls op)
  else
    match s.verify c o with
    | none => s.failAuth c cls op
    | some x => s.sequence cls op { c with slot := x.1, key := some x.2 } fetched

/-- The command processor takes commands: boot is complete, it is neither frozen nor stalled, no power-fail checkpoint holds it, and the unit is not in
or on its way to Gill. -/
def State.takesCommands (s : State) : Bool :=
  s.boot.mode = .running && !s.boot.frozen && !s.cmd.held && !s.host.matrix.stalled.getLsbD 0 && s.awake &&
    (match s.pwr.mode with | .entry => false | _ => true)

/-- Packets that waited are taken, oldest first. -/
def State.takeArrived (s : State) (fetched : List Byte) : State :=
  let l := s.cmd.arrived
  l.foldl (fun s p => s.admission p fetched) { s with cmd.arrived := [] }

/-- A packet arrives on CP2 or CP3: it is taken, or waits for the command processor; CP2 holds 16 (R382). -/
def State.arrive (s : State) (p : WaitPacket) (fetched : List Byte) : State :=
  if s.takesCommands then (s.takeArrived fetched).admission p fetched
  else if p.port.val = 2 ∧ 16 ≤ (s.cmd.arrived.filter fun x => decide (x.port = 2)).length then s.dropPacket p
  else { s with cmd.arrived := s.cmd.arrived ++ [p] }

/-! Barriers and deferred replies -/

/-- The first waiting command of a port that nothing before it holds back, with those ahead of it. -/
def State.readyWait (s : State) (port : Fin 4) : List WaitCmd → List WaitCmd → Option WaitCmd
  | _, [] => none
  | ahead, w :: l => if w.cmd.port = port && !s.mustWait w.cmd ahead then some w else readyWait s port (ahead ++ [w]) l

/-- BARRIER_RELEASE (R404): the command is handled; with none ready, a packet that waited for the processor is taken. -/
def execBarrierRelease (port : Fin 4) (fetched : List Byte) (s : State) : Host.Outcome State Fault Refusal :=
  .next (if !s.takesCommands then s
    else
      match s.readyWait port [] s.cmd.waiting with
      | some w => State.handleOp { s with cmd.waiting := s.cmd.waiting.erase w } w.cls w.op w.cmd fetched
      | none =>
        match s.cmd.arrived.find? fun p => decide (p.port = port) with
        | some p => State.admission { s with cmd.arrived := s.cmd.arrived.erase p } p fetched
        | none => s)

/-- A deferred command of a port by its SEQ. -/
def State.deferredOf (s : State) (port : Fin 4) (seq : BitVec 32) : Option Deferred :=
  s.cmd.deferred.find? fun d => decide (d.cmd.port = port) && decide (d.cmd.seq = seq)

/-- A deferred command's write is done: the snapshot bank is in host memory, or the flash slot is written. -/
def State.writeDone (s : State) (d : Deferred) : State :=
  match d.waits, d.answer with
  | .counterWrite a, none =>
    let s := s.dumpCounters d.cmd a
    { s with cmd.deferred := s.cmd.deferred.map fun x => if x = d then { x with answer := some (BitVec.ofNat 8 stOk, []) } else x }
  | .fwStage, none => s.flashDone
  | _, _ => s

/-- DEFERRED_REPLY (R405). -/
def execDeferredReply (port : Fin 4) (seq : BitVec 32) (s : State) : Host.Outcome State Fault Refusal :=
  .next (match s.deferredOf port seq with
    | none => s
    | some d =>
      let s := s.writeDone d
      match s.deferredOf port seq with
      | none => s
      | some d =>
        match d.answer with
        | none => s
        | some (st, data) => State.answer { s with cmd.deferred := s.cmd.deferred.erase d } d.cmd d.cls d.op st.toNat 0 data)

/-! Descriptors of every kind of ring -/

/-- A command ring may fetch: the port can accept a packet, and its reply ring holds a device-owned descriptor that is not reserved (R382, R442). -/
def State.mayFetch (s : State) (n replyFree : Nat) : Bool :=
  let g := s.ring (n + 1)
  s.takesCommands && g.en && decide (g.reserved < replyFree)

/-- A command descriptor: the packet is fetched, a reply descriptor is reserved, the descriptor completed, and the packet taken (R442). -/
def State.takeCommand (s : State) (n : Nat) (d : DescRx) (fetched : List Byte) : State :=
  let port : Fin 4 := if n = 0 then 0 else 1
  let g := s.ring (n + 1)
  let s := s.setRing (n + 1) { g with reserved := g.reserved + 1 }
  (s.completeHead n d dmOk { len := descLen d }).admission ⟨port, d.octets.take (descLen d), .ring⟩ fetched

/-- RING_DESCRIPTOR (R438 to R445): the descriptor at HEAD as the device reads it, and how many descriptors of the port's reply ring the device
owns. -/
def execRingDescriptor (ring : Fin 64) (d : DescRx) (replyFree : Nat) (fetched : List Byte) (s : State) : Host.Outcome State Fault Refusal :=
  let n := ring.val
  .next (if (s.ring n).kind = 1 then
      (if s.mayFetch n replyFree then s.readDescriptor n d (fun s => s.takeCommand n d fetched) else s)
    else s.readDescriptor n d (fun s => s.takeDescriptor n d))

end Sys2Proof.Machine
end

