-- ==== Sys2Proof/Machine/Program.lean ====
section
/-!
DEFINITION. Program DMA programs: their encoding (Table 13.10), the check before they run (R452) and START.
-/
namespace Sys2Proof.Machine

/-! Fields of instructions -/

def DmaInstr.opcode (i : DmaInstr) : Nat := fld i.w0 63 60
def DmaInstr.mode (i : DmaInstr) : Nat := fld i.w0 59 56
def DmaInstr.lock (i : DmaInstr) : Bool := flag i.w0 55
def DmaInstr.count (i : DmaInstr) : Nat := fld i.w0 47 24
def DmaInstr.pa (i : DmaInstr) : Nat := fld i.w0 23 16
def DmaInstr.pb (i : DmaInstr) : Nat := fld i.w0 15 0
def DmaInstr.body (i : DmaInstr) : Nat := fld i.w0 7 0
def DmaInstr.end_ (i : DmaInstr) : Bool := flag i.w0 59
def DmaInstr.event (i : DmaInstr) : Bool := flag i.w0 58
def DmaInstr.write (i : DmaInstr) : Bool := flag i.w0 57
def DmaInstr.code (i : DmaInstr) : Nat := fld i.w0 15 0

/-- An address is well formed: whole words, and no bit between a matrix address and bit 63 (R453). -/
def dmaAddrOk (a : Word) : Bool := decide (fld a 2 0 = 0) && !(flag a 63 && decide (fld a 62 36 ≠ 0))

/-- A MOVE is sound: reserved fields, its addresses, and COUNT against the reshuffle (Table 13.11, R456). -/
def moveOk (i : DmaInstr) : Bool :=
  decide (fld i.w0 54 48 = 0) && dmaAddrOk i.w1 && dmaAddrOk i.w2 &&
    (if i.mode = 0 then decide (i.pa = 0 ∧ i.pb = 0)
     else decide (i.mode ≤ 4) && decide (1 ≤ i.pa) && decide (i.pa ≤ if i.mode ≤ 2 then 32 else 64) && decide (1 ≤ i.pb) &&
      decide (i.count = ceilDiv (i.pa * i.pb) 8))

/-- Loops whose body holds instruction k. -/
def loopsOver (code : List DmaInstr) (k : Nat) : List Nat :=
  (List.range k).filter fun j => match code[j]? with | some x => decide (x.opcode = 2) && decide (k ≤ j + x.body) | none => false

/-- An instruction is sound (R452). -/
def instrOk (code : List DmaInstr) (k : Nat) (i : DmaInstr) : Bool :=
  match i.opcode with
  | 1 => moveOk i
  | 2 => decide (fld i.w0 59 48 = 0) && decide (fld i.w0 23 8 = 0) && decide (1 ≤ i.body) && decide (k + i.body < code.length) &&
      decide (fld i.w1 2 0 = 0) && decide (fld i.w2 2 0 = 0) && decide ((loopsOver code k).length < 4)
  | 3 => decide (i.mode ≤ 3) && decide (fld i.w0 55 0 = 0) && decide (i.w2 = 0) &&
      (if i.mode = 0 then decide (fld i.w1 63 48 = 0) else if i.mode = 1 then decide (fld i.w1 63 32 = 0) else decide (i.w1 = 0))
  | 4 => decide (fld i.w0 56 16 = 0) && (if i.write then dmaAddrOk i.w1 else decide (i.w1 = 0 ∧ i.w2 = 0))
  | _ => false

/-- The first faulty instruction; a program without a SIGNAL that ends it is at fault at its last one. -/
def programFault (code : List DmaInstr) : Option Nat :=
  match (List.range code.length).find? fun k => match code[k]? with | some i => !instrOk code k i | none => true with
  | some k => some k
  | none => if code.any fun i => decide (i.opcode = 4) && i.end_ then none else some (code.length - 1)

/-- Words as instructions. -/
def instrsOf : List Word → List DmaInstr
  | a :: b :: c :: l => ⟨a, b, c⟩ :: instrsOf l
  | _ => []

/-- PROG_LEN. -/
def Chan.progLen (x : Chan) : Nat := fld x.cfg 16 8

/-- START: the program as fetched is checked and begins; none where the fetch failed (R452). -/
def State.chanStart (s : State) (c : Nat) (program : Option (List Word)) : State :=
  let x := s.chan c
  if x.mode ≠ .idle then s
  else
    let fresh := { x with index := 0, moved := 0, pc := 0, loops := [], done_ := 0, abort := false, stalled := false }
    match program with
    | none => (s.setChan c fresh).chanEnd c dmHostErr
    | some ws =>
      let code := (instrsOf ws).take x.progLen
      if code.length < x.progLen then (s.setChan c fresh).chanEnd c dmHostErr
      else
        match programFault code with
        | some k => (s.setChan c { fresh with index := k }).chanEnd c dmBadInstr
        | none => s.setChan c { fresh with code := code, mode := .running }

end Sys2Proof.Machine
end

