-- ==== Sys2Proof/Machine/Host.lean ====
section
/-!
DEFINITION. The PCIe host ports, the management Ethernet CP2 and the craft port CP3 (13_host_ports_dma.md §13.1 to §13.3).
-/
namespace Sys2Proof.Machine

/-! Host ports (R415 to R419) -/

/-- HOST_LINK: CLR with the loss (Table 14.1, Table 13.12). -/
def State.hostLink (s : State) (portB up : Bool) : State := s.raise { src := 0x0D7, clr := !up, obj := portB.toNat }

/-- A ring stops with its port: what it holds, a descriptor still in progress after EN was cleared too, is abandoned without write-back (R419). -/
def State.ringLost (s : State) (portB : Bool) (n : Nat) : State :=
  let r := s.ring n
  if r.portB != portB then s
  else
    (s.setRing n { r with cfg := setFlag r.cfg 27 false, idle := true, waiting := false, rung := false, frame := [], open_ := none, spoilt := false, stalled := false }).dropReplies n

/-- A host channel stops with its port, without its completion word (R419). -/
def State.chanLost (s : State) (portB : Bool) (c : Nat) : State :=
  if c < 4 ∨ (s.chan c).portB ≠ portB ∨ (s.chan c).mode = .idle then s else s.chanStop c

/-- A host target's outstanding notification ends; its pin goes high again (R465). -/
def State.endNotice (s : State) (t : Nat) : State :=
  let x := s.target t
  if !x.outstanding then s
  else
    let s := s.setTarget t { x with outstanding := false }
    if (s.hostPort (t = 1)).msixEn then s else s.emit (.pin (intPin t) true)

/-- HOST_PORT_RESET (R419): a Function Level Reset, or the loss of the link or of D0. -/
def State.hostPortReset (s : State) (portB flr : Bool) : State :=
  let was := s.hostPort portB
  let s := (s.host.rings.map (·.1)).foldl (fun s n => s.ringLost portB n) s
  let s := (s.host.chans.map (·.1)).foldl (fun s c => s.chanLost portB c) s
  let s := if flr then s else s.endNotice portB.toNat
  let s := s.setHostPort portB { HostPort.reset with linkUp := was.linkUp && flr }
  let s := if was.linkUp && !flr then s.hostLink portB false else s
  s.notify

def execHostPortReset (portB flr : Bool) (s : State) : Host.Outcome State Fault Refusal := .next (s.hostPortReset portB flr)

/-- HOST_PORT_LINK_UP: the port is in D0 with its link up; whether the host has MSI-X enabled. In host boot the wait for GO begins (R569). -/
def State.hostPortLinkUp (s : State) (portB msix : Bool) : State :=
  let was := s.hostPort portB
  let s := s.setHostPort portB { was with linkUp := true, msixEn := msix }
  let s : State := if !portB && s.boot.mode = .booting && s.bootPlan = .host then { s with boot.mode := .hostWait, boot.goBy := s.now + 240000 } else s
  if was.linkUp then s else s.hostLink portB true

def execHostPortLinkUp (portB msix : Bool) (s : State) : Host.Outcome State Fault Refusal := .next (s.hostPortLinkUp portB msix)

/-! CP2 (R420, R421) -/

/-- CP2_LINK_CHANGE. -/
def execCp2LinkChange (up : Bool) (s : State) : Host.Outcome State Fault Refusal := .next { s with host.craft.cp2Link := up }

/-- The frame carries the VLAN of command traffic. -/
def State.cp2Vlan (s : State) (h : EthHead) : Bool :=
  if s.host.craft.mgmtVid = 0xFFF then h.vids.isEmpty else decide (h.vids = [s.host.craft.mgmtVid.toNat])

/-- A PTP frame for a PTP port on CP2. -/
def State.cp2Ptp (s : State) (h : EthHead) : Bool :=
  decide (h.etype = 0x88F7) &&
    s.cfg.tim.ports.any fun x => ptpEn x.2 && decide (ptpPlace x.2 = 40) && (decide (h.dst = ptpDa x.2) || decide (h.dst = s.host.craft.mgmtMac.toNat))

/-- A frame received on CP2. -/
def State.mgmtReceive (s : State) (f : MgmtRx) : State :=
  let c := s.host.craft
  let h := ethHead f.octets
  if !c.cp2Link || !s.awake then s
  else if !f.fcsOk || decide (4132 < f.octets.length + 4) then State.count { s with host.craft.cp2Mac := c.cp2Mac + 1 } 0x0908 2 1
  else if !s.cp2Vlan h then State.count { s with host.craft.cp2Vlan := c.cp2Vlan + 1 } 0x0906 2 1
  else if h.etype = 0x88B5 ∧ h.dst = c.mgmtMac.toNat then
    let tag : Option (BitVec 16) := if h.vids.isEmpty then none else some (BitVec.ofNat 16 (at_ f.octets 14 2))
    s.arrive ⟨2, h.rest, .eth (BitVec.ofNat 48 (at_ f.octets 6 6)) tag⟩ f.fetched
  else if s.cp2Ptp h then s.ptpFrame 40 h f.fn f.cycle
  else State.count { s with host.craft.cp2Other := c.cp2Other + 1 } 0x0907 2 1

def execMgmtFrameReceive (f : MgmtRx) (s : State) : Host.Outcome State Fault Refusal := .next (s.mgmtReceive f)

/-! CP3 (R422 to R428) -/

/-- CRC-16 of R423. -/
def craftCrc (l : List Byte) : Nat := crcOver 16 0x1021 0xFFFF l

/-- SPI_EN and OPT_EN, in a unit that is powered. -/
def State.spiEn (s : State) : Bool := s.awake && flag s.host.craft.craftCfg 0
def State.optEn (s : State) : Bool := s.awake && flag s.host.craft.craftCfg 1

/-- CP3 takes a packet from one of its paths. -/
def State.craftTake (s : State) (optical : Bool) (octets fetched : List Byte) : State :=
  State.arrive { s with host.craft.held := some optical } ⟨3, octets, .craft optical⟩ fetched

/-- A frame is discarded on a path. -/
def State.craftDiscard (s : State) (optical : Bool) : State :=
  let c := s.host.craft
  (if optical then { s with host.craft.optDiscards := c.optDiscards + 1 }
   else { s with host.craft.spiDiscards := c.spiDiscards + 1, host.craft.spiDiscard := true } : State).count 0x0909 optical.toNat 1

/-- CRAFT_WRITE: length N and the octets clocked after it, judged when CRAFT_CS_N rises (R423). -/
def State.craftWrite (s : State) (n : BitVec 16) (data fetched : List Byte) : State :=
  let k := n.toNat
  if !s.spiEn then s
  else
    let s := s.emit (.spi (List.replicate (2 + data.length) 0xFF))
    if data.length < k + 2 ∨ k < 48 ∨ 4096 < k ∨ s.host.craft.held.isSome ∨ craftCrc (data.take k) ≠ at_ data k 2 then s.craftDiscard false
    else s.craftTake false (data.take k) fetched

def execCraftWrite (n : BitVec 16) (data fetched : List Byte) (s : State) : Host.Outcome State Fault Refusal :=
  .next (s.craftWrite n data fetched)

/-- The status octet of the electrical path (Table 13.3). -/
def State.craftStatus (s : State) : Byte :=
  let c := s.host.craft
  mkBits 8 [(3, 3, (s.cmd.locked.getLsbD 3).toNat), (2, 2, c.spiDiscard.toNat), (1, 1, c.held.isSome.toNat), (0, 0, c.spiReply.isSome.toNat)]

/-- CRAFT_STATUS. -/
def execCraftStatus (s : State) : Host.Outcome State Fault Refusal :=
  .next (if s.spiEn then State.emit { s with host.craft.spiDiscard := false } (.spi [s.craftStatus]) else s)

/-- What a READ returns: length, reply and CRC. -/
def State.craftReadOctets (s : State) : List Byte :=
  let r := s.host.craft.spiReply.getD []
  octetsOf 2 r.length ++ r ++ octetsOf 2 (craftCrc r)

/-- CRAFT_READ: as many octets as were clocked; the reply is released once all were (R423). -/
def State.craftRead (s : State) (clocked : Nat) : State :=
  if !s.spiEn then s
  else
    let o := s.craftReadOctets
    let t := s.emit (.spi (o.take clocked))
    if s.host.craft.spiReply.isSome && decide (o.length ≤ clocked) then
      State.emit { t with host.craft.spiReply := none, host.craft.held := none } (.pin .craftAtn true)
    else t

def execCraftRead (clocked : Nat) (s : State) : Host.Outcome State Fault Refusal := .next (s.craftRead clocked)

/-- A nibble character (R424). -/
def isNibble (c : Byte) : Bool := decide (c &&& 0x55 = 0x55)

/-- The nibble of a nibble character, and its character. -/
def nibbleOf (c : Byte) : Nat := fld c 1 1 + 2 * fld c 3 3 + 4 * fld c 5 5 + 8 * fld c 7 7
def nibbleChar (n : Nat) : Byte := mkBits 8 [(7, 7, n / 8), (6, 6, 1), (5, 5, n / 4), (4, 4, 1), (3, 3, n / 2), (2, 2, 1), (1, 1, n), (0, 0, 1)]

/-- Octets of pairs of nibble characters, high nibble first. -/
def unNibble : List Byte → List Byte
  | a :: b :: l => BitVec.ofNat 8 (nibbleOf a * 16 + nibbleOf b) :: unNibble l
  | _ => []

/-- The receiver is on and listens. -/
def State.optListens (s : State) : Bool := s.optEn && decide (s.host.craft.optState = .idle ∨ s.host.craft.optState = .receiving)

/-- OPTICAL_FRAME_RECEIVE (R425): the characters between two flags, and whether a gap of more than 1 s fell among them. -/
def State.opticalReceive (s : State) (chars : List Byte) (gap : Bool) (fetched : List Byte) : State :=
  let o := unNibble chars
  let k := o.length - 2
  if !s.optListens || chars.isEmpty then s
  else if !chars.all isNibble || decide (chars.length % 2 = 1) || decide (o.length < 2) || decide (craftCrc (o.take k) ≠ at_ o k 2) || gap ||
      s.host.craft.held.isSome then s.craftDiscard true
  else s.craftTake true (o.take k) fetched

def execOpticalFrameReceive (chars : List Byte) (gap : Bool) (fetched : List Byte) (s : State) : Host.Outcome State Fault Refusal :=
  .next (s.opticalReceive chars gap fetched)

/-- OPTICAL_LINE_FAULT: FLOOD or NOISE (R427). -/
def State.opticalFault (s : State) (noise : Bool) : State :=
  let c := s.host.craft
  if !s.optListens then s
  else
    let first := s.mayReport c.lineEvent
    let mark := if first then s.now + 1 else c.lineEvent
    let s : State := if noise then { s with host.craft.optState := .quietNoise, host.craft.noises := c.noises + 1, host.craft.lineEvent := mark }
      else { s with host.craft.optState := .quietFlood, host.craft.floods := c.floods + 1, host.craft.lineEvent := mark }
    (s.count (if noise then 0x090B else 0x090A) 1 1).raiseIf first { src := 0x0D8 }

def execOpticalLineFault (noise : Bool) (s : State) : Host.Outcome State Fault Refusal := .next (s.opticalFault noise)

/-- OPTICAL_QUIET_END. -/
def execOpticalQuietEnd (s : State) : Host.Outcome State Fault Refusal :=
  .next (if s.host.craft.optState = .quietFlood ∨ s.host.craft.optState = .quietNoise then { s with host.craft.optState := .idle } else s)

/-- The characters of an optical frame (R425). -/
def opticalFrame (o : List Byte) : List Byte :=
  0xFB :: (o ++ octetsOf 2 (craftCrc o)).flatMap (fun b => [nibbleChar (fld b 7 4), nibbleChar (fld b 3 0)]) ++ [0xFB]

/-- OPTICAL_REPLY_SEND (R428). -/
def execOpticalReplySend (s : State) : Host.Outcome State Fault Refusal :=
  .next (match s.host.craft.optReply, s.optEn with
    | some r, true => State.emit { s with host.craft.optReply := none, host.craft.held := none } (.optical (opticalFrame r))
    | _, _ => s)

end Sys2Proof.Machine
end

