-- ==== Sys2Proof/Machine/Traffic.lean ====
section
/-!
DEFINITION. Traffic through the fabric, a frame at a time: sources, the Fathom's rings, padding, the grain interchange and destinations
(01_device_overview.md 1.2; R13, R22, R196, R284, R306). Latency below a frame is CONN_LATENCY's (log entry 62).
-/
namespace Sys2Proof.Machine

/-- A stage that disagreed sets QB on the words of an endpoint (R44). -/
def State.badAt (s : State) (e : Eid) : Bool := s.tick.badStages.any fun n => decide (n = eidFp e) || decide (13 < n)

/-- What an endpoint gave in the frame that ends: a pseudowire queue its playout, any other source what arrived (log entry 62). -/
def State.sourceNow (s : State) (t : List Arrival) (e : Eid) : Option Payload :=
  let p : Option Payload :=
    if decide (eidKind e = .queue) && (s.cfg.b.queue (eidQid e)).pw then
      (if s.queueOn (eidQid e) then some (s.queue (eidQid e)).out else none)
    else (t.find? fun a => decide (a.eid = s.seen e)).map fun a => ⟨a.octets, a.qb⟩
  p.map fun x => { x with qb := x.qb || s.badAt e }

/-- The rings of every group take in its legs' frame (R280). -/
def State.storeLegs (s : State) (t : List Arrival) : State :=
  s.cfg.b.pgs.foldl (fun s x =>
    let g := s.alignGroup x.1
    let n := s.cfg.b.dmax x.1 + holdJ (eidLevelN x.2.leg0) + 1
    let put (l : List Payload) (e : Eid) : List Payload := (((s.sourceNow t e).getD ⟨[], true⟩) :: l).take n
    s.setAlignGroup x.1 { g with store0 := put g.store0 x.2.leg0, store1 := put g.store1 x.2.leg1 }) s

/-- What the selector of a group puts out (R284, R299). A ring that has not been written that far back gives nothing. -/
def State.groupOut (s : State) (pg : Nat) : Option Payload :=
  let g := s.alignGroup pg
  let p := if s.legOut pg then g.store1[g.read1]? else g.store0[g.read0]?
  p.bind fun x => if x.octets.isEmpty then none else some x

/-- The source of a record in one direction, by number: an EID, or 2^32 + PG. -/
def Conn.source (r : Conn) (back : Bool) : Nat := if back then r.z.toNat else if r.pgEn then 2 ^ 32 + r.pg else r.a.toNat

/-- What a source gave, by number. -/
def State.given (s : State) (t : List Arrival) (n : Nat) : Option Payload :=
  if 2 ^ 32 ≤ n then s.groupOut (n - 2 ^ 32) else s.sourceNow t (BitVec.ofNat 32 n)

/-- The destinations of a record in one direction (R253). -/
def State.sinks (s : State) (r : Conn) (back : Bool) : List Eid :=
  if !back then [r.z]
  else match (if r.pgEn then s.cfg.b.pg r.pg else none) with
    | some g => if g.twoWay then [g.leg0, g.leg1] else [r.a]
    | none => [r.a]

/-- A frame reaches a destination. -/
def State.sink (s : State) (e : Eid) (p : Payload) : State :=
  let p : Payload := { p with qb := p.qb || s.badAt e }
  match eidKind e with
  | .null => s
  | .queue => if s.queueOn (eidQid e) then s.pwGather (eidQid e) p else s
  | _ => s.emit (.traffic e p.octets p.qb)

/-- The padding ring of a symmetric record delays the delivered direction by so many octets (R306). -/
def State.padded (s : State) (cid : Nat) (p : Payload) : Payload × State :=
  let x := s.symRec cid
  let n := p.octets.length
  let held := lastN (Nat.max (512 * x.blocks.length) x.padding + n) (s.fab.pads.look [] cid ++ p.octets)
  (⟨(lastN (x.padding + n) held).take n, p.qb⟩, { s with fab.pads := s.fab.pads.put [] cid held })

/-- The direction a symmetric record pads: from its line end, or its group, to its local end. -/
def Conn.padsBack (r : Conn) : Bool := !r.pgEn && decide (eidKind r.a ≠ .line)

/-- One direction of a record carries a frame. -/
def State.carry (s : State) (cid : Nat) (r : Conn) (back : Bool) (p : Option Payload) : State :=
  match p with
  | none => s
  | some p =>
    let x := if r.sym && back == r.padsBack then s.padded cid p else (p, s)
    (x.2.sinks r back).foldl (fun s e => s.sink e x.1) x.2

/-- The records that carry traffic: every one, in Firkin the essential ones (R532). -/
def State.carrying (s : State) : List (Nat × Conn) := s.cfg.b.conns.filter fun x => !x.2.isFree && (!s.inFirkin || x.2.essential)

/-- HO and LO words leave in the frame that ends. -/
def State.wordsFrame (s : State) (t : List Arrival) : State :=
  (s.carrying.filter fun x => decide (x.2.level ≠ 2)).foldl (fun s x =>
    let s := s.carry x.1 x.2 false (s.given t (x.2.source false))
    if x.2.bidir then s.carry x.1 x.2 true (s.given t (x.2.source true)) else s) s

/-- The grain stage at a tick, under the maps of the frame it opens: a Short record reads the frame that ended, a Safe one the frame before (R22). A
null A sends 0xFF (R188, R196). `now` is what each source gave in the frame that ended. -/
def State.grainFrame (s : State) (now : Nat → Option Payload) : State :=
  let recs := s.carrying.filter fun x => decide (x.2.level = 2)
  let old := s.fab.last
  let read (r : Conn) (back : Bool) : Option Payload :=
    if !back && !r.pgEn && eidNull r.a then some ⟨List.replicate r.width 0xFF, false⟩
    else if r.short then now (r.source back)
    else let p := old.look Payload.empty (r.source back); if p.octets.isEmpty then none else some p
  let s := recs.foldl (fun s x =>
    let s := s.carry x.1 x.2 false (read x.2 false)
    if x.2.bidir then s.carry x.1 x.2 true (read x.2 true) else s) s
  let kept := recs.foldl (fun (t : Tab Payload) x =>
    (if x.2.bidir then [x.2.source false, x.2.source true] else [x.2.source false]).foldl (fun t n => t.put Payload.empty n ((now n).getD Payload.empty)) t) []
  { s with fab.last := kept }

end Sys2Proof.Machine
end

