-- ==== Sys2Proof/Machine/Tick.lean ====
section
/-!
DEFINITION. The frame tick, the flip check, steps and slews, and the registers of the tick generator (02_frame_tick.md).
-/
namespace Sys2Proof.Machine

/-- Fabric link parity mismatches of the frame that ends, one event per link (R12). -/
def State.parityFrame (s : State) (l : List (Nat × Nat)) : State :=
  l.foldl (fun s x =>
    let s : State := { s with ident.linkParity := s.ident.linkParity.put 0 x.1 (s.ident.linkParity.look 0 x.1 + x.2) }
    (s.count 0x0400 x.1 x.2).raiseIf (decide (x.2 ≠ 0)) { src := 0x020, aux := Nat.min x.2 0xFF_FFFF, obj := x.1 }) s

/-- What the frame that ends brought: memory errors, parity, countable events, traced words, traffic. -/
def State.frameEnds (s : State) (t : TickIn) : State :=
  let s := (t.ecc.foldl State.eccFound s).parityFrame t.parity
  let s := t.counts.foldl (fun s x => s.count x.1 x.2.1 x.2.2) s
  ((s.traceFrame t.words t.stamps).storeLegs t.traffic).wordsFrame t.traffic

/-- A frame of copy-forward and of a load is over; a short stepped frame does not count (R31, R33, R45, R217). FREEZE holds a load (R575). -/
def State.loadFrame (s : State) (short : Bool) : State :=
  if short then s
  else
    let s := if s.tick.copyLeft = 1 then s.copyForwardDone else { s with tick.copyLeft := s.tick.copyLeft - 1 }
    if s.tick.loading.isNone ∨ s.boot.frozen then s
    else if s.tick.loadLeft ≤ 1 then s.loadDone else { s with tick.loadLeft := s.tick.loadLeft - 1 }

/-- The tick slip: counted, its cause recorded (R42). With several causes in one frame, the last is recorded (log entry 63). -/
def State.slip (s : State) : State :=
  match s.tick.slipCauses.getLast? with
  | none => s
  | some c =>
    (State.raise { s with tick.slipCount := satAdd 8 s.tick.slipCount 1, tick.lastSlip := c, tick.slipCauses := [] }
      { src := 0x023, code := c.toNat }).count 0x0402 0 1

/-- FN advances, or is loaded by a step (R38, R49). -/
def State.fnAdvance (s : State) : State :=
  let next := if s.tick.started then fnAdd s.tick.fn 1 else 0
  match s.tick.stepKnown with
  | none => { s with tick.fn := next, tick.started := true }
  | some r =>
    let fn := r.loadFn.getD next
    let f := s.takeFree
    let s : State := { s with tick.fn := fn, tick.started := true, tick.stepKnown := none,
                              sdh.paths := s.sdh.paths.map fun x => (x.1, { x.2 with ingress.stepped := true, egress.stepped := true }) }
    let s := s.raiseIf (decide (fn ≠ next)) { src := 0x026 }
    if r.cause = 2 then s
    else
      let near : Int := 972 * ((f.1.toNat % 21 : Nat) - 10)
      let s : State := { s with freeIdx := f.2.freeIdx }
      let s := match s.tim.timeCand with | some c => s.setCand c { s.cand c with theta := some near } | none => s
      if r.cause = 1 then
        State.firstTraceable (State.raise { s with tick.fnSrc := 1 } { src := 0x0B4, code := 1, obj := s.tim.timeCand.getD 0xFF })
      else s

/-- A frame is lengthened or shortened by one cycle while |θ| is above 2 ns, never two in a row (R40, R364). A cycle is 1250/972 ns. -/
def State.slew (s : State) (stepped : Bool) : State :=
  match s.tim.timeCand, s.theta with
  | some c, some th =>
    if s.tick.slewEn && !s.tick.slewedLast && !stepped && !within 2 th && !(s.paired && s.pair.mateUp && !s.pair.token) then
      { (s.setCand c { s.cand c with theta := some (if 0 < th then th - 1250 else th + 1250) }) with tick.slewedLast := true }
    else { s with tick.slewedLast := false }
  | _, _ => { s with tick.slewedLast := false }

/-- The maps flip unless the tick is a slip (R35, R43). -/
def State.flipTick (s : State) (slip : Bool) : State :=
  let b := if s.tick.flipPassed && !slip then s.tick.flipBushel.bind s.bushel else none
  let s : State := { s with tick.flipPassed := false, tick.flipBushel := none }
  match b with
  | some b => s.flip b
  | none => s

/-- Stage mismatches: the stages are reset at the next tick, until which they set QB (R44); in eight frames in a row they are a fatal fault (R511). -/
def State.stagesTick (s : State) (l : List Nat) (mismatch : Bool) : State :=
  let n := if mismatch then s.pair.mismatches + 1 else 0
  let s : State := { s with tick.badStages := l, pair.mismatches := n }
  if n = 8 then s.fatal else s

/-- What falls due once per second. -/
def State.secondTick (s : State) : State :=
  if s.now % 8000 ≠ 0 then s
  else
    s.sdh.lanes.foldl (fun s x =>
      (s.setSdhLane x.1 { s.sdhLane x.1 with lofSeen := (s.sdhLane x.1).hasLof }).count 0x0104 x.1 x.2.lofSeen.toNat) s.ceSecond

/-- PPSOUT (R370). -/
def State.ppsTick (s : State) : State :=
  if s.fnNat % 8000 = 0 ∧ fld (s.outCfg 4) 31 28 = 7 ∧ s.tim.squelched.look false 4 = false then
    (s.emit (.pin .ppsOut true)).emit (.pin .ppsOut false)
  else s

/-- FRAME_TICK. The tick generator does not run while the device sleeps. -/
def State.frameTick (s : State) (t : TickIn) : State :=
  if !s.awake then s
  else
    let s := s.frameEnds t
    let given := s.given t.traffic
    let mismatch := !t.stages.isEmpty || s.tick.slipCauses.contains 4
    let s : State := { s with tick.slipCauses := s.tick.slipCauses ++ (if t.stages.isEmpty then [] else [4]) }
    let slip := !s.tick.slipCauses.isEmpty
    let s := s.loadFrame (match s.tick.stepKnown with | some r => r.short | none => false)
    let s := s.slew s.tick.stepKnown.isSome
    let s := s.fnAdvance
    let s : State := { s with now := s.now + 1, tick.cycle := 0, tick.grainBank := !s.tick.grainBank,
                              tick.refreshRow := s.tick.refreshRow + BitVec.ofNat 10 4860 }
    let s := (s.slip.flipTick slip).grainFrame given
    let s := (s.stagesTick t.stages mismatch).protTick
    let s := (((s.alignTick.vcatTick).captureTick).snapSample).pwrTick
    (((s.pairTick).wdtPeriod).secondTick).ppsTick.resetDue

def execFrameTick (t : TickIn) (s : State) : Host.Outcome State Fault Refusal := .next (s.frameTick t)

/-- FLIP_CHECK at cycle 97,000: the maps, every pair and group, and SF of the groups' legs (R35, R261, R294). -/
def execFlipCheck (s : State) : Host.Outcome State Fault Refusal :=
  .next (if s.awake then ({ s with tick.cycle := 97000 } : State).flipCheckMaps.protEvaluate.alignEvaluate else s)

/-- FRAME_STEP: a step in the present frame, which ends in a slip (R41, R42); the tick that ends it loads FN. -/
def State.frameStep (s : State) (cause : Nat) (loadFn : Option (BitVec 48)) (phaseError : Nat) (short : Bool) : State :=
  let take (s : State) : State :=
    { s with tick.stepKnown := some ⟨cause, loadFn, short⟩, tick.slipCauses := s.tick.slipCauses ++ [BitVec.ofNat 4 cause] }
  if !s.awake || s.tick.stepKnown.isSome then s
  else if cause = 1 then (if s.tick.fnSrc = 0 ∧ s.tim.timeCand.isSome ∧ loadFn.isSome then take s else s)
  else if cause = 2 then
    (if s.paired ∧ s.pair.mateUp ∧ !s.pair.token ∧ s.pair.peer.state = 3 ∧ !s.pair.phaseSet ∧ loadFn.isSome then take { s with pair.phaseSet := true } else s)
  else if cause = 3 then (if s.tick.stepArm ∧ s.tim.timeCand.isSome ∧ 1000 < phaseError then take { s with tick.stepArm := false } else s)
  else s

def execFrameStep (cause : BitVec 4) (loadFn : Option (BitVec 48)) (phaseError : Nat) (short : Bool) (s : State) : Host.Outcome State Fault Refusal :=
  .next (s.frameStep cause.toNat loadFn phaseError short)

/-- STEP_ARM_LAPSE: 80,000 frames (R41). -/
def execStepArmLapse (s : State) : Host.Outcome State Fault Refusal :=
  .next (if s.tick.stepArm ∧ s.due s.tick.stepArmEnd then { s with tick.stepArm := false } else s)

/-! Registers of the tick generator -/

/-- TICK_CTRL. -/
def State.tickCtrl (s : State) : Half := mkHalf [(1, 1, s.tick.stepArm.toNat), (0, 0, s.tick.slewEn.toNat)]

def State.setTickCtrl (s : State) (w : Half) : State :=
  let s : State := { s with tick.slewEn := flag w 0 }
  if flag w 1 then { s with tick.stepArm := true, tick.stepArmEnd := s.now + 80000 } else s

/-- TICK_STATUS. -/
def State.tickStatus (s : State) : Half :=
  let k := s.tick
  mkHalf [(31, 31, (decide (k.fnSrc ≠ 0)).toNat), (30, 28, k.fnSrc.toNat), (27, 24, k.copyLeft),
    (23, 20, s.scheduledNow.length), (19, 16, k.loadLeft), (15, 12, k.lastSlip.toNat), (7, 0, k.slipCount)]

/-- Reads that act: FN_LO and LAST_FLIP_LO latch their high halves (R39, R205), TICK_STATUS clears its count. -/
def State.readFnLo (s : State) : Half × State := (s.tick.fn.setWidth 32, { s with tick.fnHi := BitVec.ofNat 16 (fld s.tick.fn 47 32) })
def State.readLastFlipLo (s : State) : Half × State :=
  (s.tick.lastFlip.setWidth 32, { s with tick.lastFlipHi := BitVec.ofNat 16 (fld s.tick.lastFlip 47 32) })
def State.readTickStatus (s : State) : Half × State := (s.tickStatus, { s with tick.slipCount := 0 })

def execFnLoRead (master : BitVec 3) (s : State) : Host.Outcome State Fault Refusal := .next (s.readReg master.toNat 0x10 true State.readFnLo)
def execLastFlipLoRead (master : BitVec 3) (s : State) : Host.Outcome State Fault Refusal :=
  .next (s.readReg master.toNat 0x28 true State.readLastFlipLo)
def execTickStatusRead (master : BitVec 3) (s : State) : Host.Outcome State Fault Refusal :=
  .next (s.readReg master.toNat 0x18 true State.readTickStatus)

end Sys2Proof.Machine
end

