-- ==== Sys2Proof/Machine/RegView.lean ====
section
/-!
DEFINITION. What a 4-octet read of each register at BAR0 0x0_0000 to 0x0_FFFF returns, and what the read changes (R2, R39, R205). Offsets that name
no register read zero.
-/
namespace Sys2Proof.Machine

/-- BUSHEL_SUMMARY. -/
def State.bushelSummary (s : State) : Half :=
  let b := s.bush
  mkHalf [(31, 24, b.lastRefuse.toNat), (20, 16, (b.list.filter fun x => decide (x.mode = .open_)).length),
    (10, 8, (s.queuedNow.filter fun x => !x.direct).length), (4, 4, b.activeHalf.toNat), (3, 0, mapFormat)]

/-- FATHOM_USE. -/
def State.fathomUse (s : State) : Half :=
  if s.ident.profileValid then mkHalf [(31, 16, s.fathomFree), (15, 0, s.align.lowFree)] else 0

/-- FATHOM_ALIGN. -/
def State.fathomAlign (s : State) : Half :=
  let gs := s.cfg.b.pgs
  mkHalf [(31, 16, (gs.filter fun x => (s.alignGroup x.1).isLocked).length),
    (15, 0, (gs.filter fun x => !(s.alignGroup x.1).isLocked && !(s.legSf x.2 false || s.legSf x.2 true)).length)]

/-- MGMT_CFG. -/
def State.mgmtCfg (s : State) : Half := mkHalf [(31, 20, s.host.craft.mgmtVid.toNat), (15, 0, fld s.host.craft.mgmtMac 47 32)]

/-- OPT_STATE. -/
def OptState.code : OptState → Nat
  | .idle => 0
  | .receiving => 1
  | .transmitting => 2
  | .quietFlood => 3
  | .quietNoise => 4

/-- PORT_STATUS. -/
def State.portStatus (s : State) : Half :=
  let c := s.host.craft
  mkHalf [(31, 31, c.cp2Link.toNat), (27, 24, c.optState.code), (23, 23, c.held.isSome.toNat), (22, 22, c.spiReply.isSome.toNat)]

/-- The ring and the offset in its registers that an offset names. -/
def ringAt (off : Nat) : Option (Nat × Nat) :=
  if 0x1000 ≤ off ∧ off < 0x1080 then some ((off - 0x1000) / 0x40, off % 0x40)
  else if 0x1800 ≤ off ∧ off < 0x1880 then some (2 + (off - 0x1800) / 0x40, off % 0x40)
  else if 0x2000 ≤ off ∧ off < 0x2F00 then some (4 + (off - 0x2000) / 0x40, off % 0x40)
  else none

/-- The channel and the offset in its registers that an offset names. -/
def chanAt (off : Nat) : Option (Nat × Nat) := if 0x4000 ≤ off ∧ off < 0x4200 then some ((off - 0x4000) / 0x40, off % 0x40) else none

/-- A ring's registers; a read of RING_DROPS clears it. -/
def State.ringRead (s : State) (n o : Nat) : Half × State :=
  let r := s.ring n
  if o = 0 then (BitVec.ofNat 32 (fld r.base 31 0), s) else if o = 4 then (BitVec.ofNat 32 (fld r.base 63 32), s)
  else if o = 8 then (r.cfg, s) else if o = 0xC then (r.bind, s) else if o = 0x10 then (r.stat, s)
  else if o = 0x14 then (BitVec.ofNat 32 r.drops, s.setRing n { r with drops := 0 }) else (0, s)

def ChanMode.code : ChanMode → Nat
  | .idle => 0
  | .running => 1
  | .waiting => 2

/-- CH_STAT. -/
def Chan.stat (x : Chan) : Half := mkHalf [(31, 30, x.mode.code), (23, 16, x.lastStatus.toNat), (15, 8, x.index)]

/-- A channel's registers. -/
def State.chanRead (s : State) (c o : Nat) : Half :=
  let x := s.chan c
  if o = 0 then BitVec.ofNat 32 (fld x.prog 31 0) else if o = 4 then BitVec.ofNat 32 (fld x.prog 63 32)
  else if o = 8 then BitVec.ofNat 32 (fld x.done 31 0) else if o = 0xC then BitVec.ofNat 32 (fld x.done 63 32)
  else if o = 0x10 then x.cfg else if o = 0x14 then mkHalf [(2, 2, x.doorbell.toNat)] else if o = 0x18 then x.stat else 0

/-- The half of a word at an offset. -/
def halfAt (w : Word) (off : Nat) : Half := BitVec.ofNat 32 (if off % 8 = 0 then fld w 31 0 else fld w 63 32)

/-- TICK_CYCLE: the cycle as sampled now. -/
def State.readTickCycle (s : State) : Half × State :=
  let y := s.sampleCycle
  (y.1.setWidth 32, y.2)

/-- The registers at 0x0000 to 0x00FF. -/
def State.readLow (s : State) (off : Nat) : Half × State :=
  match off with
  | 0x00 => (devId, s)
  | 0x04 => (s.devConfig, s)
  | 0x10 => s.readFnLo
  | 0x14 => (s.tick.fnHi.setWidth 32, s)
  | 0x18 => s.readTickStatus
  | 0x1C => s.readTickCycle
  | 0x20 => (s.tickCtrl, s)
  | 0x24 => (s.bushelSummary, s)
  | 0x28 => s.readLastFlipLo
  | 0x2C => (s.tick.lastFlipHi.setWidth 32, s)
  | 0x30 => (s.fathomUse, s)
  | 0x34 => (s.fathomAlign, s)
  | 0x38 => (s.cmdSec, { s with cmd.secFails := 0 })
  | 0x40 => (BitVec.ofNat 32 (fld s.host.craft.mgmtMac 31 0), s)
  | 0x44 => (s.mgmtCfg, s)
  | 0x48 => (s.host.craft.craftCfg, s)
  | 0x4C => (s.portStatus, s)
  | 0x60 => (mkHalf [(0, 0, s.ev.snapReq.toNat)], s)
  | 0x70 => (s.eccStat, { s with mem.statCe := 0, mem.statUe := 0, mem.statPoison := 0 })
  | 0x74 => (s.mem.eccInfo, s)
  | 0x78 => (s.mem.eccAddr, s)
  | 0x7C => (s.journalStat, s)
  | 0x80 => (s.resetStat, s)
  | 0x88 => (BitVec.ofNat 32 (fld s.boot.bootAddr 31 0), s)
  | 0x8C => (BitVec.ofNat 32 (fld s.boot.bootAddr 63 32), s)
  | 0x90 => (s.boot.bootLen, s)
  | 0x94 => (s.bootCtrl, s)
  | _ => (0, s)

/-- The matrix registers. -/
def State.readMatrix (s : State) (off : Nat) : Half × State :=
  let x := s.host.matrix
  match off with
  | 0x6000 => (x.ctrl, s)
  | 0x6004 => (x.lockCeil.setWidth 32, s)
  | 0x6010 => (x.errInfo, s)
  | 0x6014 => (x.errAddr, s)
  | 0x6018 => (BitVec.ofNat 32 x.errCount, { s with host.matrix.errCount := 0 })
  | _ => (0, s)

/-- The registers from 0xC000 up. -/
def State.readHigh (s : State) (off : Nat) : Half :=
  if off = 0xC000 then s.pwrStat else if off = 0xC004 then s.pwr.wakeStatus
  else if off = 0xD000 then s.timQstat else if off = 0xD004 then s.timeErr else if off = 0xD008 then s.holdTime else if off = 0xD00C then s.oscTemp
  else if off = 0xE000 then s.pairStat else if off = 0xE004 then s.pair.phase
  else if 0xF000 ≤ off ∧ off < 0xF040 then halfAt (nth 0 s.recStatus ((off - 0xF000) / 8)) off
  else if 0xF800 ≤ off then halfAt (s.boot.mbox.look 0 ((off - 0xF800) / 8)) off
  else 0

/-- A 4-octet read of a register. -/
def State.regRead (s : State) (off : Nat) : Half × State :=
  match ringAt off, chanAt off with
  | some r, _ => s.ringRead r.1 r.2
  | none, some c => (s.chanRead c.1 c.2, s)
  | none, none =>
    if off < 0x100 then s.readLow off
    else if 0x6000 ≤ off ∧ off < 0x7000 then s.readMatrix off
    else if 0x8000 ≤ off ∧ off < 0xC000 then s.evicRead off
    else if 0xC000 ≤ off then (s.readHigh off, s)
    else (0, s)

/-- MATRIX_ERR_COUNT_READ. -/
def execMatrixErrCountRead (master : BitVec 3) (s : State) : Host.Outcome State Fault Refusal :=
  .next (s.readReg master.toNat 0x6018 true fun s => s.readMatrix 0x6018)

end Sys2Proof.Machine
end

