-- ==== Sys2Proof/Machine/Registers.lean ====
section
/-!
DEFINITION. Bus writes: the BARs of a host port (R416 to R418), the control matrix (R429 to R436) and every register that a bus may write, with the
rows of the registers that have one.
-/
namespace Sys2Proof.Machine

/-! Writes of single registers -/

/-- The registers of a ring. -/
def State.ringWrite (s : State) (m n o off : Nat) (v : Half) : State :=
  if o = 0 then s.writeRingBase m n off false v else if o = 4 then s.writeRingBase m n off true v
  else if o = 8 then s.writeRingCfg m n off v else if o = 0xC then s.writeRingBind m n off v else s

/-- CH_PROG, CH_DONE and CH_CFG. -/
def chanSet (x : Chan) (o : Nat) (v : Half) : Chan :=
  if o = 0 then { x with prog := setFld x.prog 31 3 (fld v 31 3) } else if o = 4 then { x with prog := setFld x.prog 63 32 v.toNat }
  else if o = 8 then { x with done := setFld x.done 31 3 (fld v 31 3) } else if o = 0xC then { x with done := setFld x.done 63 32 v.toNat }
  else { x with cfg := mkHalf [(16, 8, if 1 ≤ fld v 16 8 ∧ fld v 16 8 ≤ 256 then fld v 16 8 else fld x.cfg 16 8), (0, 0, fld v 0 0)] }

/-- CH_CTRL: DOORBELL; ABORT of a program that runs, else START (R452, R454, R455). -/
def State.chanCtrl (s : State) (c : Nat) (v : Half) (program : Option (List Word)) : State :=
  let x := s.chan c
  let s := if flag v 2 then s.setChan c { x with doorbell := true } else s
  if x.mode ≠ .idle then (if flag v 1 then s.chanAbort c else s) else if flag v 0 then s.chanStart c program else s

/-- The registers of a channel: channels 0 to 3 are read-only to hosts, a host channel is its owner's, and only CH_CTRL is written while it runs. -/
def State.chanWrite (s : State) (m c o off : Nat) (v : Half) (program : Option (List Word)) : State :=
  let x := s.chan c
  let host := decide (m = 4 ∨ m = 5)
  if host && decide (c < 4) then s
  else if host && x.portB != decide (m = 5) then s.matrixError m 0 6 kDenied true off
  else if o = 0x14 then s.chanCtrl c v program
  else if x.mode ≠ .idle then s.lockedField m 6 off
  else s.setChan c (chanSet x o v)

/-- MATRIX_CTRL: the first write sets and locks its fields (R435). -/
def State.writeMatrixCtrl (s : State) (m : Nat) (v : Half) : State :=
  let x := s.host.matrix
  if x.ctrlLocked then s.lockedField m 6 0x6000
  else
    let keep (hi lo : Nat) : Nat := if fld v hi lo = 3 then fld x.ctrl hi lo else fld v hi lo
    { s with host.matrix.ctrl := mkHalf [(5, 4, keep 5 4), (3, 2, keep 3 2), (0, 0, fld v 0 0)], host.matrix.ctrlLocked := true }

/-- The registers at 0x0000 to 0x00FF that are written. -/
def State.writeLow (s : State) (off : Nat) (v : Half) (octets : List Byte) : State :=
  let c := s.host.craft
  match off with
  | 0x20 => s.setTickCtrl v
  | 0x40 => { s with host.craft.mgmtMac := setFld c.mgmtMac 31 0 v.toNat }
  | 0x44 => { s with host.craft.mgmtMac := setFld c.mgmtMac 47 32 (fld v 15 0), host.craft.mgmtVid := BitVec.ofNat 12 (fld v 31 20) }
  | 0x48 => { s with host.craft.craftCfg := mkHalf [(3, 0, fld v 3 0)] }
  | 0x60 => if flag v 0 then { s with ev.snapReq := true } else s
  | 0x74 => if flag v 31 then { s with mem.eccInfo := 0, mem.eccAddr := 0 } else s
  | 0x88 => { s with boot.bootAddr := if s.boot.mode = .running then 0 else setFld s.boot.bootAddr 31 3 (fld v 31 3) }
  | 0x8C => { s with boot.bootAddr := if s.boot.mode = .running then 0 else setFld s.boot.bootAddr 63 32 v.toNat }
  | 0x90 => { s with boot.bootLen := v }
  | 0x94 => if flag v 0 then s.bootGo octets else s
  | _ => s

/-- The matrix registers that are written. -/
def State.writeMatrix (s : State) (m off : Nat) (v : Half) : State :=
  match off with
  | 0x6000 => s.writeMatrixCtrl m v
  | 0x6004 => if fld v 15 0 < 64 then s else { s with host.matrix.lockCeil := BitVec.ofNat 16 (fld v 15 0) }
  | 0x6010 => if flag v 31 then { s with host.matrix.errInfo := 0, host.matrix.errAddr := 0 } else s
  | _ => s

/-- Half of a word of the mailbox. -/
def State.writeMbox (s : State) (off : Nat) (v : Half) : State :=
  let i := (off - 0xF800) / 8
  let w := s.boot.mbox.look 0 i
  { s with boot.mbox := s.boot.mbox.put 0 i (if off % 8 = 0 then setFld w 31 0 v.toNat else setFld w 63 32 v.toNat) }

/-- The lowest host privilege that may write a register; none where a write is discarded. -/
def regPriv (off : Nat) : Option Nat :=
  match ringAt off, chanAt off with
  | some r, _ => if r.2 ≤ 0xC then some OPR else none
  | none, some c => if c.2 ≤ 0x14 then some OPR else none
  | none, none =>
    if off = 0x20 ∨ off = 0x40 ∨ off = 0x44 ∨ off = 0x48 then some SUP
    else if off = 0x60 ∨ off = 0x74 ∨ off = 0x6010 then some OPR
    else if off = 0x88 ∨ off = 0x8C ∨ off = 0x90 ∨ off = 0x94 ∨ off = 0x6000 ∨ off = 0x6004 ∨ 0xF800 ≤ off then some SUP
    else if 0x100 ≤ off ∧ off < 0x200 then some TEN
    else evicPriv off

/-- A register that only its owner may write: a target's block, and an event ring's configuration among the hosts (R430, ERING_CFG). -/
def regOwned (m off : Nat) : Bool :=
  if 0x9000 ≤ off ∧ off < 0x9100 then ownTarget m ((off - 0x9000) / 0x40)
  else if 0xA000 ≤ off ∧ off < 0xA080 then !decide (m = 4 ∨ m = 5) || decide ((m = 5) = (4 ≤ (off - 0xA000) / 0x10))
  else true

/-- A permitted write of a register. -/
def State.regWrite (s : State) (m off : Nat) (v : Half) (program : Option (List Word)) (octets : List Byte) : State :=
  match ringAt off, chanAt off with
  | some r, _ => s.ringWrite m r.1 r.2 off v
  | none, some c => s.chanWrite m c.1 c.2 off v program
  | none, none =>
    if off < 0x100 then s.writeLow off v octets
    else if off < 0x200 then s.doorbell m ((off - 0x100) / 4) v
    else if 0x6000 ≤ off ∧ off < 0x7000 then s.writeMatrix m off v
    else if 0x8000 ≤ off ∧ off < 0xC000 then s.evicWrite off v
    else s.writeMbox off v

/-- The host port of a master. -/
def hostOf (m : Nat) : Option Bool := if m = 4 then some false else if m = 5 then some true else none

/-- The host privilege behind an access. -/
def State.privOf (s : State) (m : Nat) : Option Nat := (hostOf m).map s.hostPriv

/-- A dword write that reached its register: privilege, ownership, then the effect (R418, R430). -/
def State.regDword (s : State) (m off : Nat) (v : Half) (program : Option (List Word)) (octets : List Byte) : State :=
  match regPriv off with
  | none => s
  | some p =>
    if (match s.privOf m with | some h => decide (h < p) | none => false) then s.matrixError m 0 6 kDenied true off
    else if !regOwned m off then (s.matrixError m 0 6 kDenied true off).busFault m
    else s.regWrite m off v program octets

/-! The matrix -/

/-- Octets as a register value, lowest address first. -/
def leHalf (o : List Byte) : Half := BitVec.ofNat 32 (natOfOctets o.reverse)

/-- A register access has one of the sizes of R417. -/
def regSizeOk (off len : Nat) : Bool := (decide (len = 4) && decide (off % 4 = 0)) || (decide (len = 8) && decide (off % 8 = 0))

/-- Dword k of a register write: judged by the matrix, then written, or discarded with kind SIZE when only some byte enables are set. -/
def State.regPart (s : State) (w : BusWrite) (off k : Nat) (octets : List Byte) : State :=
  let m := w.master.toNat
  let u := w.unit.toNat
  let a := off + 4 * k
  let last := decide (4 * k + 4 = w.octets.length)
  let r := s.matrixJudge m u 6 a 4 true (w.lockBegin && decide (k = 0)) (w.lockEnd && last) (s.privOf m)
  match r.1 with
  | .go =>
    let en := (w.enables.drop (4 * k)).take 4
    if en.all id then r.2.regDword m a (leHalf ((w.octets.drop (4 * k)).take 4)) w.program octets
    else if en.any id then r.2.matrixError m u 6 kSize true a
    else r.2
  | .error _ => r.2.busFault m
  | _ => r.2

/-- A write to a target. -/
def State.toTarget (s : State) (w : BusWrite) (t off : Nat) (octets : List Byte) : State :=
  let m := w.master.toNat
  let u := w.unit.toNat
  let len := w.octets.length
  if t = 6 then
    if regSizeOk off len then (List.range (len / 4)).foldl (fun s k => s.regPart w off k octets) s else s.matrixError m u 6 kSize true off
  else
    let r := s.matrixJudge m u t off len true w.lockBegin w.lockEnd (s.privOf m)
    match r.1 with
    | .go =>
      let x := r.2.targetWrite m t off w.octets w.enables
      if x.1 then x.2.busFault m else x.2
    | .error _ => r.2.busFault m
    | _ => r.2

/-- The matrix target and offset of an offset in BAR0 (§13.4). -/
def barTarget (off : Nat) : Nat × Nat := if off < 0x10000 then (6, off) else if off < 0x20000 then (2, off - 0x10000) else (0, off - 0x20000)

/-- The MSI-X table (Table 13.2): a dword of it. -/
def HostPort.msixSet (p : HostPort) (off : Nat) (v : Half) : HostPort :=
  let e := off / 16
  match off % 16 / 4 with
  | 0 => { p with vecAddr := p.vecAddr.put 0 e (setFld (p.vecAddr.look 0 e) 31 0 v.toNat) }
  | 1 => { p with vecAddr := p.vecAddr.put 0 e (setFld (p.vecAddr.look 0 e) 63 32 v.toNat) }
  | 2 => { p with vecData := p.vecData.put 0 e v }
  | _ => { p with vecMasked := setFlag p.vecMasked e (flag v 0) }

/-- A dword write in BAR4; a pending vector that is unmasked is sent. -/
def State.msixPart (s : State) (portB : Bool) (w : BusWrite) (off k : Nat) : State :=
  let a := off + 4 * k
  if 0x200 ≤ a ∨ !((w.enables.drop (4 * k)).take 4).all id then s
  else
    let p := (s.hostPort portB).msixSet a (leHalf ((w.octets.drop (4 * k)).take 4))
    let e := a / 16
    if p.pba.getLsbD e && !p.vecMasked.getLsbD e then (s.setHostPort portB { p with pba := setFlag p.pba e false }).emit (.msix portB e)
    else s.setHostPort portB p

/-- A host's write to a BAR (R416, R417, R477). -/
def State.toBar (s : State) (w : BusWrite) (portB : Bool) (bar off : Nat) (octets : List Byte) : State :=
  let m := w.master.toNat
  let len := w.octets.length
  if bar = 0 then
    if s.barHole portB off then s.decodeError m 0 15 true off
    else
      let t := barTarget off
      if t.1 ≠ 6 ∧ (512 < len ∨ len = 0 ∨ barTarget (off + len - 1) ≠ (t.1, t.2 + len - 1) ∨ 0x80000 < off + len) then s.matrixError m 0 t.1 kSize true t.2
      else s.toTarget w t.1 t.2 octets
  else if bar = 2 then s.matrixError m 0 2 kDenied true off
  else if bar = 4 then (if regSizeOk off len then (List.range (len / 4)).foldl (fun s k => s.msixPart portB w off k) s else s)
  else s

/-- The target a write goes to. -/
def writeTarget (w : BusWrite) : Option Nat :=
  match w.addr with
  | .bar n off => if n.val = 0 then some (barTarget off.toNat).1 else none
  | .matrix t _ => some t.toNat

/-- Another master's lock keeps a write waiting (R432). -/
def State.lockedOut (s : State) (w : BusWrite) : Bool :=
  match writeTarget w with
  | some t => (match s.lockOf t with | some l => decide (l.master ≠ w.master.toNat) | none => false)
  | none => false

/-- A write is served. A host reaches its BARs, every other master the matrix. -/
def State.serve (s : State) (w : BusWrite) (octets : List Byte) : State :=
  let m := w.master.toNat
  let s := if m = 1 then s else { s with host.matrix.lastServed := m }
  match w.addr, hostOf m with
  | .bar n off, some portB => s.toBar w portB n.val off.toNat octets
  | .matrix t off, none => s.toTarget w t.toNat off.toNat octets
  | _, _ => s

/-- Of the waiting writes, the one served next: the protection processor's, then in turn from the master after the one served last (R431); of one
master the oldest. -/
def State.nextWaiting (s : State) : Option BusWrite :=
  let x := s.host.matrix
  let ready (m : Nat) : Option BusWrite := (x.waiting.find? fun w => decide (w.master.toNat = m)).filter fun w => !s.lockedOut w
  match ready 1 with
  | some w => some w
  | none => ((List.range 8).map fun i => (x.lastServed + 1 + i) % 8).findSome? ready

/-- Waiting writes whose target has become free are served. -/
def State.drainWaiting : Nat → State → State
  | 0, s => s
  | k + 1, s =>
    match s.nextWaiting with
    | none => s
    | some w => drainWaiting k (State.serve { s with host.matrix.waiting := s.host.matrix.waiting.erase w } w (leWords (w.program.getD [])))

def State.drained (s : State) : State := s.drainWaiting s.host.matrix.waiting.length

/-- A bus write arrives: behind an earlier one of its master that waits, or at a locked target, it waits. A stalled or frozen processor sends none. -/
def State.bus (s : State) (w : BusWrite) (octets : List Byte) : State :=
  let m := w.master.toNat
  let x := s.host.matrix
  if !s.busLive m then s
  else if s.lockedOut w || x.waiting.any fun y => decide (y.master = w.master) then { s with host.matrix.waiting := x.waiting ++ [w] }
  else
    let s := s.serve w octets
    if w.lockEnd then s.drained else s

/-! Rows -/

/-- REGISTER_WRITE. -/
def execRegisterWrite (w : BusWrite) (s : State) : Host.Outcome State Fault Refusal := .next (s.bus w (leWords (w.program.getD [])))

/-- The bus write of a 32-bit register: in BAR0 for a host, at the configuration target for every other master. -/
def regBus (off : Nat) (w : RegW) (program : Option (List Word)) : BusWrite :=
  let m := w.master.toNat
  { master := w.master, unit := 0,
    addr := if (hostOf m).isSome then .bar 0 (BitVec.ofNat 32 off) else .matrix 6 (BitVec.ofNat 32 off),
    octets := (octetsOf 4 w.value.toNat).reverse, enables := [true, true, true, w.full], lockBegin := false, lockEnd := false, program := program }

def State.regRow (s : State) (off : Nat) (w : RegW) : Host.Outcome State Fault Refusal := .next (s.bus (regBus off w none) [])

def execStepArm (w : RegW) (s : State) : Host.Outcome State Fault Refusal := s.regRow 0x20 w
def execSlewEn (w : RegW) (s : State) : Host.Outcome State Fault Refusal := s.regRow 0x20 w
def execSnapReq (w : RegW) (s : State) : Host.Outcome State Fault Refusal := s.regRow 0x60 w
def execEccErrClear (w : RegW) (s : State) : Host.Outcome State Fault Refusal := s.regRow 0x74 w
def execMatrixCtrlWrite (w : RegW) (s : State) : Host.Outcome State Fault Refusal := s.regRow 0x6000 w
def execMatrixErrClear (w : RegW) (s : State) : Host.Outcome State Fault Refusal := s.regRow 0x6010 w
def execDoorbell (ring : Fin 64) (w : RegW) (s : State) : Host.Outcome State Fault Refusal := s.regRow (0x100 + 4 * ring.val) w
def execEvicSrcWrite (src : Fin 512) (w : RegW) (s : State) : Host.Outcome State Fault Refusal := s.regRow (0x8000 + 4 * src.val) w
def execTgtEoi (t : Fin 4) (w : RegW) (s : State) : Host.Outcome State Fault Refusal := s.regRow (0x9004 + 0x40 * t.val) w
def execEvicSoft (w : RegW) (s : State) : Host.Outcome State Fault Refusal := s.regRow 0x8880 w

/-- BOOT_GO: GO of BOOT_CTRL, and the octets the ROM fetches. -/
def execBootGo (w : RegW) (octets : List Byte) (s : State) : Host.Outcome State Fault Refusal := .next (s.bus (regBus 0x94 w none) octets)

def execRingEnable (ring : Fin 64) (w : RegW) (s : State) : Host.Outcome State Fault Refusal := s.regRow (ringCfgOff ring.val) w
def execRingDisable (ring : Fin 64) (w : RegW) (s : State) : Host.Outcome State Fault Refusal := s.regRow (ringCfgOff ring.val) w

/-- CH_CTRL of a channel. -/
def chCtrlOff (c : Nat) : Nat := 0x4014 + 0x40 * c

def execChStart (ch : Fin 8) (w : RegW) (program : Option (List Word)) (s : State) : Host.Outcome State Fault Refusal :=
  .next (s.bus (regBus (chCtrlOff ch.val) w program) [])
def execChAbort (ch : Fin 8) (w : RegW) (s : State) : Host.Outcome State Fault Refusal := s.regRow (chCtrlOff ch.val) w
def execChDoorbell (ch : Fin 8) (w : RegW) (s : State) : Host.Outcome State Fault Refusal := s.regRow (chCtrlOff ch.val) w

/-- MATRIX_LOCK_BROKEN: a lock has lasted LOCK_CEIL cycles (R433). -/
def State.breakLock (s : State) (t : Nat) : State :=
  match s.lockOf t with
  | none => s
  | some l =>
    let x := s.host.matrix
    let s : State := { s with host.matrix.locks := x.locks.erase l, host.matrix.broken := x.broken ++ [⟨t, l.master, false⟩] }
    ((s.matrixCapture l.master 0 t kLockBroken false 0).raise { src := 0x0D1, code := l.master, aux := t }).drained

def execMatrixLockBroken (target : Fin 7) (s : State) : Host.Outcome State Fault Refusal := .next (s.breakLock target.val)

end Sys2Proof.Machine
end

