-- ==== Sys2Proof/Machine/Dma.lean ====
section
/-!
DEFINITION. Program DMA as its channels execute (13_host_ports_dma.md §13.6 and §13.7).
-/
namespace Sys2Proof.Machine

/-! Single words -/

/-- How one word fares: its value and whether it was poisoned, the status a fault ends the channel with, or no answer yet. -/
inductive Moved where
  | ok (w : Word) (poison : Bool)
  | fail (status : Nat)
  | held
  deriving DecidableEq, Repr

/-- What an access that the matrix did not let through comes to. -/
def Access.moved : Access → Moved
  | .error st => .fail st
  | _ => .held

/-- A word of a target that the matrix lets a channel read. What the maps hold is the compiler's own, and what the journal
holds is what JOURNAL_READ answers (log entries 13, 20). -/
def State.targetRead (s : State) (t off : Nat) : Moved × State :=
  if t = 6 then
    if 0x9000 ≤ off ∧ off < 0x9100 then (.fail dmDenied, s.matrixError 3 0 6 kDenied false off)
    else
      let lo := s.regRead off
      let hi := lo.2.regRead (off + 4)
      (.ok (mkWord [(63, 32, hi.1.toNat), (31, 0, lo.1.toNat)]) false, hi.2)
  else if t = 2 then (.ok (s.hubWord off) false, s)
  else if t = 3 then (let r := s.journalWord (off / 8); (.ok r.1 false, r.2))
  else
    let r := s.memRead (targetStore t) ((if t = 0 then (sramView off).2 else off) / 8) 3
    let v := if t = 1 then r.2.2.takeFree else (r.1, r.2.2)
    (.ok (if r.2.1 then 0 else v.1) r.2.1, v.2)

/-- A channel reads a word: of host memory what was read there, or of the device (R453). -/
def State.dmaRead (s : State) (c : Nat) (a : Word) (host : Option Word) (lockBegin lockEnd : Bool) : Moved × State :=
  if !flag a 63 then (match host with | some w => (.ok w false, s) | none => (.fail dmHostErr, s))
  else if fld a 62 36 ≠ 0 then (.fail dmBadInstr, s)
  else
    let t := fld a 35 32
    let off := fld a 31 0
    let r := s.matrixJudge 3 c t off 8 false lockBegin lockEnd none
    match r.1 with
    | .go => r.2.targetRead t off
    | x => (x.moved, if x = .wait then s else r.2)

/-- A channel writes a word. -/
def State.dmaWrite (s : State) (c : Nat) (a w : Word) (lockBegin lockEnd : Bool) : Moved × State :=
  if !flag a 63 then (.ok w false, s.emit (.hostWrite (s.chan c).portB a (leWord w)))
  else if fld a 62 36 ≠ 0 then (.fail dmBadInstr, s)
  else
    let t := fld a 35 32
    let off := fld a 31 0
    let r := s.matrixJudge 3 c t off 8 true lockBegin lockEnd none
    match r.1 with
    | .go => (.ok w false, (r.2.targetWrite 3 t off (leWord w) (List.replicate 8 true)).2)
    | x => (x.moved, if x = .wait then s else r.2)

/-! Going on to the next instruction -/

/-- The strides of a LOOP are added to the MOVEs of its body. -/
def strideBody (code : List DmaInstr) (l : DmaLoop) : List DmaInstr :=
  match code[l.at_]? with
  | none => code
  | some x => code.mapIdx fun k i =>
      if l.at_ < k ∧ k < l.stop ∧ i.opcode = 1 then { i with w1 := i.w1 + x.w1, w2 := i.w2 + x.w2 } else i

/-- Loops whose body has just ended: another iteration, or on with what follows (R454). -/
def loopEnds : Nat → Chan → Chan
  | 0, x => x
  | k + 1, x =>
    match x.loops with
    | [] => x
    | l :: rest =>
      if l.stop ≠ x.pc then x
      else
        let code := strideBody x.code l
        if l.left ≤ 1 then loopEnds k { x with code := code, loops := rest }
        else { x with code := code, loops := { l with left := l.left - 1 } :: rest, pc := l.at_ + 1 }

/-- The channel goes on at an instruction; past the last one it stops at fault. -/
def State.chanGo (s : State) (c pc : Nat) : State :=
  let x := loopEnds 5 { s.chan c with pc := pc, done_ := 0, mode := .running }
  let s := s.setChan c x
  if x.pc < x.code.length then s else s.chanEnd c dmBadInstr

/-- The instruction a channel is to execute: it runs, and neither a hang nor a freeze holds it. -/
def State.chanInstr (s : State) (c : Nat) (m : ChanMode) (opcode : Nat) : Option DmaInstr :=
  let x := s.chan c
  if x.mode = m ∧ !x.stalled ∧ !s.boot.frozen ∧ s.awake then (x.code[x.pc]?).filter fun i => decide (i.opcode = opcode) else none

/-- INDEX shows the instruction. -/
def State.atIndex (s : State) (c : Nat) : State := s.setChan c { s.chan c with index := (s.chan c).pc }

/-! MOVE -/

/-- The side of a MOVE that LOCK locks: its destination when that is in the device, else its source. -/
def DmaInstr.locksDest (i : DmaInstr) : Bool := flag i.w2 63

/-- A word is counted as moved. -/
def State.wordMoved (s : State) (c : Nat) : State :=
  let x := s.chan c
  (s.setChan c { x with done_ := x.done_ + 1, moved := x.moved + 1 }).count 0x090D c 1

/-- Words of a plain move, in ascending address order: up to k of them, `host` being those read from host memory. -/
def State.plainMove : Nat → State → Nat → DmaInstr → List Word → State
  | 0, s, c, i, _ => if (s.chan c).done_ = i.count then s.chanGo c ((s.chan c).pc + 1) else s
  | k + 1, s, c, i, host =>
    let n := (s.chan c).done_
    if n = i.count then s.chanGo c ((s.chan c).pc + 1)
    else
      let step : Word := BitVec.ofNat 64 (8 * n)
      let lb := i.lock && decide (n = 0)
      let le := i.lock && decide (n + 1 = i.count)
      let r := s.dmaRead c (i.w1 + step) host.head? (lb && !i.locksDest) (le && !i.locksDest)
      match r.1 with
      | .fail st => r.2.chanEnd c st
      | .held => r.2
      | .ok w poison =>
        let x := r.2.dmaWrite c (i.w2 + step) w (lb && i.locksDest) (le && i.locksDest)
        match x.1 with
        | .fail st => x.2.chanEnd c st
        | .held => x.2
        | .ok _ _ =>
          let s := x.2.wordMoved c
          if poison then s.chanEnd c dmPoison else plainMove k s c i host.tail

/-- All words of a reshuffle's source: the words, whether one was poisoned, or what stopped the reading. -/
def State.gather : Nat → State → Nat → Word → List Word → List Word → Bool → Option Moved × List Word × Bool × State
  | 0, s, _, _, _, acc, p => (none, acc.reverse, p, s)
  | k + 1, s, c, a, host, acc, p =>
    let r := s.dmaRead c a host.head? false false
    match r.1 with
    | .ok w q => gather k r.2 c (a + 8) host.tail (w :: acc) (p || q)
    | x => (some x, acc.reverse, p, r.2)

/-- Words written in ascending order. -/
def State.scatter : List Word → State → Nat → Word → Option Moved × State
  | [], s, _, _ => (none, s)
  | w :: l, s, c, a =>
    let r := s.dmaWrite c a w false false
    match r.1 with
    | .ok _ _ => scatter l (r.2.wordMoved c) c (a + 8)
    | x => (some x, r.2)

/-- Octets of words as memory holds them, and back, the last word padded with 0x00. -/
def wordsLe : Nat → List Byte → List Word
  | 0, _ => []
  | n + 1, l => BitVec.ofNat 64 (natOfOctets ((l ++ List.replicate 8 0).take 8).reverse) :: wordsLe n (l.drop 8)

/-- A reshuffle (R456, Table 13.11). -/
def State.reshuffle (s : State) (c : Nat) (i : DmaInstr) (host : List Word) : State :=
  let g := s.gather i.count c i.w1 host [] false
  match g.1 with
  | some (.fail st) => g.2.2.2.chanEnd c st
  | some _ => g.2.2.2
  | none =>
    let o := (leWords g.2.1).take (i.pa * i.pb)
    let out := if i.mode % 2 = 1 then toGrains i.pa i.pb o else toFrames i.pa i.pb o
    let r := State.scatter (wordsLe i.count out) g.2.2.2 c i.w2
    match r.1 with
    | some (.fail st) => r.2.chanEnd c st
    | some _ => r.2
    | none => if g.2.2.1 then r.2.chanEnd c dmPoison else r.2.chanGo c ((r.2.chan c).pc + 1)

/-- PDMA_MOVE: up to `words` further words of a plain move, or a whole reshuffle; `source` is what host memory holds there, short where a read
failed. -/
def execPdmaMove (ch : Fin 8) (words : Nat) (source : List Word) (s : State) : Host.Outcome State Fault Refusal :=
  let c := ch.val
  .next (match s.chanInstr c .running 1 with
    | none => s
    | some i =>
      let s := s.atIndex c
      if i.lock && decide (4 ≤ c) then s.chanEnd c dmDenied
      else
        let s := if i.mode = 0 then s.plainMove (Nat.min words (i.count - (s.chan c).done_)) c i source else s.reshuffle c i source
        s.drained)

/-- PDMA_LOOP: COUNT = 0 skips the body. -/
def execPdmaLoop (ch : Fin 8) (s : State) : Host.Outcome State Fault Refusal :=
  let c := ch.val
  .next (match s.chanInstr c .running 2 with
    | none => s
    | some i =>
      let s := s.atIndex c
      let x := s.chan c
      if i.count = 0 then s.chanGo c (x.pc + 1 + i.body)
      else (s.setChan c { x with loops := ⟨x.pc, x.pc + 1 + i.body, i.count⟩ :: x.loops }).chanGo c (x.pc + 1))

/-- Frames from the present FN to an operand; none when FN has reached it. -/
def State.framesTo (s : State) (operand : Nat) : Option Nat :=
  let d := fnAhead s.tick.fn (BitVec.ofNat 48 operand)
  if d = 0 ∨ 2 ^ 47 ≤ d then none else some d

/-- The condition of a WAIT holds; of a time in µs the command that ends the wait says so. -/
def State.waitMet (s : State) (c : Nat) (i : DmaInstr) (timed : Bool) : Bool :=
  match i.mode with
  | 0 => (s.framesTo (fld i.w1 47 0)).isNone
  | 1 => timed || decide (fld i.w1 31 0 = 0)
  | 2 => decide ((s.chan c).waitFor ≤ s.ev.snapSeq.toNat) && timed
  | _ => (s.chan c).doorbell

/-- A WAIT ends; COND 0x3 consumes the doorbell. -/
def State.waitDone (s : State) (c : Nat) (i : DmaInstr) : State :=
  let x := s.chan c
  let s := if i.mode = 3 then s.setChan c { x with doorbell := false } else s
  s.chanGo c (x.pc + 1)

/-- PDMA_WAIT. -/
def execPdmaWait (ch : Fin 8) (s : State) : Host.Outcome State Fault Refusal :=
  let c := ch.val
  .next (match s.chanInstr c .running 3 with
    | none => s
    | some i =>
      let s := s.atIndex c
      let q := s.ev.snapSeq.toNat
      let s := s.setChan c { s.chan c with waitFor := if q % 2 = 0 then q + 2 else q + 1 }
      if i.mode = 0 ∧ 2 ^ 23 < (s.framesTo (fld i.w1 47 0)).getD 0 then s.chanEnd c dmBadInstr
      else if s.waitMet c i false then s.waitDone c i
      else s.setChan c { s.chan c with mode := .waiting })

/-- PDMA_WAIT_END: the condition is met. -/
def execPdmaWaitEnd (ch : Fin 8) (s : State) : Host.Outcome State Fault Refusal :=
  let c := ch.val
  .next (match s.chanInstr c .waiting 3 with
    | none => s
    | some i => if s.waitMet c i true then s.waitDone c i else s)

/-- What a SIGNAL does once it has written: PDMA_SIGNAL with the channel and CODE, and the end of the program. -/
def State.signalled (s : State) (c : Nat) (i : DmaInstr) : State :=
  let s := s.raiseIf i.event { src := 0x0D5, code := c, aux := i.code }
  if i.end_ then s.chanEnd c dmOk else s.chanGo c ((s.chan c).pc + 1)

/-- PDMA_SIGNAL. -/
def execPdmaSignal (ch : Fin 8) (s : State) : Host.Outcome State Fault Refusal :=
  let c := ch.val
  .next (match s.chanInstr c .running 4 with
    | none => s
    | some i =>
      let s := s.atIndex c
      if !i.write then s.signalled c i
      else
        let r := s.dmaWrite c i.w1 i.w2 false false
        match r.1 with
        | .ok _ _ => r.2.signalled c i
        | .fail st => r.2.chanEnd c st
        | .held => r.2)

end Sys2Proof.Machine
end

