-- ==== Sys2Proof/Machine/Mirror.lean ====
section
/-!
DEFINITION. What a standby does with a mirror message (16_paired_operation.md §16.3, §16.4).
-/
namespace Sys2Proof.Machine

/-! Type 0x01: bushels (R219; log entry 16) -/

/-- The changes of a mirrored bushel. -/
def mateChanges : Nat → List Word → List Change
  | 0, _ => []
  | _, [] => []
  | n + 1, w :: l => ⟨fld w 63 56, fld w 55 48, fld w 31 0, l.take (fld w 47 40)⟩ :: mateChanges n (l.drop (fld w 47 40))

/-- The flip FN of an immediate bushel is known: it waits for that FN. -/
def State.mateFlip (s : State) (w : Word) : State :=
  let fn : BitVec 48 := BitVec.ofNat 48 (fld w 47 0)
  { s with bush.list := s.bush.list.map fun b =>
      if b.id = fld w 63 48 ∧ b.mode = .queued then { b with mode := .pending, s := fn, flipFn := fn } else b }

/-- An accepted bushel is taken over and journalled. -/
def State.mateBushel (s : State) (w0 w1 w2 : Word) (l : List Word) : State :=
  let id := fld w0 63 48
  let fn : BitVec 48 := BitVec.ofNat 48 (fld w0 47 0)
  let sched := flag w1 63
  let b := { Bushel.make id (fld w2 11 0) false (mateChanges l.length l) with
               mode := if sched then .pending else .queued, direct := flag w2 12, scheduled := sched, shed := flag w1 62, s := fn, flipFn := fn,
               l := fld w1 51 48, c := BitVec.ofNat 48 (fld w1 47 0) }
  let s := s.dropBushel id
  (State.journal { s with bush.list := s.bush.list ++ [b], bush.lastId := id } (bushelWords b)).noteFree

/-! Types 0x02 and 0x05: settings -/

/-- The command port a setting is applied in the name of: one of tenant 0, not the one it sets. -/
def State.matePort (s : State) (cls op : Nat) (l : List Word) : Fin 4 :=
  let own := if cls = 0 ∧ op = 5 then some (fld (nth 0 l 0) 1 0) else none
  (([0, 1, 2, 3] : List (Fin 4)).find? fun p => decide ((tenPorts (s.tenant 0) >>> p.val) % 2 = 1) && decide (some p.val ≠ own)).getD 0

/-- A setting is applied as the active applied it, without a reply; TIM_SYS_SET, whose effect the active has already seen, at once. -/
def State.mateSetting (s : State) (w : Word) (l : List Word) : State :=
  let cls := fld w 63 56
  let op := fld w 55 48
  if cls = 8 ∧ op = 1 then State.journal { s with cfg.tim.sys := nth 0 l 1 } 2
  else
    let p := s.matePort cls op l
    let port := s.port p.val
    let c : Cmd := { port := p, tid := 0, priv := 2, slot := false, key := none, tag := 0, seq := 0, quiet := true, barrier := false, bushel := 0,
                     plen := 8 * l.length, words := l, ret := .eth 0 none }
    let held := s.pair.token
    let r := State.handleOp ({ s with pair.token := true }.setPort p.val { port with window := s.second, zeroReplies := 0 }) cls op c []
    let sent := (r.outs.drop s.outs.length).filter fun o => match o with | .reply _ => false | .cp2Frame _ => false | _ => true
    { (r.setPort p.val port) with pair.token := held, cmd.authLog := s.cmd.authLog, outs := s.outs ++ sent }

/-! Type 0x03: protection state (R277; log entry 27) -/

def State.mateProt (s : State) (w fn : Word) : State :=
  let group := flag w 63
  let n := fld w 47 32
  let wtr := if group then (match s.cfg.b.pg n with | some r => r.wtr | none => 0) else (match s.cfg.b.lp n with | some x => lpWtr x | none => 0)
  let since := toSigned 48 (s.tick.fn - BitVec.ofNat 48 (fld fn 47 0)).toNat
  let p := { s.protection group n with
               cmd := fld w 59 56, far := fld w 55 52, k1 := BitVec.ofNat 8 (fld w 15 8), k2 := BitVec.ofNat 8 (fld w 7 0),
               wtrEnd := if flag w 62 then some ((s.now : Int) + (8000 * wtr : Nat) - since).toNat else none }
  s.setProtection group n p

/-! Type 0x04: tenants (R395, R399; log entry 46) -/

/-- A key slot takes the key that a message carries, or is emptied. -/
def State.mateKey (s : State) (t : Nat) (slot : Bool) (key : Option Key) (res : BitVec 32) : State :=
  let was := (s.tenantKeys t).key slot
  match key with
  | some k =>
    if was = some k then (if (s.tenantKeys t).res slot = res then s else s.reserve t slot k res)
    else
      let s := s.putKey t slot k
      if res = 0 then s else s.reserve t slot k res
  | none => if was.isNone then s else s.clearKey t slot

def State.mateTenant (s : State) (l : List Word) : State :=
  let w := nth 0 l 0
  let t := fld w 11 0
  let key (slot : Bool) : Option Key :=
    if flag w (16 + slot.toNat) then
      some (BitVec.ofNat 256 (natOfOctets (wordsOctets ((l.drop (4 + 4 * slot.toNat)).take 4))) ^^^ Config.mateStream (2 * t + slot.toNat))
    else none
  let rec0 : Rec2 := (nth 0 l 1, nth 0 l 2)
  let bare := s.commissioning
  let s := if s.tenant t = rec0 then s else (s.putTenant t rec0).journal 3
  let s := s.mateKey t false (key false) (BitVec.ofNat 32 (fld (nth 0 l 3) 63 32))
  let s := s.mateKey t true (key true) (BitVec.ofNat 32 (fld (nth 0 l 3) 31 0))
  (s.raiseIf (s.commissioning != bare) { src := 0x0C6, clr := bare }).judgeQuota t

/-! Types 0x07 and 0x09 -/

/-- The padding in force on the active (R309). -/
def State.matePadding (s : State) (cid k : Nat) : State := s.setSymRec cid { s.symRec cid with padding := k, wantNext := none }

/-- A jitter buffer's reference (R517). -/
def State.mateRef (s : State) (q : Nat) (seq : BitVec 16) (fn : BitVec 48) : State :=
  let x := s.queue q
  let at_ := ((s.now : Int) + toSigned 48 (fn - s.tick.fn).toNat).toNat
  let x := { x with refSeq := seq, refFn := at_, recentre := false }
  if x.mode = .idle then s.queueTo q { x with mode := .fill, idleFrames := 0 } else s.setQueue q x

/-! Type 0x0A: a full synchronisation (R520) -/

/-- What of a unit's configuration is its own: PAIR_CFG, and its oscillator's model (R371, §16.8). -/
def Cfg.mated (own new : Cfg) : Cfg :=
  { new with pair := own.pair,
             tim := { new.tim with hold := own.tim.hold, model := own.tim.model, tMin := own.tim.tMin, tMax := own.tim.tMax, age := own.tim.age } }

/-- A bushel of the image: one whose flip FN is fixed waits for it, another immediate one for its message. -/
def Bushel.mated (b : Bushel) : Bushel :=
  if b.scheduled then { b with mode := .pending }
  else if b.mode = .loading ∨ b.mode = .loaded then { b with mode := .pending, s := b.flipFn } else { b with mode := .queued }

/-- The image is whole: it becomes the base image, the blocks are rebuilt from it, and the messages that follow go on from it. -/
def State.mateImage (s : State) (i : MateImage) : State :=
  let cfg := s.cfg.mated i.snap.cfg
  let bushels := i.snap.bushels.map Bushel.mated
  let changed := (List.range 40).filter fun n => decide (s.laneCfg n ≠ cfg.line.lane.look laneCfgReset n)
  let s : State := { s with
    jr.base := ⟨cfg, bushels⟩, jr.baseWords := Config.baseWords s.jr.lastSeq, jr.log := [], jr.half := !s.jr.half, jr.superSeq := s.jr.superSeq + 1,
    jr.valid := true, jr.compacting := false, cfg := cfg, bush.list := bushels, bush.lastId := (bushels.getLast?.map (·.id)).getD s.bush.lastId,
    tick.loading := none, tick.loadLeft := 0, tick.flipPassed := false, tick.flipBushel := none, tick.copyLeft := 8,
    prot := .reset, align := .reset, pie.queues := [] }
  let s := ((s.applyConfig cfg.b).lanesStart fun n => changed.contains n).vcatStart true
  let s : State := { s with align.lowFree := s.fathomFree, prot.pairs := i.pairs, prot.groups := i.groups, pair.resyncAsked := false, pair.image := false }
  let s : State := if s.pair.stale then State.raise { s with pair.stale := false } { src := 0x141 } else s
  if s.pair.mode = .syncing then s.role .standby 8 else s

/-! The message -/

/-- Message types of Table 16.5 that are not held. -/
def mateType (t : Nat) : Bool := decide (1 ≤ t) && decide (t ≤ 0x0B)

/-- A sound message in sequence is applied. Of types 0x06, 0x08 and 0x0B the body's form is not given (log entry 64). -/
def State.mateApply (s : State) (type : Nat) (body : List Word) : State :=
  let w (i : Nat) : Word := nth 0 body i
  if type = 1 then (if body.length = 1 then s.mateFlip (w 0) else if 3 ≤ body.length then s.mateBushel (w 0) (w 1) (w 2) (body.drop 3) else s)
  else if (type = 2 ∨ type = 5) ∧ body ≠ [] then s.mateSetting (w 0) (body.drop 1)
  else if type = 3 ∧ body.length = 2 then s.mateProt (w 0) (w 1)
  else if type = 4 ∧ body.length = 12 then s.mateTenant body
  else if type = 7 ∧ body.length = 2 then s.matePadding (w 0).toNat (w 1).toNat
  else if type = 9 ∧ body.length = 2 then s.mateRef (fld (w 0) 31 16) (BitVec.ofNat 16 (fld (w 0) 15 0)) (BitVec.ofNat 48 (fld (w 1) 47 0))
  else s

/-- A message of the standby's sequence is taken: the sequence, and for what is journalled the mirror generation, follow (R519, R520). -/
def State.mateTaken (s : State) (type seq : Nat) : State :=
  { s with pair.mirrorRecv := seq, jr.mirrorGen := if mirrorKept type then seq else s.jr.mirrorGen }

/-- MIRROR_MESSAGE_RECEIVE: the words of a message, and, for a segment of an image, the image if the segment completes it (R515, R519, R520). -/
def State.mateMessage (s : State) (words : List Word) (image : Option MateImage) : State :=
  let h := nth 0 words 0
  let n := fld h 55 40
  let type := fld h 63 56
  let seq := fld h 39 0
  let sound := decide (words.length = n + 2) && decide (crc32 (words.take (n + 1)) = fld (nth 0 words (n + 1)) 31 0)
  if !s.isStandby || !s.pair.mateUp then s
  else if !sound || !mateType type then { s with pair.badMessages := s.pair.badMessages + 1 }
  else if type = 0x0A then
    match image with
    | some i => (s.mateImage i).mateTaken type seq
    | none => State.mateTaken { s with pair.image := true } type seq
  else if seq ≠ (s.pair.mirrorRecv + 1) % 2 ^ 40 then State.setStale { s with pair.resyncAsked := true }
  else (s.mateApply type ((words.drop 1).take n)).mateTaken type seq

def execMirrorMessageReceive (words : List Word) (image : Option MateImage) (s : State) : Host.Outcome State Fault Refusal :=
  .next (s.mateMessage words image)

end Sys2Proof.Machine
end

