-- ==== Sys2Proof/Machine/Dispatch.lean ====
section
/-!
DEFINITION. The meaning of each command: one arm per constructor of Instr, each a direct call.
-/
namespace Sys2Proof.Machine

def exec (i : Instr) (s : State) : Host.Outcome State Fault Refusal :=
  match i with
  | .registerWrite w => Sys2Proof.Machine.execRegisterWrite w s
  | .frameTick t => Sys2Proof.Machine.execFrameTick t s
  | .flipCheck => Sys2Proof.Machine.execFlipCheck s
  | .loadBegin => Sys2Proof.Machine.execLoadBegin s
  | .loadDone => Sys2Proof.Machine.execLoadDone s
  | .copyForwardDone => Sys2Proof.Machine.execCopyForwardDone s
  | .frameStep cause loadFn phaseError short => Sys2Proof.Machine.execFrameStep cause loadFn phaseError short s
  | .stepArm w => Sys2Proof.Machine.execStepArm w s
  | .slewEn w => Sys2Proof.Machine.execSlewEn w s
  | .stepArmLapse => Sys2Proof.Machine.execStepArmLapse s
  | .fnLoRead master => Sys2Proof.Machine.execFnLoRead master s
  | .lastFlipLoRead master => Sys2Proof.Machine.execLastFlipLoRead master s
  | .tickStatusRead master => Sys2Proof.Machine.execTickStatusRead master s
  | .laneSet c => Sys2Proof.Machine.execLaneSet c s
  | .laneGet c => Sys2Proof.Machine.execLaneGet c s
  | .laneStatus c => Sys2Proof.Machine.execLaneStatus c s
  | .laneLoop c => Sys2Proof.Machine.execLaneLoop c s
  | .lanePrbs c => Sys2Proof.Machine.execLanePrbs c s
  | .mateSet c => Sys2Proof.Machine.execMateSet c s
  | .mateStatus c => Sys2Proof.Machine.execMateStatus c s
  | .tribSet c => Sys2Proof.Machine.execTribSet c s
  | .tribGet c => Sys2Proof.Machine.execTribGet c s
  | .tribStatus c => Sys2Proof.Machine.execTribStatus c s
  | .tribLoop c => Sys2Proof.Machine.execTribLoop c s
  | .laneConfigDone lane => Sys2Proof.Machine.execLaneConfigDone lane s
  | .signalLevelChange lane millivolts => Sys2Proof.Machine.execSignalLevelChange lane millivolts s
  | .transitionDetectChange lane noTrans => Sys2Proof.Machine.execTransitionDetectChange lane noTrans s
  | .cdrLockChange lane inWindow => Sys2Proof.Machine.execCdrLockChange lane inWindow s
  | .laneActivity lane windows => Sys2Proof.Machine.execLaneActivity lane windows s
  | .ethLinkDown lane p => Sys2Proof.Machine.execEthLinkDown lane p s
  | .ethLinkUp lane p => Sys2Proof.Machine.execEthLinkUp lane p s
  | .lanePrbsLock lane lock errors => Sys2Proof.Machine.execLanePrbsLock lane lock errors s
  | .mateLaneChange lane m => Sys2Proof.Machine.execMateLaneChange lane m s
  | .tribClkLoss port => Sys2Proof.Machine.execTribClkLoss port s
  | .tribClkRestore port => Sys2Proof.Machine.execTribClkRestore port s
  | .tribTxSlip port fill => Sys2Proof.Machine.execTribTxSlip port fill s
  | .tribAlignChange port => Sys2Proof.Machine.execTribAlignChange port s
  | .alignerSlip port phase => Sys2Proof.Machine.execAlignerSlip port phase s
  | .sdhFrameReceive f => Sys2Proof.Machine.execSdhFrameReceive f s
  | .apsInconsistency lane => Sys2Proof.Machine.execApsInconsistency lane s
  | .losDeclare lane => Sys2Proof.Machine.execLosDeclare lane s
  | .losClear lane => Sys2Proof.Machine.execLosClear lane s
  | .tuMultiframeReceive t => Sys2Proof.Machine.execTuMultiframeReceive t s
  | .bipWindowEnd path lane deg => Sys2Proof.Machine.execBipWindowEnd path lane deg s
  | .sdhFrameTransmit t => Sys2Proof.Machine.execSdhFrameTransmit t s
  | .sdhOhSet c => Sys2Proof.Machine.execSdhOhSet c s
  | .sdhOhGet c => Sys2Proof.Machine.execSdhOhGet c s
  | .sdhStatus c => Sys2Proof.Machine.execSdhStatus c s
  | .sdhCapture c => Sys2Proof.Machine.execSdhCapture c s
  | .pathOhSet c => Sys2Proof.Machine.execPathOhSet c s
  | .pathStatus c => Sys2Proof.Machine.execPathStatus c s
  | .pathCapture c => Sys2Proof.Machine.execPathCapture c s
  | .traceSet c => Sys2Proof.Machine.execTraceSet c s
  | .traceGet c => Sys2Proof.Machine.execTraceGet c s
  | .sdhThreshGet c => Sys2Proof.Machine.execSdhThreshGet c s
  | .e1FrameReceive f => Sys2Proof.Machine.execE1FrameReceive f s
  | .crc4SearchTimeout eid => Sys2Proof.Machine.execCrc4SearchTimeout eid s
  | .crc4Fallback eid => Sys2Proof.Machine.execCrc4Fallback eid s
  | .e1ExclusionEnd eid => Sys2Proof.Machine.execE1ExclusionEnd eid s
  | .e1CrcBlockEnd eid => Sys2Proof.Machine.execE1CrcBlockEnd eid s
  | .e1WindowEnd eid deg => Sys2Proof.Machine.execE1WindowEnd eid deg s
  | .c37FrameReceive f => Sys2Proof.Machine.execC37FrameReceive f s
  | .gfpFrameReceive f => Sys2Proof.Machine.execGfpFrameReceive f s
  | .gfpLfd chan => Sys2Proof.Machine.execGfpLfd chan s
  | .gfpCsfTimeout chan => Sys2Proof.Machine.execGfpCsfTimeout chan s
  | .gfpFrameTransmit chan => Sys2Proof.Machine.execGfpFrameTransmit chan s
  | .vcatControlPacket p => Sys2Proof.Machine.execVcatControlPacket p s
  | .lcasRemoveTimeout group => Sys2Proof.Machine.execLcasRemoveTimeout group s
  | .lcasHoldoffExpiry group eid => Sys2Proof.Machine.execLcasHoldoffExpiry group eid s
  | .lcasWtrExpiry group eid => Sys2Proof.Machine.execLcasWtrExpiry group eid s
  | .e1Set c => Sys2Proof.Machine.execE1Set c s
  | .e1Get c => Sys2Proof.Machine.execE1Get c s
  | .e1Status c => Sys2Proof.Machine.execE1Status c s
  | .e1FramerBind c => Sys2Proof.Machine.execE1FramerBind c s
  | .c37Status c => Sys2Proof.Machine.execC37Status c s
  | .gfpSet c => Sys2Proof.Machine.execGfpSet c s
  | .gfpGet c => Sys2Proof.Machine.execGfpGet c s
  | .gfpBind c => Sys2Proof.Machine.execGfpBind c s
  | .gfpStatus c => Sys2Proof.Machine.execGfpStatus c s
  | .vcatSet c => Sys2Proof.Machine.execVcatSet c s
  | .vcatGet c => Sys2Proof.Machine.execVcatGet c s
  | .vcatMemberAdd c => Sys2Proof.Machine.execVcatMemberAdd c s
  | .vcatMemberRemove c => Sys2Proof.Machine.execVcatMemberRemove c s
  | .vcatStatus c => Sys2Proof.Machine.execVcatStatus c s
  | .testAnalyserLock inst lock errors => Sys2Proof.Machine.execTestAnalyserLock inst lock errors s
  | .connAdd c => Sys2Proof.Machine.execConnAdd c s
  | .connSet c => Sys2Proof.Machine.execConnSet c s
  | .connDel c => Sys2Proof.Machine.execConnDel c s
  | .connGet c => Sys2Proof.Machine.execConnGet c s
  | .connFind c => Sys2Proof.Machine.execConnFind c s
  | .connLatency c => Sys2Proof.Machine.execConnLatency c s
  | .structSet c => Sys2Proof.Machine.execStructSet c s
  | .structGet c => Sys2Proof.Machine.execStructGet c s
  | .tugSet c => Sys2Proof.Machine.execTugSet c s
  | .tugGet c => Sys2Proof.Machine.execTugGet c s
  | .mapRead c => Sys2Proof.Machine.execMapRead c s
  | .bushelOpen c => Sys2Proof.Machine.execBushelOpen c s
  | .bushelCommit c => Sys2Proof.Machine.execBushelCommit c s
  | .bushelCancel c => Sys2Proof.Machine.execBushelCancel c s
  | .bushelStatus c => Sys2Proof.Machine.execBushelStatus c s
  | .bushelFetch c list => Sys2Proof.Machine.execBushelFetch c list s
  | .shed c => Sys2Proof.Machine.execShed c s
  | .usageGet c => Sys2Proof.Machine.execUsageGet c s
  | .bushelList c => Sys2Proof.Machine.execBushelList c s
  | .bushelAbandoned => Sys2Proof.Machine.execBushelAbandoned s
  | .pgAdd c => Sys2Proof.Machine.execPgAdd c s
  | .pgSet c => Sys2Proof.Machine.execPgSet c s
  | .pgDel c => Sys2Proof.Machine.execPgDel c s
  | .pgGet c => Sys2Proof.Machine.execPgGet c s
  | .pgCmd c => Sys2Proof.Machine.execPgCmd c s
  | .pgStatus c => Sys2Proof.Machine.execPgStatus c s
  | .lpSet c => Sys2Proof.Machine.execLpSet c s
  | .lpDel c => Sys2Proof.Machine.execLpDel c s
  | .lpGet c => Sys2Proof.Machine.execLpGet c s
  | .lpCmd c => Sys2Proof.Machine.execLpCmd c s
  | .lpStatus c => Sys2Proof.Machine.execLpStatus c s
  | .pgScan c => Sys2Proof.Machine.execPgScan c s
  | .holdoffExpiry group n crit => Sys2Proof.Machine.execHoldoffExpiry group n crit s
  | .wtrExpiry group n => Sys2Proof.Machine.execWtrExpiry group n s
  | .apsService pair => Sys2Proof.Machine.execApsService pair s
  | .apsFop pair => Sys2Proof.Machine.execApsFop pair s
  | .protFwStall => Sys2Proof.Machine.execProtFwStall s
  | .mergedSelection x => Sys2Proof.Machine.execMergedSelection x s
  | .signatureSpan x => Sys2Proof.Machine.execSignatureSpan x s
  | .markMessageReceive m => Sys2Proof.Machine.execMarkMessageReceive m s
  | .verifyTimeout pg => Sys2Proof.Machine.execVerifyTimeout pg s
  | .alignStuck pg => Sys2Proof.Machine.execAlignStuck pg s
  | .alignSet c => Sys2Proof.Machine.execAlignSet c s
  | .alignGet c => Sys2Proof.Machine.execAlignGet c s
  | .alignStatus c => Sys2Proof.Machine.execAlignStatus c s
  | .alignRestart c => Sys2Proof.Machine.execAlignRestart c s
  | .symSet c => Sys2Proof.Machine.execSymSet c s
  | .symGet c => Sys2Proof.Machine.execSymGet c s
  | .symStatus c => Sys2Proof.Machine.execSymStatus c s
  | .markSet c => Sys2Proof.Machine.execMarkSet c s
  | .markCapture c => Sys2Proof.Machine.execMarkCapture c s
  | .vcatAlignSet c => Sys2Proof.Machine.execVcatAlignSet c s
  | .fathomMap c => Sys2Proof.Machine.execFathomMap c s
  | .ethernetFrameReceive f => Sys2Proof.Machine.execEthernetFrameReceive f s
  | .jitterBufferPlayout q => Sys2Proof.Machine.execJitterBufferPlayout q s
  | .pwWindowEnd q => Sys2Proof.Machine.execPwWindowEnd q s
  | .pwPacketSend q => Sys2Proof.Machine.execPwPacketSend q s
  | .ethernetFrameTransmit lane credit => Sys2Proof.Machine.execEthernetFrameTransmit lane credit s
  | .queueAdd c => Sys2Proof.Machine.execQueueAdd c s
  | .queueSet c => Sys2Proof.Machine.execQueueSet c s
  | .queueDel c => Sys2Proof.Machine.execQueueDel c s
  | .queueGet c => Sys2Proof.Machine.execQueueGet c s
  | .queueStatus c => Sys2Proof.Machine.execQueueStatus c s
  | .hdrSet c => Sys2Proof.Machine.execHdrSet c s
  | .hdrGet c => Sys2Proof.Machine.execHdrGet c s
  | .psnSet c => Sys2Proof.Machine.execPsnSet c s
  | .psnGet c => Sys2Proof.Machine.execPsnGet c s
  | .fwdSet c => Sys2Proof.Machine.execFwdSet c s
  | .fwdGet c => Sys2Proof.Machine.execFwdGet c s
  | .pieStatus c => Sys2Proof.Machine.execPieStatus c s
  | .candidateFault cand noEdge => Sys2Proof.Machine.execCandidateFault cand noEdge s
  | .frequencyGate cand offset => Sys2Proof.Machine.execFrequencyGate cand offset s
  | .qualificationExpiry cand => Sys2Proof.Machine.execQualificationExpiry cand s
  | .hitExpiry cand => Sys2Proof.Machine.execHitExpiry cand s
  | .selectorEvaluation steer temp => Sys2Proof.Machine.execSelectorEvaluation steer temp s
  | .dpllLock => Sys2Proof.Machine.execDpllLock s
  | .holdoverQlTimer => Sys2Proof.Machine.execHoldoverQlTimer s
  | .modelRecord => Sys2Proof.Machine.execModelRecord s
  | .modelFit => Sys2Proof.Machine.execModelFit s
  | .oscAgeJournal => Sys2Proof.Machine.execOscAgeJournal s
  | .ppsPulse p => Sys2Proof.Machine.execPpsPulse p s
  | .todMessage t => Sys2Proof.Machine.execTodMessage t s
  | .ptpMessageSend port kind cycle => Sys2Proof.Machine.execPtpMessageSend port kind cycle s
  | .announceTimeout port => Sys2Proof.Machine.execAnnounceTimeout port s
  | .ptpServoLock => Sys2Proof.Machine.execPtpServoLock s
  | .ptpOffsetTimeout => Sys2Proof.Machine.execPtpOffsetTimeout s
  | .timSysSet c => Sys2Proof.Machine.execTimSysSet c s
  | .timSysGet c => Sys2Proof.Machine.execTimSysGet c s
  | .timInSet c => Sys2Proof.Machine.execTimInSet c s
  | .timInGet c => Sys2Proof.Machine.execTimInGet c s
  | .timInStatus c => Sys2Proof.Machine.execTimInStatus c s
  | .timStatus c => Sys2Proof.Machine.execTimStatus c s
  | .timHoldover c => Sys2Proof.Machine.execTimHoldover c s
  | .timModelSet c => Sys2Proof.Machine.execTimModelSet c s
  | .timModelGet c => Sys2Proof.Machine.execTimModelGet c s
  | .timModelLearn c => Sys2Proof.Machine.execTimModelLearn c s
  | .timOutSet c => Sys2Proof.Machine.execTimOutSet c s
  | .timOutGet c => Sys2Proof.Machine.execTimOutGet c s
  | .timMonSet c => Sys2Proof.Machine.execTimMonSet c s
  | .todSet c => Sys2Proof.Machine.execTodSet c s
  | .ptpSet c => Sys2Proof.Machine.execPtpSet c s
  | .ptpPortSet c => Sys2Proof.Machine.execPtpPortSet c s
  | .ptpStatus c => Sys2Proof.Machine.execPtpStatus c s
  | .timThermSet c => Sys2Proof.Machine.execTimThermSet c s
  | .devInfo c => Sys2Proof.Machine.execDevInfo c s
  | .seqSync c => Sys2Proof.Machine.execSeqSync c s
  | .echo c => Sys2Proof.Machine.execEcho c s
  | .fnGet c => Sys2Proof.Machine.execFnGet c s
  | .cmdPortSet c => Sys2Proof.Machine.execCmdPortSet c s
  | .cmdPortStatus c => Sys2Proof.Machine.execCmdPortStatus c s
  | .tenantSet c => Sys2Proof.Machine.execTenantSet c s
  | .tenantGet c => Sys2Proof.Machine.execTenantGet c s
  | .tenantDel c => Sys2Proof.Machine.execTenantDel c s
  | .tenantList c => Sys2Proof.Machine.execTenantList c s
  | .keyLoad c => Sys2Proof.Machine.execKeyLoad c s
  | .keyRetire c => Sys2Proof.Machine.execKeyRetire c s
  | .authLogGet c => Sys2Proof.Machine.execAuthLogGet c s
  | .portQuietEnd port => Sys2Proof.Machine.execPortQuietEnd port s
  | .barrierRelease port fetched => Sys2Proof.Machine.execBarrierRelease port fetched s
  | .deferredReply port seq => Sys2Proof.Machine.execDeferredReply port seq s
  | .hostPortReset portB flr => Sys2Proof.Machine.execHostPortReset portB flr s
  | .mgmtFrameReceive f => Sys2Proof.Machine.execMgmtFrameReceive f s
  | .craftWrite n data fetched => Sys2Proof.Machine.execCraftWrite n data fetched s
  | .craftStatus => Sys2Proof.Machine.execCraftStatus s
  | .craftRead clocked => Sys2Proof.Machine.execCraftRead clocked s
  | .opticalFrameReceive chars gap fetched => Sys2Proof.Machine.execOpticalFrameReceive chars gap fetched s
  | .opticalLineFault noise => Sys2Proof.Machine.execOpticalLineFault noise s
  | .opticalQuietEnd => Sys2Proof.Machine.execOpticalQuietEnd s
  | .opticalReplySend => Sys2Proof.Machine.execOpticalReplySend s
  | .matrixLockBroken target => Sys2Proof.Machine.execMatrixLockBroken target s
  | .matrixCtrlWrite w => Sys2Proof.Machine.execMatrixCtrlWrite w s
  | .matrixErrClear w => Sys2Proof.Machine.execMatrixErrClear w s
  | .matrixErrCountRead master => Sys2Proof.Machine.execMatrixErrCountRead master s
  | .doorbell ring w => Sys2Proof.Machine.execDoorbell ring w s
  | .ringPoll ring => Sys2Proof.Machine.execRingPoll ring s
  | .ringDescriptor ring d replyFree fetched => Sys2Proof.Machine.execRingDescriptor ring d replyFree fetched s
  | .ringEnable ring w => Sys2Proof.Machine.execRingEnable ring w s
  | .ringDisable ring w => Sys2Proof.Machine.execRingDisable ring w s
  | .ringIdle ring => Sys2Proof.Machine.execRingIdle ring s
  | .hostReceiveFrame ring ds => Sys2Proof.Machine.execHostReceiveFrame ring ds s
  | .grainCaptureBlock ring d fn grains qb => Sys2Proof.Machine.execGrainCaptureBlock ring d fn grains qb s
  | .grainPlaybackBlock ring d fn => Sys2Proof.Machine.execGrainPlaybackBlock ring d fn s
  | .ringDropsRead ring master => Sys2Proof.Machine.execRingDropsRead ring master s
  | .chStart ch w program => Sys2Proof.Machine.execChStart ch w program s
  | .chAbort ch w => Sys2Proof.Machine.execChAbort ch w s
  | .chDoorbell ch w => Sys2Proof.Machine.execChDoorbell ch w s
  | .pdmaMove ch words source => Sys2Proof.Machine.execPdmaMove ch words source s
  | .pdmaLoop ch => Sys2Proof.Machine.execPdmaLoop ch s
  | .pdmaWait ch => Sys2Proof.Machine.execPdmaWait ch s
  | .pdmaWaitEnd ch => Sys2Proof.Machine.execPdmaWaitEnd ch s
  | .pdmaSignal ch => Sys2Proof.Machine.execPdmaSignal ch s
  | .eventStagingDrain => Sys2Proof.Machine.execEventStagingDrain s
  | .eventRingFlush ering => Sys2Proof.Machine.execEventRingFlush ering s
  | .eringStatRead ering master => Sys2Proof.Machine.execEringStatRead ering master s
  | .evicSrcWrite src w => Sys2Proof.Machine.execEvicSrcWrite src w s
  | .tgtClaim t master => Sys2Proof.Machine.execTgtClaim t master s
  | .tgtEoi t w => Sys2Proof.Machine.execTgtEoi t w s
  | .evicSoft w => Sys2Proof.Machine.execEvicSoft w s
  | .moderationExpiry t => Sys2Proof.Machine.execModerationExpiry t s
  | .extEvent pin level => Sys2Proof.Machine.execExtEvent pin level s
  | .frzNEdge level => Sys2Proof.Machine.execFrzNEdge level s
  | .snapReq w => Sys2Proof.Machine.execSnapReq w s
  | .snapshotDone => Sys2Proof.Machine.execSnapshotDone s
  | .counterHubRead portB user offset octets => Sys2Proof.Machine.execCounterHubRead portB user offset octets s
  | .counterCheckpoint => Sys2Proof.Machine.execCounterCheckpoint s
  | .traceTimeout index => Sys2Proof.Machine.execTraceTimeout index s
  | .counterSet c => Sys2Proof.Machine.execCounterSet c s
  | .counterGet c => Sys2Proof.Machine.execCounterGet c s
  | .counterRead c => Sys2Proof.Machine.execCounterRead c s
  | .counterClear c => Sys2Proof.Machine.execCounterClear c s
  | .snapshot c => Sys2Proof.Machine.execSnapshot c s
  | .counterDump c => Sys2Proof.Machine.execCounterDump c s
  | .filterSet c => Sys2Proof.Machine.execFilterSet c s
  | .filterGet c => Sys2Proof.Machine.execFilterGet c s
  | .userSlotSet c => Sys2Proof.Machine.execUserSlotSet c s
  | .wordTraceSet c => Sys2Proof.Machine.execWordTraceSet c s
  | .traceRead c => Sys2Proof.Machine.execTraceRead c s
  | .traceClear c => Sys2Proof.Machine.execTraceClear c s
  | .eventRead c => Sys2Proof.Machine.execEventRead c s
  | .eventLogStatus c => Sys2Proof.Machine.execEventLogStatus c s
  | .evicRegRead c => Sys2Proof.Machine.execEvicRegRead c s
  | .evicRegWrite c => Sys2Proof.Machine.execEvicRegWrite c s
  | .mapRepair addr bothBad => Sys2Proof.Machine.execMapRepair addr bothBad s
  | .refreshBandCheck temp => Sys2Proof.Machine.execRefreshBandCheck temp s
  | .journalVerify found => Sys2Proof.Machine.execJournalVerify found s
  | .journalCompactionStart => Sys2Proof.Machine.execJournalCompactionStart s
  | .journalCompacted => Sys2Proof.Machine.execJournalCompacted s
  | .pfwCheckpoint => Sys2Proof.Machine.execPfwCheckpoint s
  | .pfwReturn => Sys2Proof.Machine.execPfwReturn s
  | .eccErrClear w => Sys2Proof.Machine.execEccErrClear w s
  | .memEccStatRead master => Sys2Proof.Machine.execMemEccStatRead master s
  | .memStatus c => Sys2Proof.Machine.execMemStatus c s
  | .memErrLog c => Sys2Proof.Machine.execMemErrLog c s
  | .journalStatus c => Sys2Proof.Machine.execJournalStatus c s
  | .journalCompact c => Sys2Proof.Machine.execJournalCompact c s
  | .journalRead c => Sys2Proof.Machine.execJournalRead c s
  | .ckptNow c => Sys2Proof.Machine.execCkptNow c s
  | .memInject c => Sys2Proof.Machine.execMemInject c s
  | .tokenClaim => Sys2Proof.Machine.execTokenClaim s
  | .claimReadback high => Sys2Proof.Machine.execClaimReadback high s
  | .tokenRelease => Sys2Proof.Machine.execTokenRelease s
  | .statusBlockReceive words => Sys2Proof.Machine.execStatusBlockReceive words s
  | .mirrorMessageReceive words image => Sys2Proof.Machine.execMirrorMessageReceive words image s
  | .mirrorTimeout => Sys2Proof.Machine.execMirrorTimeout s
  | .pairStep err frames => Sys2Proof.Machine.execPairStep err frames s
  | .handbackWtrExpiry => Sys2Proof.Machine.execHandbackWtrExpiry s
  | .handoverTick => Sys2Proof.Machine.execHandoverTick s
  | .bootWaitExpiry => Sys2Proof.Machine.execBootWaitExpiry s
  | .pairSet c => Sys2Proof.Machine.execPairSet c s
  | .pairGet c => Sys2Proof.Machine.execPairGet c s
  | .pairStatus c => Sys2Proof.Machine.execPairStatus c s
  | .pairSwitch c => Sys2Proof.Machine.execPairSwitch c s
  | .pairHold c => Sys2Proof.Machine.execPairHold c s
  | .pairResync c => Sys2Proof.Machine.execPairResync c s
  | .pairForce c => Sys2Proof.Machine.execPairForce c s
  | .pwrState c => Sys2Proof.Machine.execPwrState c s
  | .gillEntryComplete => Sys2Proof.Machine.execGillEntryComplete s
  | .gillEntryTimeout => Sys2Proof.Machine.execGillEntryTimeout s
  | .wakeSource src obj active => Sys2Proof.Machine.execWakeSource src obj active s
  | .wakeStepReady time ticks => Sys2Proof.Machine.execWakeStepReady time ticks s
  | .wakeStepTimeout code time => Sys2Proof.Machine.execWakeStepTimeout code time s
  | .wakeRetry => Sys2Proof.Machine.execWakeRetry s
  | .gillTimebaseSwitch ticks => Sys2Proof.Machine.execGillTimebaseSwitch ticks s
  | .timebaseCalibration xtal rc => Sys2Proof.Machine.execTimebaseCalibration xtal rc s
  | .avsRequestDone mv => Sys2Proof.Machine.execAvsRequestDone mv s
  | .avsTimeout => Sys2Proof.Machine.execAvsTimeout s
  | .avsAdjust up => Sys2Proof.Machine.execAvsAdjust up s
  | .voscLatchOff => Sys2Proof.Machine.execVoscLatchOff s
  | .voscRetry => Sys2Proof.Machine.execVoscRetry s
  | .oscinLoss => Sys2Proof.Machine.execOscinLoss s
  | .oscinReturn inFrame => Sys2Proof.Machine.execOscinReturn inFrame s
  | .pwrSet c => Sys2Proof.Machine.execPwrSet c s
  | .pwrGet c => Sys2Proof.Machine.execPwrGet c s
  | .wakeSet c => Sys2Proof.Machine.execWakeSet c s
  | .wakeGet c => Sys2Proof.Machine.execWakeGet c s
  | .pwrStatus c => Sys2Proof.Machine.execPwrStatus c s
  | .wakeLog c => Sys2Proof.Machine.execWakeLog c s
  | .sleepGapGet c => Sys2Proof.Machine.execSleepGapGet c s
  | .voscCtrl c => Sys2Proof.Machine.execVoscCtrl c s
  | .firkinCheck c => Sys2Proof.Machine.execFirkinCheck c s
  | .wakeSend c => Sys2Proof.Machine.execWakeSend c s
  | .powerOnReset straps flash tampers claimHigh => Sys2Proof.Machine.execPowerOnReset straps flash tampers claimHigh s
  | .brownOutReset => Sys2Proof.Machine.execBrownOutReset s
  | .watchdogExpiry => Sys2Proof.Machine.execWatchdogExpiry s
  | .bootComplete ms r => Sys2Proof.Machine.execBootComplete ms r s
  | .bootFail hardware => Sys2Proof.Machine.execBootFail hardware s
  | .bootGo w octets => Sys2Proof.Machine.execBootGo w octets s
  | .bootGoTimeout => Sys2Proof.Machine.execBootGoTimeout s
  | .svnAdvance => Sys2Proof.Machine.execSvnAdvance s
  | .recStatus arg crcOk => Sys2Proof.Machine.execRecStatus arg crcOk s
  | .arm arg crcOk => Sys2Proof.Machine.execArm arg crcOk s
  | .freeze arg crcOk since => Sys2Proof.Machine.execFreeze arg crcOk since s
  | .journalTail arg crcOk => Sys2Proof.Machine.execJournalTail arg crcOk s
  | .forceStandby arg crcOk since => Sys2Proof.Machine.execForceStandby arg crcOk since s
  | .hardReset arg crcOk since straps => Sys2Proof.Machine.execHardReset arg crcOk since straps s
  | .gillRead arg crcOk => Sys2Proof.Machine.execGillRead arg crcOk s
  | .mboxRead arg crcOk => Sys2Proof.Machine.execMboxRead arg crcOk s
  | .mboxWrite arg data crcOk since => Sys2Proof.Machine.execMboxWrite arg data crcOk since s
  | .tamper input active => Sys2Proof.Machine.execTamper input active s
  | .sysReset c => Sys2Proof.Machine.execSysReset c s
  | .resetLog c => Sys2Proof.Machine.execResetLog c s
  | .wdtSet c => Sys2Proof.Machine.execWdtSet c s
  | .tamperSet c => Sys2Proof.Machine.execTamperSet c s
  | .tamperGet c => Sys2Proof.Machine.execTamperGet c s
  | .tamperClear c => Sys2Proof.Machine.execTamperClear c s
  | .tamperLog c => Sys2Proof.Machine.execTamperLog c s
  | .returnCapture c => Sys2Proof.Machine.execReturnCapture c s
  | .captureStatus c => Sys2Proof.Machine.execCaptureStatus c s
  | .recSet c => Sys2Proof.Machine.execRecSet c s
  | .fwStage c image => Sys2Proof.Machine.execFwStage c image s
  | .cmdSecRead master => Sys2Proof.Machine.execCmdSecRead master s
  | .hostPortLinkUp portB msix => Sys2Proof.Machine.execHostPortLinkUp portB msix s
  | .cp2LinkChange up => Sys2Proof.Machine.execCp2LinkChange up s
  | .e1FrameTransmit eid grains => Sys2Proof.Machine.execE1FrameTransmit eid grains s
  | .watchdogKick proc => Sys2Proof.Machine.execWatchdogKick proc s
  | .shortRunCountClear => Sys2Proof.Machine.execShortRunCountClear s
  | .actClaimChange high => Sys2Proof.Machine.execActClaimChange high s
  | .avsNack again => Sys2Proof.Machine.execAvsNack again s
  | .vcoreOutOfRange mv => Sys2Proof.Machine.execVcoreOutOfRange mv s
  | .vddNvLoss => Sys2Proof.Machine.execVddNvLoss s

end Sys2Proof.Machine
end

