-- ==== Sys2Proof/Safety.lean ====
section
/-!
DEFINITION. What counts as a sound state and a safe step, in the terms claims use.
-/
namespace Sys2Proof.Machine

/-- A memory in its canonical form: addresses strictly rising, no entry equal to what an unlisted address reads as, 0 (log entry 5). -/
def Memory.wf (t : List Host.Cell) : Bool := Tab.wf (0 : BitVec 8) t

/-- Every octet of the stores is held in the canonical form. -/
def State.memWf (s : State) : Bool := Memory.wf s.mem.octets

/-- A step that goes on: no fault and no refusal. -/
def Goes (o : Host.Outcome State Fault Refusal) : Prop := ∃ t, o = .next t

/-- A state is safe when the command at the front of its queue cannot stop the block. -/
def Safe (s : State) : Prop := Goes (step s)

/-- A packet passes the claim, the privilege and the form of its opcode: no check of steps 6 to 9, no reserved bit, no value fault `bad` of its
words, and nothing of paired operation stands against it (R401, R4, R520, R522). -/
abbrev Accepts (s : State) (c : Cmd) (o : OpSpec) (bad : List (Bool × Nat)) : Prop :=
  c.wf = true ∧ s.claimFail c = none ∧ c.formFail o = none ∧ c.faultFrom o.masks bad 0 = none ∧ s.pairFail o = none

/-- Every command that waits is well formed: what a verified packet can be (R376). -/
def State.queueWf (s : State) : Bool := s.pending.all Instr.wf

end Sys2Proof.Machine
end

