-- ==== Sys2Proof/Certificates/Slice0/Obligations.lean ====
section
/-!
DEFINITION. The statements for the provers. Opcodes are stated class by class as rows of a table: what an opcode does when nothing refuses it.
-/
namespace Sys2Proof.Claims

open Sys2Proof Sys2Proof.Machine

/-- A row of an opcode that takes effect before its reply: the command, its place and form, the value faults of its words, the ownership check of
its class, the states in which nothing of step 10 refuses it, and what it does: the state and the reply's data. -/
structure OpRow where
  instr : Cmd → Instr
  spec : State → Cmd → OpSpec
  bad : State → Cmd → List (Bool × Nat) := fun _ _ => []
  own : State → Cmd → Option (Nat × Nat) := fun _ _ => none
  can : State → Cmd → Bool := fun _ _ => true
  status : Nat := stOk
  eff : State → Cmd → State × List Word

/-- The opcode runs: its packet is accepted, and nothing refuses it. -/
def OpRow.met (r : OpRow) (s : State) (c : Cmd) : Bool :=
  decide (Accepts s c (r.spec s c) (r.bad s c)) && (r.own s c).isNone && r.can s c &&
    (decide ((r.spec s c).jrn = 0) || decide (r.status = stPending) || !s.journalFull (r.spec s c).jrn)

/-- The opcode completes: its effect, then the journal record, the mirror message and the reply that its form asks for, and nothing else. -/
def OpRow.completes (r : OpRow) : Prop :=
  ∀ s c, r.met s c = true → exec (r.instr c) s = .next ((r.eff s c).1.finish c (r.spec s c) r.status (r.eff s c).2)

/-- An opcode that changes nothing: it answers with data. -/
def reads (i : Cmd → Instr) (cls op priv : Nat) (masks : List Word) (bad : Cmd → List (Bool × Nat)) (data : State → Cmd → List Word) : OpRow :=
  { instr := i, spec := fun _ _ => plainOp cls op priv masks, bad := fun _ c => bad c, eff := fun s c => (s, data s c) }

/-- An opcode that answers with nothing. -/
def acts (i : Cmd → Instr) (spec : OpSpec) (bad : Cmd → List (Bool × Nat)) (can : State → Cmd → Bool) (eff : State → Cmd → State) : OpRow :=
  { instr := i, spec := fun _ _ => spec, bad := fun _ c => bad c, can := can, eff := fun s c => (eff s c, []) }

/-- A row of an opcode whose reply follows later (R405): what it does at once, and what its reply waits for. -/
structure LaterRow where
  instr : Cmd → Instr
  spec : OpSpec
  bad : Cmd → List (Bool × Nat) := fun _ => []
  own : State → Cmd → Option (Nat × Nat) := fun _ _ => none
  can : State → Cmd → Bool := fun _ _ => true
  eff : State → Cmd → State
  waits : State → Cmd → Waits

def LaterRow.met (r : LaterRow) (s : State) (c : Cmd) : Bool :=
  decide (Accepts s c r.spec (r.bad c)) && (r.own s c).isNone && r.can s c && !s.slotsFull c.port

/-- The opcode takes a deferred slot. -/
def LaterRow.completes (r : LaterRow) : Prop :=
  ∀ s c, r.met s c = true →
    exec (r.instr c) s = .next { r.eff s c with
      cmd.deferred := (r.eff s c).cmd.deferred ++ [⟨c, r.spec.cls, r.spec.op, r.waits s c, none⟩] }

def noBad : Cmd → List (Bool × Nat) := fun _ => []
def always : State → Cmd → Bool := fun _ _ => true

/-! Class 0x00 (Table 12.10) -/

def rows0 : List OpRow :=
  [reads .devInfo 0x00 0x01 TEN [] (fun _ => []) fun s _ =>
     [mkWord [(63, 32, s.devConfig.toNat), (31, 0, devId.toNat)], mkWord [(63, 16, s.boot.version.toNat), (3, 0, mapFormat)],
      mkWord [(0, 0, s.commissioning.toNat)]],
   reads .seqSync 0x00 0x02 TEN [] (fun _ => []) fun s c =>
     if c.key.isNone then [0, 0]
     else [mkWord [(63, 32, s.streamH c.t c.slot c.port.val), (31, 0, ((s.tenantKeys c.t).res c.slot).toNat)], mkWord [(0, 0, c.slot.toNat)]],
   { instr := .echo, spec := fun _ _ => { plainOp 0x00 0x03 TEN [] with anyWords := true }, bad := fun _ c => [(decide (c.word 0 ≠ 0), 0)],
     eff := fun s c => (s, (c.words.take (ceilDiv c.plen 8)).drop 1) },
   { instr := .fnGet, spec := fun _ _ => plainOp 0x00 0x04 TEN [],
     eff := fun s _ => (s.sampleCycle.2,
       [mkWord [(50, 48, s.tick.fnSrc.toNat), (47, 0, s.tick.fn.toNat)], mkWord [(16, 0, s.sampleCycle.1.toNat)]]) },
   acts .cmdPortSet (setting 0x00 0x05 SUP [maskOf [(1, 0)], maskOf [(27, 8), (1, 0)]])
     (fun c => [(decide (fld (c.word 1) 15 8 = 0 ∨ fld (c.word 1) 27 16 = 0 ∨ 3600 < fld (c.word 1) 27 16) ||
        (!flag (c.word 1) 0 && decide (fld (c.word 0) 1 0 = 0)), 1)])
     (fun _ c => flag (c.word 1) 0 || decide (fld (c.word 0) 1 0 ≠ c.port.val))
     (fun s c =>
        let n := fld (c.word 0) 1 0
        let g : PortCfg := ⟨flag (c.word 1) 0, BitVec.ofNat 8 (fld (c.word 1) 15 8), BitVec.ofNat 12 (fld (c.word 1) 27 16)⟩
        let t : State := { s with cfg.cmd.ports := s.cfg.cmd.ports.put PortCfg.reset n g }
        if flag (c.word 1) 1 && decide (n ≠ c.port.val) then t.endQuiet n else t),
   reads .cmdPortStatus 0x00 0x06 OPR [maskOf [(1, 0)]] (fun _ => []) fun s c =>
     let n := fld (c.word 0) 1 0
     let p := s.port n
     let g := s.portCfg n
     [mkWord [(63, 32, p.nSilent), (31, 0, p.nAccepted)], mkWord [(63, 32, p.nAuthFail), (31, 0, p.nBadLength)],
      mkWord [(63, 32, p.nDuplicate), (31, 0, p.nReplay)],
      mkWord [(51, 40, g.quietS.toNat), (39, 32, g.authLimit.toNat), (27, 16, s.secondsLeft (p.quietEnd.getD 0)), (9, 9, p.quietEnd.isSome.toNat),
        (8, 8, g.en.toNat), (5, 0, (s.cmd.deferred.filter fun d => decide (d.cmd.port.val = n)).length)]]]

/-! Class 0x01 (§3.8) -/

def laneBad (c : Cmd) : List (Bool × Nat) := [(decide (39 < c.idx), 0)]
def tribBadIdx (c : Cmd) : List (Bool × Nat) := [(decide (63 < c.idx), 0)]

def rows1 : List OpRow :=
  [acts .laneSet (setting 0x01 0x01 OPR [idxMask, laneCfgMask]) (fun c => [(decide (39 < c.idx), 0), (laneCfgBad (c.word 1), 1)])
     (fun s c =>
        let old := s.laneCfg c.idx
        let w := c.word 1
        !(s.lane c.idx).config &&
        !((decide (rateOf old ≠ rateOf w) || sonetOf old != sonetOf w) &&
            (s.either (fun b => laneInRecord b c.idx || (b.pairOf c.idx).isSome) || s.laneBound c.idx)) &&
        !(decide (rateOf old ≠ rateOf w) && s.either fun b => b.queues.any fun x => decide (x.2.lane = c.idx)))
     (fun s c => s.setLaneCfg c.idx (c.word 1)),
   reads .laneGet 0x01 0x02 OPR [idxMask] laneBad fun s c => [s.laneCfg c.idx],
   { instr := .laneStatus, spec := fun _ _ => plainOp 0x01 0x03 OPR [idxMask], bad := fun _ c => laneBad c,
     eff := fun s c =>
       let n := c.idx
       let l := s.lane n
       let w := s.laneCfg n
       let off := decide (rateOf w = 0)
       let fixed := decide (fld w 39 38 ≠ 0) || l.frozen
       let eq := if fld w 39 38 ≠ 0 then fld w 43 40 else if l.frozen then l.ctle.toNat else s.takeFree.1.toNat % 16
       (if fixed then s else s.takeFree.2,
        [mkWord [(15, 12, eq), (8, 8, l.config.toNat), (7, 7, l.chkLock.toNat), (6, 6, (decide (l.gen ≠ 0)).toNat), (5, 4, l.loop.toNat),
          (3, 3, l.linkUp.toNat), (2, 2, (if off then s.laneWakes n && l.active else l.active).toNat), (1, 1, (!off && l.cdrLocked).toNat),
          (0, 0, (s.rawNoSignal n).toNat)]]) },
   { instr := .laneLoop, spec := fun _ _ => plainOp 0x01 0x04 OPR [idxMask, maskOf [(8, 8), (1, 0)]],
     bad := fun _ c => [(decide (39 < c.idx), 0), (decide (fld (c.word 1) 1 0 = 3), 1)], own := fun _ c => forceFail c,
     can := fun s c => !(decide (fld (c.word 1) 1 0 = 2) &&
       ((s.laneCarrying c.idx && !flag (c.word 1) 8) || decide ((s.lane c.idx).gen ≠ 0))),
     eff := fun s c => ((s.setLane c.idx { s.lane c.idx with loop := BitVec.ofNat 2 (fld (c.word 1) 1 0) }).raiseIf
       (decide (fld (c.word 1) 1 0 = 2) && s.laneCarrying c.idx) { src := 0x038, obj := c.idx }, []) },
   { instr := .lanePrbs, spec := fun _ _ => plainOp 0x01 0x05 OPR [idxMask, maskOf [(8, 8), (6, 4), (2, 0)]],
     bad := fun _ c => [(decide (39 < c.idx), 0), (decide (4 < fld (c.word 1) 2 0 ∨ 4 < fld (c.word 1) 6 4), 1)], own := fun _ c => forceFail c,
     can := fun s c => !(decide (fld (c.word 1) 2 0 ≠ 0) &&
       ((s.laneCarrying c.idx && !flag (c.word 1) 8) || decide ((s.lane c.idx).loop = 2))),
     eff := fun s c =>
       let l := s.lane c.idx
       ((s.setLane c.idx { l with gen := BitVec.ofNat 3 (fld (c.word 1) 2 0), chk := BitVec.ofNat 3 (fld (c.word 1) 6 4),
                                  chkLock := l.chkLock && decide (l.chk.toNat = fld (c.word 1) 6 4) }).raiseIf
         (decide (fld (c.word 1) 2 0 ≠ 0) && s.laneCarrying c.idx) { src := 0x038, obj := c.idx }, []) },
   acts .mateSet (setting 0x01 0x06 SUP [idxMask, laneCfgMask])
     (fun c => [(decide (3 < c.idx), 0), (decide (rateOf (c.word 1) ≠ 0) || flag (c.word 1) 16 || flag (c.word 1) 26 || flag (c.word 1) 27 ||
        flag (c.word 1) 28 || decide (fld (c.word 1) 39 38 = 3), 1)])
     (fun _ _ => true)
     (fun s c => { s with cfg.line.mate := s.cfg.line.mate.put laneCfgReset c.idx (c.word 1) }),
   { instr := .mateStatus, spec := fun _ _ => plainOp 0x01 0x07 OPR [idxMask], bad := fun _ c => [(decide (3 < c.idx), 0)],
     eff := fun s c =>
       let m := s.mate c.idx
       let w := s.mateCfg c.idx
       let f := s.takeFree
       (f.2, [mkWord [(15, 12, if fld w 39 38 ≠ 0 then fld w 43 40 else f.1.toNat % 16), (11, 11, m.identified.toNat),
         (10, 9, if m.identified then m.partner.toNat else 0), (7, 7, m.chkLock.toNat), (6, 6, (decide (m.gen ≠ 0)).toNat), (5, 4, m.loop.toNat),
         (3, 3, s.mateLinkUp.toNat), (2, 2, f.1.toNat / 16), (1, 1, m.locked.toNat), (0, 0, if m.locked then 0 else f.1.toNat / 32)]]) },
   acts .tribSet (setting 0x01 0x08 OPR [idxMask, tribMask])
     (fun c => [(decide (63 < c.idx), 0), (tribBad (BitVec.ofNat 32 (fld (c.word 1) 31 0)), 1)])
     (fun s c =>
        let old := s.tribCfg c.idx
        let w : Half := BitVec.ofNat 32 (fld (c.word 1) 31 0)
        !((decide (tribModeOf old ≠ tribModeOf w) || decide (tribTimingOf old ≠ tribTimingOf w) || decide (tribNOf old ≠ tribNOf w)) &&
            s.either fun b => tribInRecord b c.idx) &&
        !(decide (tribTimingOf old ≠ tribTimingOf w) && s.shortDraws c.idx) &&
        !(decide (tribModeOf old ≠ 1) && decide (tribModeOf w = 1) && decide (64 ≤ s.framersUsed)) &&
        !s.breaksContract { s with cfg.line.trib := s.cfg.line.trib.put tribCfgReset c.idx w })
     (fun s c =>
        let p := c.idx
        let old := s.tribCfg p
        let w : Half := BitVec.ofNat 32 (fld (c.word 1) 31 0)
        let t : State := { s with cfg.line.trib := s.cfg.line.trib.put tribCfgReset p w }
        (if tribModeOf old ≠ tribModeOf w then
            ((t.setTrib p { TribPort.reset with loop := (s.trib p).loop }).setE1 (portE1 p) .reset).setC37 p .reset
          else if tribTimingOf old ≠ tribTimingOf w then
            t.setTrib p { s.trib p with phi0 := none, count := 0, aligned := false, buildOut := 0, fallback := false }
          else t).reportC37 p),
   reads .tribGet 0x01 0x09 OPR [idxMask] tribBadIdx fun s c => [BitVec.ofNat 64 (s.tribCfg c.idx).toNat],
   reads .tribStatus 0x01 0x0A OPR [idxMask] tribBadIdx fun s c =>
     let p := c.idx
     let t := s.trib p
     [mkWord [(0, 0, t.clkLoss.toNat),
       (1, 1, (if s.tribMode p = 1 then (s.e1 (portE1 p)).inFrame else if s.tribMode p = 3 then (s.c37 p).inFrame else false).toNat),
       (2, 2, t.aligned.toNat), (3, 3, t.fallback.toNat), (15, 8, (t.phi0.getD 0).toNat), (24, 16, t.buildOut.toNat)]],
   { instr := .tribLoop, spec := fun _ _ => plainOp 0x01 0x0B OPR [idxMask, maskOf [(8, 8), (1, 0)]],
     bad := fun _ c => [(decide (63 < c.idx), 0), (decide (fld (c.word 1) 1 0 = 3), 1)], own := fun _ c => forceFail c,
     can := fun s c => !(decide (fld (c.word 1) 1 0 = 2) && (s.either (fun b => tribInRecord b c.idx) || flag (s.tribCfg c.idx) 15) &&
       !flag (c.word 1) 8),
     eff := fun s c => ((s.setTrib c.idx { s.trib c.idx with loop := BitVec.ofNat 2 (fld (c.word 1) 1 0) }).raiseIf
       (decide (fld (c.word 1) 1 0 = 2) && (s.either (fun b => tribInRecord b c.idx) || flag (s.tribCfg c.idx) 15))
       { src := 0x038, obj := c.idx }, []) }]

/-! Class 0x02 (§4.9, §5.9) -/

def eidBad (c : Cmd) : List (Bool × Nat) := [(badPathEid c.eid, 0)]

/-- The value faults of a PATH_OH_CFG (R117, R118, R245). -/
def pathOhBad (s : State) (c : Cmd) : List (Bool × Nat) :=
  let w := c.word 1
  let lo := decide (eidLevel c.eid = 1)
  let long := decide (fld w 47 40 ≠ 0) && decide ((s.traceEntry (fld w 47 40)).len = 2)
  [(badPathEid c.eid, 0), (badExps (sdExpPath w) (sfExpPath w) || decide (markPosOf w = 3) || (lo && decide (markPosOf w = 2)) || (lo && long), 1)]

def rows2 : List OpRow :=
  [acts .sdhOhSet (setting 0x02 0x01 OPR [idxMask, maskOf [(55, 16), (11, 8), (3, 0)]])
     (fun c => [(decide (39 < c.idx), 0), (badExps (sdExpOh (c.word 1)) (sfExpOh (c.word 1)), 1)]) always
     (fun s c =>
        let n := c.idx
        let w := c.word 1
        let old := s.laneOh n
        let l := s.sdhLane n
        ({ s with cfg.sdh.laneOh := s.cfg.sdh.laneOh.put laneOhReset n w } : State).setSdhLane n
          { l with j0Left := if fld old 55 48 = fld w 55 48 then l.j0Left else [],
                   exc := if sfExpOh old = sfExpOh w then l.exc else l.exc.restart,
                   deg := if sdExpOh old = sdExpOh w then l.deg else l.deg.restart }),
   reads .sdhOhGet 0x02 0x02 OPR [idxMask] laneBad fun s c => [s.laneOh c.idx],
   reads .sdhStatus 0x02 0x03 OPR [idxMask] laneBad fun s c =>
     let l := s.sdhLane c.idx
     let r := s.sdhRuns c.idx
     [mkWord [(47, 40, l.k1.acc.toNat), (39, 35, l.k2hi.acc.toNat), (34, 32, l.k2lo.acc.toNat), (31, 28, l.s1.acc.toNat), (23, 22, l.framer.code),
       (7, 7, (r && l.apsInc).toNat), (6, 6, (r && l.hasDeg).toNat), (5, 5, (r && l.hasExc).toNat), (4, 4, (r && l.hasRdi).toNat),
       (3, 3, (r && l.hasAis).toNat), (2, 2, (r && l.hasLof).toNat), (1, 1, (r && l.oof).toNat), (0, 0, (r && l.los).toNat)]],
   reads .sdhCapture 0x02 0x04 OPR [idxMask] laneBad fun s c =>
     let l := s.sdhLane c.idx
     octetWords [l.capE1, l.capF1, l.capE2, l.capS1, l.capK1, l.capK2, l.capM1, 0] ++ octetWords (l.capD ++ List.replicate 4 0) ++
       octetWords l.capJ0,
   { instr := .pathOhSet, spec := fun _ _ => setting 0x02 0x05 OPR [eidMask, maskOf [(47, 30)]], bad := pathOhBad,
     can := fun s c => !(s.either fun b => (b.protOf (eidPort c.eid)).isSome) &&
       (decide (markPosOf (s.pathOh c.eid) = markPosOf (c.word 1)) || !s.either fun b => b.marksHeld c.eid),
     eff := fun s c =>
       let e := c.eid
       let w := c.word 1
       let old := s.pathOh e
       let p := s.path e
       (({ s with cfg.sdh.pathOh := s.cfg.sdh.pathOh.put pathOhReset e.toNat w } : State).setPath e
          { p with traceLeft := if fld old 47 40 = fld w 47 40 then p.traceLeft else [],
                   exc := if sfExpPath old = sfExpPath w then p.exc else p.exc.restart,
                   deg := if sdExpPath old = sdExpPath w then p.deg else p.deg.restart }, []) },
   { instr := .pathStatus, spec := fun _ _ => plainOp 0x02 0x06 TEN [eidMask], bad := fun _ c => eidBad c, own := fun s c => s.pathOwn c,
     can := fun s c => s.eidExists s.cfg.b c.eid 1 true,
     eff := fun s c =>
       let e := s.seen c.eid
       let p := s.path e
       let m := s.pathMasked e
       (s.setPath e { p with posJust := 0, negJust := 0 },
        [mkWord [(57, 48, p.interp.ptr), (47, 38, if s.isDriven c.eid then (s.path c.eid).egress.value else 0), (35, 34, p.interp.st.code),
          (31, 24, if eidLevel e = 0 then (nth 0 p.cap 6).toNat else fld (nth 0 p.cap 0) 3 1), (23, 16, p.posJust), (15, 8, p.negJust),
          (6, 6, m.toNat), (5, 5, (s.pathDeg e).toNat), (4, 4, (s.pathExc e).toNat), (3, 3, (s.pathRdi e).toNat),
          (2, 2, (!m && decide (p.interp.st = .lop)).toNat), (1, 1, (!m && decide (p.interp.st = .ais)).toNat), (0, 0, p.clean.toNat)]]) },
   { instr := .traceSet, spec := fun _ _ => setting 0x02 0x08 OPR (maskOf [(9, 0)] :: List.replicate 8 allBits),
     bad := fun _ c =>
       let octs := wordsOctets ((List.range 8).map fun i => c.word (i + 1))
       let extra := (List.range 64).find? fun i => decide (traceLen (fld (c.word 0) 9 8) ≤ i) && decide (nth 0 octs i ≠ 0)
       [(decide (fld (c.word 0) 7 0 = 0 ∨ fld (c.word 0) 9 8 = 3), 0), (extra.isSome, extra.getD 0 / 8 + 1)],
     can := fun s c => !(decide (fld (c.word 0) 9 8 = 2) && s.loNames (fld (c.word 0) 7 0)),
     eff := fun s c =>
       let x : TraceEntry := ⟨BitVec.ofNat 2 (fld (c.word 0) 9 8), wordsOctets ((List.range 8).map fun i => c.word (i + 1))⟩
       ({ s with cfg.sdh.traces := s.cfg.sdh.traces.put TraceEntry.reset (fld (c.word 0) 7 0) x }, []) },
   reads .traceGet 0x02 0x09 OPR [idxMask] noBad fun s c =>
     let t := s.traceEntry (fld (c.word 0) 7 0)
     mkWord [(9, 8, t.len.toNat)] :: octetWords t.octets,
   { instr := .sdhThreshGet, spec := fun _ _ => plainOp 0x02 0x0A OPR [eidMask, maskOf [(0, 0)]],
     bad := fun _ c => [(if flag (c.word 1) 0 then badPathEid c.eid else decide (39 < fld (c.word 0) 31 0), 0)],
     can := fun s c => if flag (c.word 1) 0 then s.eidExists s.cfg.b c.eid 1 true else s.laneSdh c.idx,
     eff := fun s c => (s,
       if flag (c.word 1) 0 then [threshWord (pathPar c.eid) (s.pathSf c.eid), threshWord (pathPar c.eid) (s.pathSd c.eid)]
       else [threshWord (msPar (s.laneRate c.idx)) (sfExpOh (s.laneOh c.idx)), threshWord (msPar (s.laneRate c.idx)) (sdExpOh (s.laneOh c.idx))]) },
   acts .e1Set (setting 0x02 0x20 OPR [eidMask, maskOf [(31, 24), (20, 16), (11, 8), (6, 5), (1, 0)]])
     (fun c => [(!isE1Eid c.eid, 0), (e1Bad (c.word 1), 1)]) always
     (fun s c =>
        let e := c.eid
        let w := c.word 1
        let old := s.e1Cfg e
        let t : State := { s with cfg.fram.e1 := s.cfg.fram.e1.put e1CfgReset e.toNat w }
        let x := s.e1 e
        let x := { x with exc := if e1SfExp old = e1SfExp w then x.exc else x.exc.restart,
                          deg := if e1SdExp old = e1SdExp w then x.deg else x.deg.restart }
        if e1Crc4 old = e1Crc4 w then t.setE1 e x
        else (t.setE1 e { x with crc4 := if e1Crc4 w = 0 then .off else .searching, background := false, mfStart := s.now, fallStart := s.now,
                                 siHist := [], mfSeen := [], mfErr := 0, smfSeen := 0, ssmPart := [], ssmValid := false }).reportE1 e),
   reads .e1Get 0x02 0x21 OPR [eidMask] (fun c => [(!isE1Eid c.eid, 0)]) fun s c => [s.e1Cfg c.eid],
   { instr := .e1Status, spec := fun _ _ => plainOp 0x02 0x22 TEN [eidMask], bad := fun _ c => [(!isE1Eid c.eid, 0)],
     own := fun s c => s.carrierOwn c (onE1 c.eid),
     eff := fun s c =>
       let e := c.eid
       let x := s.e1 e
       let bit (k : Nat) : Nat := (unmasked (s.e1Defects e) k).toNat
       let w := s.e1Cfg e
       let valid := x.ssmValid && decide (x.crc4 = .aligned) && decide (e1SsmSa w ≠ 0)
       (s, [mkWord [(31, 27, x.sa.toNat), (26, 23, x.ssm.acc.toNat), (22, 22, valid.toNat), (17, 16, if e1Crc4 w = 0 then 0 else x.crc4.code),
         (8, 8, x.inFrame.toNat), (7, 7, (s.isMonitor e).toNat), (6, 6, (s.e1Masked e).toNat), (5, 5, bit 6), (4, 4, bit 5), (3, 3, bit 4),
         (2, 2, bit 3), (1, 1, bit 2), (0, 0, bit 1)]]) },
   { instr := .e1FramerBind, spec := fun _ _ => setting 0x02 0x23 OPR [eidMask, maskOf [(0, 0)]],
     bad := fun _ c => [(!isE1Eid c.eid || decide (eidKind c.eid = .trib), 0)],
     can := fun s c => flag (c.word 1) 0 && !(s.cfg.fram.bank.any fun x => decide (x.2 = some c.eid)) && decide (s.framersUsed < 64),
     eff := fun s c =>
       let n := lowestFree (s.cfg.fram.bank.map (·.1))
       ({ s with cfg.fram.bank := s.cfg.fram.bank.put none n (some c.eid) }, [BitVec.ofNat 64 n]) },
   { instr := .c37Status, spec := fun _ _ => plainOp 0x02 0x24 TEN [idxMask], bad := fun _ c => tribBadIdx c,
     own := fun s c => s.carrierOwn c fun f => eidOnTrib f c.idx,
     eff := fun s c =>
       let p := c.idx
       let on (k : Nat) : Nat := (unmasked (s.c37Defects p) k).toNat
       (s, [mkWord [(0, 0, on 0x11), (1, 1, on 0x12), (2, 2, on 0x13), (3, 3, on 0x14), (4, 4, (s.c37 p).inFrame.toNat),
         (11, 8, (s.c37 p).accepted.toNat), (15, 12, s.tribN p)]]) },
   acts .gfpSet (setting 0x02 0x25 OPR [vcatMask, maskOf [(47, 24), (19, 16), (11, 8)]]) (fun c => [(gfpBad (c.word 1), 1)]) always
     (fun s c => { s with cfg.fram.gfp := s.cfg.fram.gfp.put gfpCfgReset c.chan (c.word 1) }),
   reads .gfpGet 0x02 0x26 OPR [vcatMask] noBad fun s c => [s.gfpCfg c.chan],
   acts .gfpBind (setting 0x02 0x27 OPR [vcatMask, maskOf [(63, 62), (43, 0)]])
     (fun c =>
        let w := c.word 1
        let e : Eid := BitVec.ofNat 32 (fld w 31 0)
        let badPath := !(eidForm e && decide (eidKind e = .line) && decide (eidLevel e = 0))
        [(if flag w 62 then false else if flag w 63 then decide (fld w 31 0 ≠ 0) else decide (fld w 43 32 ≠ 0) || badPath, 1)])
     (fun s c =>
        let w := c.word 1
        let e : Eid := BitVec.ofNat 32 (fld w 31 0)
        !flag w 62 && !((s.carrier c.chan).isSome || s.cfg.fram.gfpBind.any fun x => decide (x.2 = some (bindCarrier w))) &&
        (flag w 63 || (s.eidExists s.cfg.b e 1 true && !s.either fun b => s.egressTaken b e)))
     (fun s c => (({ s with cfg.fram.gfpBind := s.cfg.fram.gfpBind.put none c.chan (some (bindCarrier (c.word 1))) } : State).setGfp c.chan
        GfpChan.reset).setGfp c.chan { GfpChan.reset with since := s.now }),
   { instr := .gfpStatus, spec := fun _ _ => plainOp 0x02 0x28 TEN [vcatMask],
     own := fun s c => s.carrierOwn c fun f => match s.carrier c.chan with
       | some (.path e) => decide (f = e)
       | some (.group g) => (s.vcat g).members.any fun m => decide (m.eid = f)
       | none => false
     eff := fun s c =>
       let x := s.gfp c.chan
       (s, [mkWord [(1, 0, x.state.code), (2, 2, x.lfd.toNat), (3, 3, x.csf.toNat), (11, 4, x.lastUpi.toNat)]]) },
   acts .vcatSet (setting 0x02 0x29 OPR [vcatMask, maskOf [(39, 24), (16, 16), (10, 8), (6, 0)]]) (fun c => [(vcatBad (c.word 1), 1)])
     (fun s c => decide (vcatType (s.vcatCfg c.chan) = vcatType (c.word 1)) || (s.vcat c.chan).members.isEmpty)
     (fun s c =>
        let g := c.chan
        let t : State := { s with cfg.fram.vcat := s.cfg.fram.vcat.put vcatCfgReset g (c.word 1) }
        let x := t.vcat g
        ((if vcatLcas (s.vcatCfg g) && !vcatLcas (c.word 1) then
            t.setVcat g { x with members := x.members.map fun m => if m.phased .adding then { m with phase := .steady } else m }
          else t).vcatOrder g).vcatJudge g),
   reads .vcatGet 0x02 0x2A OPR [vcatMask] noBad fun s c => [s.vcatCfg c.chan],
   { instr := .vcatMemberAdd, spec := fun _ _ => setting 0x02 0x2B OPR [vcatMask, maskOf [(31, 0)]], status := stPending,
     bad := fun s c => [(!memberOf (vcatType (s.vcatCfg c.chan)) (BitVec.ofNat 32 (fld (c.word 1) 31 0)), 1)],
     can := fun s c =>
       let w := s.vcatCfg c.chan
       let e : Eid := BitVec.ofNat 32 (fld (c.word 1) 31 0)
       !(s.isMember e || s.isCarrier e || !s.eidExists s.cfg.b e 1 true) && !(s.either fun b => s.egressTaken b e) &&
       !decide (vcatMax w ≤ (s.vcat c.chan).members.length ∨ 16384 ≤ (s.cfg.fram.members.map fun x => x.2.length).sum) &&
       !decide (s.fathomFree < ringBlocks (storedRate e 1) (s.cfg.mark.vcatDmax.look 16 c.chan + memberJ (vcatType w))) && vcatLcas w,
     eff := fun s c =>
       let g := c.chan
       let w := s.vcatCfg g
       let e : Eid := BitVec.ofNat 32 (fld (c.word 1) 31 0)
       let x := s.vcat g
       let r := s.takeBlocks (ringBlocks (storedRate e 1) (s.cfg.mark.vcatDmax.look 16 g + memberJ (vcatType w)))
       let t : State := { r.2 with align.members := r.2.align.members.put [] e.toNat r.1 }
       ((((t.setVcat g { x with members := x.members ++ [Member.make e 0 ctrlIdle .adding] }).vcatOrder g).vcatKeep g).noteFree, []) },
   { instr := .vcatMemberRemove, status := stPending,
     spec := fun _ _ => { cls := 2, op := 0x2C, priv := OPR, masks := [vcatMask, maskOf [(31, 0)]], mirror := 2 },
     bad := fun _ c => [(!eidForm (BitVec.ofNat 32 (fld (c.word 1) 31 0)), 1)],
     can := fun s c => vcatLcas (s.vcatCfg c.chan) &&
       (s.vcat c.chan).members.any fun m => decide (m.eid = BitVec.ofNat 32 (fld (c.word 1) 31 0)) && !m.phased .removing,
     eff := fun s c =>
       let x := s.vcat c.chan
       let gone (m : Member) : Member :=
         if m.eid = BitVec.ofNat 32 (fld (c.word 1) 31 0) then { m with phase := .removing, removeEnd := s.now + 8000 } else m
       ((s.setVcat c.chan { x with members := x.members.map gone }).vcatOrder c.chan, []) },
   { instr := .vcatStatus, spec := fun _ _ => plainOp 0x02 0x2D TEN [vcatMask],
     own := fun s c => s.carrierOwn c fun f => (s.vcat c.chan).members.any fun m => decide (m.eid = f),
     eff := fun s c =>
       let x := s.vcat c.chan
       (s, mkWord [(6, 0, x.members.length), (14, 8, (x.members.filter (·.carries)).length), (22, 16, (x.members.filter (·.mstRx)).length),
           (23, 23, x.sqm.toNat), (24, 24, x.fail.toNat)] ::
         x.members.map fun m => mkWord [(63, 32, m.eid.toNat), (31, 26, m.sq), (25, 22, m.ctrlTx.toNat), (21, 18, m.ctrlRx.toNat),
           (17, 17, m.mstRx.toNat), (16, 16, m.mstTx.toNat)]) }]

/-- PATH_CAPTURE replies once 64 frames are captured (R120). -/
def later2 : List LaterRow :=
  [{ instr := .pathCapture, spec := plainOp 0x02 0x07 TEN [eidMask], bad := eidBad, own := fun s c => s.pathOwn c,
     can := fun s c => s.eidExists s.cfg.b c.eid 1 true && !s.sdh.captures.any fun x => decide (x.eid = c.eid),
     eff := fun s c => { s with sdh.captures := s.sdh.captures ++ [⟨c.eid, 64⟩] }, waits := fun _ c => .pathCapture c.eid.toNat }]

/-! Change commands in a bushel (R207, R208, Table 7.2) -/

/-- The open bushel that a change command names, when it has room for one more change. -/
def inBushel (s : State) (c : Cmd) : Option Bushel :=
  match s.namedBushel c c.bushel.toNat with
  | .inl b => if b.changes.length < 4096 then some b else none
  | .inr _ => none

/-- A change command with a bushel: the change is appended, and the reply gives its index after the data of its own. `view` is the configuration
the bushel's earlier changes leave; `obj` is the object it changes. -/
def joins (i : Cmd → Instr) (cls op priv : Nat) (masks : List Word) (bad : Cmd → List (Bool × Nat)) (obj : State → Cmd → Nat)
    (owners : BCfg → Nat → Cmd → List Nat) (data : Nat → List Word := fun _ => []) (limit : Nat := 2 ^ 64) : OpRow :=
  { instr := i, spec := fun _ _ => { cls := cls, op := op, priv := priv, masks := masks, change := true }, bad := fun _ c => bad c,
    own := fun s c => c.ownsAll (owners (s.bushelView c.bushel.toNat) (obj s c) c),
    can := fun s c => decide (c.bushel ≠ 0) && (inBushel s c).isSome && decide (obj s c < limit),
    eff := fun s c => match inBushel s c with
      | some b => (s.append b [⟨cls, op, obj s c, c.words⟩], data (obj s c) ++ [BitVec.ofNat 64 b.changes.length])
      | none => (s, []) }

/-- The object of an ADD command: with ANY, the lowest number free in the view and not reserved in an open bushel (R236). -/
def anyOr (used : State → List Nat) (kind hi : Nat) (s : State) (c : Cmd) : Nat :=
  if flag (c.word 0) 63 then lowestFree (used s ++ s.reservedAny kind) else fld (c.word 0) hi 0

def newConn (c : Cmd) : Conn := ⟨c.word 1, c.word 2⟩
def newPg (c : Cmd) : PgRec := ⟨c.word 1, c.word 2⟩
def newQueue (c : Cmd) : QueueRec := ⟨c.word 1, c.word 2, c.word 3⟩

/-! Class 0x03 (Table 7.10) -/

def rows3 : List OpRow :=
  [joins .connAdd 0x03 0x01 TEN [anyBit ||| cidMask, allBits, connMask1] (fun c => connFaults (newConn c))
     (anyOr (fun s => s.view.conns.map (·.1)) 0 18)
     (fun b n c => (newConn c).owner :: (if (b.connAt n).isFree then [] else connOwners b n)) (fun n => [BitVec.ofNat 64 n]) 524288,
   joins .connSet 0x03 0x02 TEN [cidMask, allBits, connMask1] (fun c => connFaults (newConn c)) (fun _ c => fld (c.word 0) 18 0)
     (fun b n c => (newConn c).owner :: connOwners b n),
   joins .connDel 0x03 0x03 TEN [cidMask] noBad (fun _ c => fld (c.word 0) 18 0) (fun b n _ => connOwners b n),
   { instr := .connGet, spec := fun _ _ => { cls := 0x03, op := 0x04, priv := TEN, masks := [viewBit ||| cidMask] },
     own := fun s c => c.ownsAll (connOwners (s.viewOf c.view) (fld (c.word 0) 18 0)),
     eff := fun s c => (s, [((s.viewOf c.view).connAt (fld (c.word 0) 18 0)).w0, ((s.viewOf c.view).connAt (fld (c.word 0) 18 0)).w1]) },
   { instr := .connFind, spec := fun _ _ => { cls := 0x03, op := 0x05, priv := TEN, masks := [maskOf [(31, 0)]] },
     bad := fun _ c => [(!eidForm (BitVec.ofNat 32 (fld (c.word 0) 31 0)) || eidNull (BitVec.ofNat 32 (fld (c.word 0) 31 0)), 0)],
     own := fun s c =>
       let e : Eid := BitVec.ofNat 32 (fld (c.word 0) 31 0)
       let b := s.cfg.b
       c.ownsAll (match b.conns.find? fun x => !x.2.isFree && (x.2.driven b).any (eidPositions e 1).contains with
         | some x => [x.2.owner]
         | none => []),
     can := fun s c =>
       let e : Eid := BitVec.ofNat 32 (fld (c.word 0) 31 0)
       s.cfg.b.conns.any fun x => !x.2.isFree && (x.2.driven s.cfg.b).any (eidPositions e 1).contains,
     eff := fun s c =>
       let e : Eid := BitVec.ofNat 32 (fld (c.word 0) 31 0)
       (s, [BitVec.ofNat 64 ((s.cfg.b.conns.find? fun x => !x.2.isFree && (x.2.driven s.cfg.b).any (eidPositions e 1).contains).map (·.1)).toList.sum]) },
   { instr := .connLatency, spec := fun _ _ => { cls := 0x03, op := 0x06, priv := TEN, masks := [cidMask] },
     own := fun s c => c.ownsAll (connOwners s.cfg.b (fld (c.word 0) 18 0)), can := fun s c => !(s.cfg.b.connAt (fld (c.word 0) 18 0)).isFree,
     eff := fun s c =>
       let cid := fld (c.word 0) 18 0
       let r := s.cfg.b.connAt cid
       let t := s.latency s.cfg.b cid r
       (s, [BitVec.ofNat 64 (if eidNull r.a || eidNull r.z then 0 else tNs t.1), BitVec.ofNat 64 (if r.bidir then tNs t.2 else 0)]) },
   { joins .structSet 0x03 0x07 OPR [maskOf [(9, 8), (5, 0)], allBits] noBad
       (fun _ c => fld (c.word 0) 9 8 * 64 + fld (c.word 0) 5 0) (fun _ _ _ => []) with
     bad := fun s c => [(decide (43 < fld (c.word 0) 5 0), 0), (!s.tcodeForm (fld (c.word 0) 5 0) (c.word 1), 1)] },
   { instr := .structGet, spec := fun _ _ => { cls := 0x03, op := 0x08, priv := OPR, masks := [maskOf [(32, 32), (9, 8), (5, 0)]] },
     bad := fun _ c => [(decide (43 < fld (c.word 0) 5 0), 0)],
     eff := fun s c =>
       let n := fld (c.word 0) 9 8
       (s, [BitVec.ofNat 64 (fld ((s.viewOf c.view).fab.struct.look 0 (fld (c.word 0) 5 0)) (64 * n + 63) (64 * n))]) },
   joins .tugSet 0x03 0x09 OPR [maskOf [(13, 8), (5, 0)], maskOf [(20, 0)]] (fun c => [(decide (43 < fld (c.word 0) 5 0), 0)])
     (fun _ c => fld (c.word 0) 5 0 * 64 + fld (c.word 0) 13 8) (fun _ _ _ => []),
   { instr := .tugGet, spec := fun _ _ => { cls := 0x03, op := 0x0A, priv := OPR, masks := [maskOf [(32, 32), (13, 8), (5, 0)]] },
     bad := fun _ c => [(decide (43 < fld (c.word 0) 5 0), 0)],
     eff := fun s c => (s, [BitVec.ofNat 64 ((s.viewOf c.view).tug (fld (c.word 0) 5 0) (fld (c.word 0) 13 8)).toNat]) },
   { instr := .mapRead, spec := fun _ _ => { cls := 0x03, op := 0x0B, priv := SUP, masks := [maskOf [(30, 24), (18, 0)]] },
     bad := fun _ c => [(decide (fld (c.word 0) 30 24 = 0 ∨ 64 < fld (c.word 0) 30 24 ∨ 2 ^ 19 < fld (c.word 0) 18 0 + fld (c.word 0) 30 24), 0)],
     eff := fun s c => ((freeWords (fld (c.word 0) 30 24) s).2, (freeWords (fld (c.word 0) 30 24) s).1) }]

/-! Class 0x04 (Table 7.12) -/

/-- A bushel whose commit passes every check of R212 for an immediate flip in the present state, with its load length and place. -/
def commits (s : State) (b : Bushel) (sched : Bool) (fn : BitVec 48) : Option (Nat × Slot × State) :=
  let ll := s.loadLength b.changes.length
  match ll.2.commitChecks b.id b.changes sched fn ll.1 with
  | .inl _ => none
  | .inr x => if b.oversize || b.changes.isEmpty || ll.2.journalFull (bushelWords b) then none else some (ll.1, x, ll.2)

/-- The bushel a BUSHEL_COMMIT names, open and the sender's own. -/
def named (s : State) (c : Cmd) : Option Bushel :=
  (s.bushel (fld (c.word 0) 15 0)).filter fun b => decide (b.mode = .open_) && (decide (b.owner = c.t) || decide (c.rank = SUP))

def commitMode (c : Cmd) : Nat := fld (c.word 0) 17 16

def rows4 : List OpRow :=
  [{ instr := .bushelOpen, spec := fun _ _ => { cls := 4, op := 1, priv := TEN, masks := [maskOf [(11, 0)]], active := true },
     bad := fun _ c => [(decide (3600 < fld (c.word 0) 11 0), 0)],
     can := fun s c =>
       let opens := s.bush.list.filter fun b => decide (b.mode = .open_)
       decide (opens.length < 16) && !(decide (c.rank = TEN) && decide (2 ≤ (opens.filter fun b => b.ten && decide (b.owner = c.t)).length)),
     eff := fun s c =>
       let idle := if fld (c.word 0) 11 0 = 0 then 60 else fld (c.word 0) 11 0
       (s.enter { Bushel.make s.nextBushel c.t (decide (c.rank = TEN)) [] with idle := idle, deadline := s.now + 8000 * idle },
        [BitVec.ofNat 64 s.nextBushel]) },
   { instr := .bushelCommit, status := stPending,
     spec := fun _ c => { cls := 4, op := 2, priv := TEN, masks := [maskOf [(17, 0)], maskOf [(47, 0)]], mirror := if commitMode c = 2 then 0 else 1 },
     bad := fun _ c => [(decide (commitMode c = 3), 0), (decide (commitMode c ≠ 1) && decide (c.word 1 ≠ 0), 1)],
     can := fun s c => decide (commitMode c ≠ 2) && match named s c with
       | some b => match commits s b (decide (commitMode c = 1)) (BitVec.ofNat 48 (fld (c.word 1) 47 0)) with
         | some (_, .now _, _) => false
         | some _ => true
         | none => false
       | none => false,
     eff := fun s c => match named s c with
       | some b => match commits s b (decide (commitMode c = 1)) (BitVec.ofNat 48 (fld (c.word 1) 47 0)) with
         | some (l, x, t) => (t.accept b x l (BitVec.ofNat 48 (fld (c.word 1) 47 0)), acceptWords t.tick.fn l x b.id)
         | none => (s, [])
       | none => (s, []) },
   { instr := .bushelCancel,
     spec := fun s c => { cls := 4, op := 3, priv := TEN, masks := [bushelMask],
                          mirror := if (s.bushel (fld (c.word 0) 15 0)).all (fun b => decide (b.mode = .open_)) then 0 else 2 },
     can := fun s c => match s.bushel (fld (c.word 0) 15 0) with
       | some b => (decide (b.owner = c.t) || decide (c.rank = SUP)) &&
           decide (b.mode = .open_ ∨ b.mode = .queued ∨ b.mode = .pending ∨ b.mode = .restored)
       | none => false,
     eff := fun s c => ((s.discard (fld (c.word 0) 15 0)).mapSnaps fun j => j.drop (fld (c.word 0) 15 0), []) },
   { instr := .bushelStatus, spec := fun _ _ => { cls := 4, op := 4, priv := TEN, masks := [bushelMask] },
     can := fun s c => (s.bushel (fld (c.word 0) 15 0)).any fun b => c.owns b.owner,
     eff := fun s c => (s, (s.bushel (fld (c.word 0) 15 0)).toList.flatMap fun b =>
       [mkWord [(3, 0, b.mode.code), (16, 4, b.changes.length)], BitVec.ofNat 64 b.flipFn.toNat]) },
   { instr := .shed, spec := fun _ _ => { cls := 4, op := 6, priv := SUP, masks := [maskOf [(11, 0)]], mirror := 0, active := true },
     can := fun s c => (s.shedPlan (fld (c.word 0) 11 0)).1.isEmpty,
     eff := fun s c => (s, [mkWord [(32, 32, (s.shedPlan (fld (c.word 0) 11 0)).2.2.toNat)]]) },
   { instr := .usageGet, spec := fun _ _ => { cls := 4, op := 7, priv := TEN, masks := [maskOf [(11, 0)]] },
     own := fun _ c => c.ownsAll [fld (c.word 0) 11 0],
     eff := fun s c =>
       let t := fld (c.word 0) 11 0
       let u := s.use s.cfg.b s.view t
       (s, [BitVec.ofNat 64 u.band, BitVec.ofNat 64 u.fathom, BitVec.ofNat 64 u.tun,
         mkWord [(18, 0, u.recs), (32, 32, (s.bush.overQuota.look false t).toNat)]]) },
   { instr := .bushelList, spec := fun _ _ => { cls := 4, op := 8, priv := OPR, masks := [] },
     eff := fun s _ => (s, (s.bush.list.filter fun b => decide (b.mode ≠ .settled)).map fun b =>
       mkWord [(15, 0, b.id), (19, 16, b.mode.code), (31, 20, b.owner)]) }]

/-- SHED with something to release accepts a bushel of its deletions (R232, R233). -/
def shedRow : OpRow :=
  { instr := .shed, spec := fun _ _ => { cls := 4, op := 6, priv := SUP, masks := [maskOf [(11, 0)]], mirror := 1, active := true },
    can := fun s c =>
      let p := s.shedPlan (fld (c.word 0) 11 0)
      let ll := s.loadLength p.1.length
      !p.1.isEmpty && (ll.2.slot false 0 ll.1).isSome &&
        !s.journalFull (bushelWords { Bushel.make s.nextBushel c.t false p.1 with shed := true }),
    eff := fun s c =>
      let p := s.shedPlan (fld (c.word 0) 11 0)
      let b := { Bushel.make s.nextBushel c.t false p.1 with shed := true }
      let ll := s.loadLength p.1.length
      match ll.2.slot false 0 ll.1 with
      | some x => ((ll.2.enter b).accept b x ll.1 0, [mkWord [(12, 0, p.2.1), (28, 16, b.id), (32, 32, p.2.2.toNat)]])
      | none => (s, []) }

/-- BUSHEL_FETCH appends the list that the host's memory holds: with its digest right and every entry sound (R234, R235). -/
def fetchSpec : OpSpec := { cls := 4, op := 5, priv := TEN, masks := [maskOf [(28, 16), (15, 0)], allBits, allBits, allBits] }

def fetchBad (c : Cmd) : List (Bool × Nat) :=
  [(decide (fld (c.word 0) 28 16 = 0 ∨ 4096 < fld (c.word 0) 28 16), 0), (decide (fld (c.word 1) 2 0 ≠ 0), 1)]

def FetchAppends : Prop :=
  ∀ s c fetched b cs, Accepts s c fetchSpec (fetchBad c) → c.port.val < 2 → s.namedBushel c (fld (c.word 0) 15 0) = .inl b →
    32 * fld (c.word 0) 28 16 ≤ fetched.length →
    (sha256 (fetched.take (32 * fld (c.word 0) 28 16))).take 16 = wordOctets (c.word 2) ++ wordOctets (c.word 3) →
    s.listFail c (s.bushelView b.id) 0 (listEntries (fld (c.word 0) 28 16) (fetched.take (32 * fld (c.word 0) 28 16))) = .inr cs →
    b.changes.length + cs.length ≤ 4096 →
    exec (.bushelFetch c fetched) s = .next ((s.append b cs).answer c 4 5 stOk 0 [BitVec.ofNat 64 cs.length])

/-! Class 0x05 (Table 8.9) -/

def pgAt (c : Cmd) : Nat := fld (c.word 0) 13 0
def lpAt (c : Cmd) : Nat := fld (c.word 0) 4 0

def rows5 : List OpRow :=
  [joins .pgAdd 0x05 0x01 TEN [anyBit ||| pgMask, allBits, pgMask1]
     (fun c => [(!(newPg c).legsOk, 1), (!(newPg c).widthOk || !(newPg c).timersOk, 2)]) (anyOr (fun s => s.view.pgs.map (·.1)) 3 13)
     (fun b n c => (newPg c).owner :: (if (b.pg n).isNone then [] else pgOwners b n)) (fun n => [BitVec.ofNat 64 n]) 16384,
   joins .pgSet 0x05 0x02 TEN [pgMask, allBits, pgMask1]
     (fun c => [(!(newPg c).legsOk, 1), (!(newPg c).widthOk || !(newPg c).timersOk, 2)]) (fun _ c => pgAt c)
     (fun b n c => (newPg c).owner :: pgOwners b n),
   joins .pgDel 0x05 0x03 TEN [pgMask] noBad (fun _ c => pgAt c) (fun b n _ => pgOwners b n),
   { instr := .pgGet, spec := fun _ _ => plainOp 0x05 0x04 TEN [pgMask ||| viewBit], own := fun s c => s.pgOwn c (s.viewOf c.view),
     eff := fun s c => (s, pgWords ((s.viewOf c.view).pg (pgAt c))) },
   { instr := .pgStatus, spec := fun _ _ => plainOp 0x05 0x06 TEN [pgMask], own := fun s c => s.pgOwn c s.cfg.b,
     can := fun s c => (s.cfg.b.pg (pgAt c)).isSome,
     eff := fun s c =>
       let p := s.protection true (pgAt c)
       (s.setProtection true (pgAt c) { p with notPref := 0 }, [setFld (s.protStatus true (pgAt c)) 63 32 p.notPref]) },
   joins .lpSet 0x05 0x07 OPR [maskOf [(4, 0)], lpMask] (fun c => [(decide (19 < lpAt c), 0), (!lpForm (c.word 1), 1)]) (fun _ c => lpAt c)
     (fun _ _ _ => []),
   joins .lpDel 0x05 0x08 OPR [maskOf [(4, 0)]] (fun c => [(decide (19 < lpAt c), 0)]) (fun _ c => lpAt c) (fun _ _ _ => []),
   reads .lpGet 0x05 0x09 OPR [lpIdxMask ||| viewBit] (fun c => [(decide (19 < lpAt c), 0)]) fun s c =>
     [((s.viewOf c.view).lp (lpAt c)).getD lpCfgReset],
   { instr := .lpStatus, spec := fun _ _ => plainOp 0x05 0x0B OPR [lpIdxMask], bad := fun _ c => [(decide (19 < lpAt c), 0)],
     can := fun s c => (s.cfg.b.lp (lpAt c)).isSome,
     eff := fun s c =>
       let n := lpAt c
       let w := (s.cfg.b.lp n).getD 0
       let p := s.protection false n
       let l := s.sdhLane (lpProt w)
       let k := s.kSent (lpProt w)
       (s, [s.protStatus false n, mkWord [(63, 56, k.1.toNat), (55, 48, k.2.toNat), (47, 40, l.k1.acc.toNat), (39, 32, l.k2acc.toNat),
         (31, 28, p.far), (26, 26, p.fop.toNat), (25, 25, p.mm.toNat), (24, 24, p.pm.toNat)]]) },
   reads .pgScan 0x05 0x0C TEN [maskOf [(16, 16), (13, 0)]] noBad fun s c =>
     let hits := (s.cfg.b.pgs.filter fun x =>
       decide (pgAt c ≤ x.1) && c.owns x.2.owner &&
         (if flag (c.word 0) 16 then decide ((s.protection true x.1).level ≠ 0) else (s.protection true x.1).sel)).take 64
     BitVec.ofNat 64 hits.length :: hits.map fun x =>
       mkWord [(18, 18, (s.protection true x.1).sel.toNat), (17, 14, (s.protection true x.1).level), (13, 0, x.1)]]

/-- PG_CMD and LP_CMD hold the command and reply after the evaluation that sees it (R257, R263). A manual switch is
refused while a request at or above its level stands. -/
def later5 : List LaterRow :=
  [{ instr := .pgCmd, spec := { plainOp 0x05 0x05 TEN [pgMask, maskOf [(3, 0)]] with active := true },
     bad := fun c => [(decide (4 < fld (c.word 1) 3 0), 1)], own := fun s c => s.pgOwn c s.cfg.b,
     can := fun s c => (s.cfg.b.pg (pgAt c)).isSome && !decide ((fld (c.word 1) 3 0 = 3 ∨ fld (c.word 1) 3 0 = 4) ∧ 3 ≤ (s.protection true (pgAt c)).level),
     eff := fun s c => s.putProt true (pgAt c) (((s.cfg.b.pg (pgAt c)).getD PgRec.reset).wtr)
       { s.protection true (pgAt c) with cmd := fld (c.word 1) 3 0 },
     waits := fun _ c => .group (pgAt c) false },
   { instr := .lpCmd, spec := { plainOp 0x05 0x0A OPR [lpIdxMask, maskOf [(3, 0)]] with active := true },
     bad := fun c => [(decide (19 < lpAt c), 0), (decide (4 < fld (c.word 1) 3 0), 1)],
     can := fun s c => (s.cfg.b.lp (lpAt c)).isSome && !decide ((fld (c.word 1) 3 0 = 3 ∨ fld (c.word 1) 3 0 = 4) ∧ 3 ≤ (s.protection false (lpAt c)).level),
     eff := fun s c => s.putProt false (lpAt c) (lpWtr ((s.cfg.b.lp (lpAt c)).getD 0)) { s.protection false (lpAt c) with cmd := fld (c.word 1) 3 0 },
     waits := fun _ c => .pair (lpAt c) false }]

/-! Class 0x06 (Table 9.8) -/

def rows6 : List OpRow :=
  [joins .alignSet 0x06 0x01 TEN [pgMask, maskOf [(15, 8), (1, 0)]]
     (fun c => [(decide (fld (c.word 1) 15 8 = 0 ∨ 64 < fld (c.word 1) 15 8 ∨ fld (c.word 1) 1 0 = 3), 1)]) (fun _ c => pgAt c)
     (fun b n _ => pgOwners b n),
   { instr := .alignGet, spec := fun _ _ => plainOp 0x06 0x02 TEN [pgMask ||| viewBit], own := fun s c => s.pgOwn c (s.viewOf c.view),
     eff := fun s c => (s, [(s.viewOf c.view).align.align.look alignCfgReset (pgAt c)]) },
   { instr := .alignStatus, spec := fun _ _ => plainOp 0x06 0x03 TEN [pgMask], own := fun s c => s.pgOwn c s.cfg.b,
     can := fun s c => (s.cfg.b.pg (pgAt c)).isSome,
     eff := fun s c =>
       let g := s.alignGroup (pgAt c)
       (s.setAlignGroup (pgAt c) { g with differed := 0, flats := 0 },
        [mkWord [(63, 56, if g.isLocked then ofSigned 8 g.delta else 0), (55, 48, g.differed), (47, 40, g.flats), (39, 36, g.mode.code),
          (35, 34, g.method), (33, 33, g.unverified.toNat), (32, 32, g.stepped.toNat), (31, 31, g.skew.toNat),
          (30, 30, (seenLately s.now g.seen1).toNat), (29, 29, (seenLately s.now g.seen0).toNat), (15, 0, g.ring0.length + g.ring1.length)]]) },
   joins .symSet 0x06 0x05 TEN [cidMask, maskOf [(63, 40)]]
     (fun c => [(decide (fld (c.word 1) 47 40 = 0 ∨ 64 < fld (c.word 1) 47 40), 1)]) (fun _ c => fld (c.word 0) 18 0) (fun b n _ => connOwners b n),
   { instr := .symGet, spec := fun _ _ => plainOp 0x06 0x06 TEN [cidMask ||| viewBit],
     own := fun s c => c.ownsAll (connOwners (s.viewOf c.view) (symCid c)),
     eff := fun s c => (s, [(s.viewOf c.view).align.sym.look symCfgReset (symCid c)]) },
   { instr := .symStatus, spec := fun _ _ => plainOp 0x06 0x07 TEN [cidMask], own := fun s c => c.ownsAll (connOwners s.cfg.b (symCid c)),
     eff := fun s c =>
       let x := s.symRec (symCid c)
       (s, [mkWord [(63, 60, x.mode.code), (59, 59, (decide (0 < x.padding)).toNat)], mkWord [(63, 32, x.gIn.toNat), (31, 0, x.gOut.toNat)],
         mkWord [(63, 32, s.symPadNs (symCid c)), (31, 0, (x.nIn.getD 0xFFFF_FFFF).toNat)]]) },
   acts .markSet (setting 0x06 0x08 OPR [eidMask, maskOf [(0, 0)]]) eidBad (fun s c => decide (markPosOf (s.pathOh c.eid) ≠ 0))
     (fun s c => { s with cfg.mark.tx := s.cfg.mark.tx.put false c.eid.toNat (flag (c.word 1) 0) }),
   reads .markCapture 0x06 0x09 OPR [eidMask] eidBad fun s c => takeWords 4 (s.align.lastMark.look [] c.eid.toNat ++ List.replicate 32 0),
   acts .vcatAlignSet (setting 0x06 0x0A OPR [maskOf [(11, 0)], maskOf [(7, 0)]])
     (fun c => [(decide (fld (c.word 1) 7 0 = 0 ∨ 64 < fld (c.word 1) 7 0), 1)])
     (fun s c => (s.cfg.fram.members.look [] (fld (c.word 0) 11 0)).isEmpty)
     (fun s c => { s with cfg.mark.vcatDmax := s.cfg.mark.vcatDmax.put 16 (fld (c.word 0) 11 0) (fld (c.word 1) 7 0) }),
   { instr := .fathomMap,
     spec := fun _ c => plainOp 0x06 0x0B SUP
       [if fld (c.word 1) 1 0 = 0 then pgMask else if fld (c.word 1) 1 0 = 2 then cidMask else eidMask, maskOf [(31, 16), (1, 0)]],
     bad := fun _ c => [(decide (fld (c.word 1) 1 0 = 3), 1)],
     eff := fun s c =>
       let kind := fld (c.word 1) 1 0
       let g := s.alignGroup (pgAt c)
       let blocks := if kind = 0 then g.ring0 ++ g.ring1
         else if kind = 1 then s.align.members.look [] c.eid.toNat else (s.symRec (symCid c)).blocks
       let at_ (i : Nat) : Nat := nth 0 blocks (fld (c.word 1) 31 16 + i)
       (s, BitVec.ofNat 64 blocks.length ::
         (List.range 16).map fun i => mkWord [(63, 48, at_ (4 * i)), (47, 32, at_ (4 * i + 1)), (31, 16, at_ (4 * i + 2)), (15, 0, at_ (4 * i + 3))]) }]

/-- ALIGN_RESTART replies after the tick at which it takes effect (R312). -/
def later6 : List LaterRow :=
  [{ instr := .alignRestart, spec := plainOp 0x06 0x04 TEN [pgMask], own := fun s c => s.pgOwn c s.cfg.b,
     can := fun s c => (s.cfg.b.pg (pgAt c)).isSome,
     eff := fun s c => s.setAlignGroup (pgAt c) { s.alignGroup (pgAt c) with restart := true }, waits := fun _ c => .alignRestart (pgAt c) }]

/-! Class 0x07 (Table 10.14) -/

def queueFaults (c : Cmd) : List (Bool × Nat) := [((newQueue c).w0Bad, 1), ((newQueue c).w1Bad, 2), ((newQueue c).w2Bad, 3)]

def rows7 : List OpRow :=
  [joins .queueAdd 0x07 0x01 TEN [anyBit ||| qidMask, queueMask0, queueMask1, queueMask2] queueFaults
     (anyOr (fun s => s.view.queues.map (·.1)) 5 15)
     (fun b n c => (newQueue c).owner :: (if (b.queue n).kind = 0 then [] else queueOwners b n)) (fun n => [BitVec.ofNat 64 n]) 65536,
   joins .queueSet 0x07 0x02 TEN [qidMask, queueMask0, queueMask1, queueMask2] queueFaults (fun _ c => cmdQ c)
     (fun b n c => (newQueue c).owner :: queueOwners b n),
   joins .queueDel 0x07 0x03 TEN [qidMask] noBad (fun _ c => cmdQ c) (fun b n _ => queueOwners b n),
   { instr := .queueGet, spec := fun _ _ => plainOp 0x07 0x04 TEN [qidMask ||| viewBit], own := fun s c => s.queueOwn c (s.viewOf c.view),
     eff := fun s c => (s, [((s.viewOf c.view).queue (cmdQ c)).w0, ((s.viewOf c.view).queue (cmdQ c)).w1, ((s.viewOf c.view).queue (cmdQ c)).w2]) },
   { instr := .queueStatus, spec := fun _ _ => plainOp 0x07 0x05 TEN [qidMask], own := fun s c => s.queueOwn c s.cfg.b,
     eff := fun s c =>
       let q := cmdQ c
       let r := s.cfg.b.queue q
       let x := s.queue q
       let on (code : Nat) : Nat := (unmasked (s.pwDefects q) code).toNat
       let base := [(63, 60, x.mode.code), (0, 0, (s.queueLinkDown r).toNat)]
       let more := [(47, 32, x.lastSeq.toNat), (31, 21, x.minH), (20, 10, x.maxH), (7, 7, (!(s.cfg.pie.hdr.look [] q).isEmpty).toNat),
         (6, 6, x.blockClean.toNat), (5, 5, on 0x53), (4, 4, on 0x52), (3, 3, on 0x54), (2, 2, on 0x55), (1, 1, on 0x51)]
       (s.setQueue q { x with minH := 0x7FF, maxH := 0, rxCount := 0 },
        [mkWord (if r.kind = 3 ∨ r.kind = 4 then base else base ++ more), mkWord [(63, 32, x.rxCount), (31, 0, if x.built then r.tun else 0)]]) },
   { instr := .hdrSet, spec := fun _ _ => setting 0x07 0x06 TEN (qidMask :: maskOf [(5, 0)] :: List.replicate 8 allBits),
     bad := fun _ c =>
       let n := fld (c.word 1) 5 0
       let octs := wordsOctets ((List.range 8).map fun i => c.word (i + 2))
       let extra := (List.range 64).find? fun i => decide (n ≤ i) && decide (nth 0 octs i ≠ 0)
       [(decide (n < 14 ∨ 60 < n), 1), (extra.isSome, extra.getD 0 / 8 + 2)],
     own := fun s c => s.queueOwn c s.cfg.b,
     can := fun s c =>
       let r := s.cfg.b.queue (cmdQ c)
       !decide (r.kind = 3 ∨ r.kind = 4) &&
         templateOk r.encap ((wordsOctets ((List.range 8).map fun i => c.word (i + 2))).take (fld (c.word 1) 5 0)),
     eff := fun s c =>
       let x := (wordsOctets ((List.range 8).map fun i => c.word (i + 2))).take (fld (c.word 1) 5 0)
       ({ s with cfg.pie.hdr := s.cfg.pie.hdr.put [] (cmdQ c) x }, []) },
   { instr := .hdrGet, spec := fun _ _ => plainOp 0x07 0x07 TEN [qidMask], own := fun s c => s.queueOwn c s.cfg.b,
     eff := fun s c =>
       let t := s.cfg.pie.hdr.look [] (cmdQ c)
       (s, BitVec.ofNat 64 t.length :: takeWords 8 (t ++ List.replicate 64 0)) },
   acts .psnSet (setting 0x07 0x08 OPR [pieLaneMask, maskOf [(47, 0)], maskOf [(63, 16), (11, 0)], maskOf [(19, 0)]])
     (fun c =>
        let p : PsnRec := ⟨c.word 1, c.word 2, c.word 3⟩
        [(decide (39 < pieLane c), 0), (decide (p.udpBase < 1024), 2), (decide (p.labelBase < 16 ∨ 983040 < p.labelBase), 3)])
     always (fun s c => { s with cfg.pie.psn := s.cfg.pie.psn.put PsnRec.reset (pieLane c) ⟨c.word 1, c.word 2, c.word 3⟩ }),
   reads .psnGet 0x07 0x09 OPR [pieLaneMask] (fun c => [(decide (39 < pieLane c), 0)]) fun s c =>
     [(s.psn (pieLane c)).w0, (s.psn (pieLane c)).w1, (s.psn (pieLane c)).w2],
   acts .fwdSet (setting 0x07 0x0A OPR [maskOf [(12, 0)], maskOf [(63, 63), (61, 44), (15, 0)]])
     (fun c => [(decide (39 < fld (c.word 1) 61 56), 1)])
     (fun s c =>
        let n := fld (c.word 0) 12 0
        let w := c.word 1
        let clash := s.cfg.pie.fwd.any fun x => decide (x.1 ≠ n) && flag x.2 63 && decide (fld x.2 61 44 = fld w 61 44)
        let bad (b : BCfg) : Bool :=
          !(decide ((b.queue (fld w 15 0)).kind = 3) || (decide ((b.queue (fld w 15 0)).kind = 4) && !(b.queue (fld w 15 0)).src)) ||
            decide ((b.queue (fld w 15 0)).lane ≠ fld w 61 56)
        !(flag w 63 && (clash || s.either bad)))
     (fun s c => { s with cfg.pie.fwd := s.cfg.pie.fwd.put 0 (fld (c.word 0) 12 0) (c.word 1) }),
   reads .fwdGet 0x07 0x0B OPR [maskOf [(12, 0)]] noBad fun s c => [s.cfg.pie.fwd.look 0 (fld (c.word 0) 12 0)],
   reads .pieStatus 0x07 0x0C OPR [] noBad fun s _ =>
     [mkWord [(31, 0, (s.cfg.b.queues.map fun x => x.2.reserved).sum / (pktLcm * 1000))],
      mkWord [(31, 0, s.tunCells - s.tunUsed s.cfg.b s.view)], mkWord [(16, 0, s.cfg.b.queues.length)]]]

/-! Class 0x08 (Table 11.12) -/

def timAt (c : Cmd) : Nat := c.timObj

def rows8 : List OpRow :=
  [reads .timSysGet 0x08 0x02 OPR [] noBad fun s _ => [s.timSys],
   acts .timInSet (setting 0x08 0x03 OPR [timMask, maskOf [(63, 63), (61, 3)]] 5)
     (fun c => [(decide (112 < c.timObj), 0), (timInBad c.timObj (c.word 1), 1)]) always (fun s c => s.setTimIn c.timObj (c.word 1)),
   reads .timInGet 0x08 0x04 OPR [timMask] (fun c => [(decide (112 < c.timObj), 0)]) fun s c => [s.timIn c.timObj],
   reads .timInStatus 0x08 0x05 OPR [timMask] (fun c => [(decide (112 < c.timObj), 0)]) fun s c =>
     let i := c.timObj
     let x := s.cand i
     let ql := s.candQl i
     let f := s.candFault i
     [mkWord [(2, 0, x.mode.code), (3, 3, (s.usable i).toNat), (7, 4, ql.getD 0), (8, 8, ql.isNone.toNat),
       (15, 12, if x.mode = .disabled then 0 else if f ≠ 0 then f else if x.freqBad then 2 else 0),
       (31, 16, if x.mode = .qualifying then ceilDiv (x.since + 8000 * timQual (s.timIn i) - s.now) 8000 else 0), (63, 32, ofSigned 32 x.offset)]],
   reads .timStatus 0x08 0x06 OPR [] noBad fun s _ =>
     [mkWord [(31, 0, s.timQstat.toNat), (32, 32, s.bwCapped.toNat), (33, 33, s.tim.coarse.toNat), (35, 34, s.cfg.tim.model.code)],
      BitVec.ofNat 64 (ofSigned 64 (s.tim.s0 / 2 ^ 24)),
      mkWord [(63, 48, ofSigned 16 s.cfg.tim.tMin), (47, 32, ofSigned 16 s.cfg.tim.tMax), (31, 0, s.tim.records.length / 360)]],
   acts .timModelSet (setting 0x08 0x08 OPR [0, allBits, allBits, maskOf [(63, 20), (17, 16)]] 0)
     (fun c => [(decide (3600 < fld (c.word 3) 31 20), 3)])
     (fun s c => !holdEn ⟨c.word 1, c.word 2, c.word 3⟩ || decide (s.cfg.tim.model = .valid ∨ s.cfg.tim.model = .loaded))
     (fun s c => State.setModel { s with cfg.tim.hold := ⟨c.word 1, c.word 2, c.word 3⟩ } .loaded),
   reads .timModelGet 0x08 0x09 OPR [] noBad fun s _ => [s.hold.w0, s.hold.w1, s.hold.w2],
   acts .timModelLearn { plainOp 0x08 0x0A OPR [] with jrn := 1 } noBad always (fun s _ => State.setModel { s with tim.records := [] } .none),
   acts .timOutSet (setting 0x08 0x0B OPR [timMask, maskOf [(31, 18), (15, 0)]] 5)
     (fun c => [(decide (4 < c.timObj), 0), (timOutBad c.timObj (BitVec.ofNat 32 (fld (c.word 1) 31 0)), 1)]) always
     (fun s c => { s with cfg.tim.outs := s.cfg.tim.outs.put 0 c.timObj (BitVec.ofNat 32 (fld (c.word 1) 31 0)) }),
   reads .timOutGet 0x08 0x0C OPR [timMask] (fun c => [(decide (4 < c.timObj), 0)]) fun s c => [BitVec.ofNat 64 (s.outCfg c.timObj).toNat],
   acts .timMonSet (setting 0x08 0x0D OPR [0, timMask] 0) (fun c => [(decide (112 < fld (c.word 1) 7 0 ∧ fld (c.word 1) 7 0 < 255), 1)]) always
     (fun s c => { s with cfg.tim.mon := BitVec.ofNat 8 (fld (c.word 1) 7 0) }),
   acts .todSet (plainOp 0x08 0x0E OPR [timMask, allBits]) (fun c => [(decide (7 < c.timObj), 0)])
     (fun s c => decide (timType (s.timIn (104 + c.timObj)) = 2))
     (fun s c => s.todTake (104 + c.timObj) ⟨fld (c.word 1) 47 0, true⟩ (BitVec.ofNat 16 (fld (c.word 1) 63 48))
        (match (s.cand (104 + c.timObj)).lastGood with | some t => (s.now - t) * 125 | none => 500000) true),
   acts .ptpSet (setting 0x08 0x0F OPR [0, maskOf [(63, 24)], allBits] 5)
     (fun c => [(decide (fld (c.word 1) 63 56 < 24 ∨ 43 < fld (c.word 1) 63 56), 1)]) always
     (fun s c => State.ptpDecide { s with cfg.tim.ptp0 := c.word 1, cfg.tim.ptp1 := c.word 2 }),
   acts .ptpPortSet (setting 0x08 0x10 OPR [timMask, maskOf [(63, 19)]] 0)
     (fun c => [(decide (15 < c.timObj), 0), (decide (40 < ptpPlace (c.word 1) ∨ ptpLocalPrio (c.word 1) = 0), 1)])
     (fun s c =>
        let w := c.word 1
        let clash := s.cfg.tim.ports.any fun x => decide (x.1 ≠ c.timObj) && ptpEn x.2 && decide (ptpPlace x.2 = ptpPlace w)
        !(ptpEn w && (decide (s.clockId = 0) || (decide (ptpPlace w ≠ 40) && !s.laneEth (ptpPlace w)) || clash)))
     (fun s c =>
        let i := c.timObj
        let w := c.word 1
        let t : State := { s with cfg.tim.ports := s.cfg.tim.ports.put ptpPortReset i w }
        (if s.ptpCfg i = w then t
          else (t.setPtpPort i { PtpPort.reset with mode := (t.ptpPort i).mode, heardAt := t.now }).ptpTo i
            (if ptpEn w then .listening else .disabled)).ptpDecide),
   reads .ptpStatus 0x08 0x11 OPR [timMask] (fun c => [(decide (15 < c.timObj), 0)]) fun s c =>
     let d := s.parent.getD s.ownData
     [mkWord [(3, 0, (s.ptpPort c.timObj).mode.code), (11, 8, s.tim.dpll.code), (23, 16, d.cls),
        (31, 24, if s.parent.isSome then d.steps + 1 else 0), (63, 32, ofSigned 32 s.tim.offset)],
      BitVec.ofNat 64 (ofSigned 64 s.tim.pathDelay), d.gm],
   acts .timThermSet (setting 0x08 0x12 OPR [0, maskOf [(31, 0)]] 0) noBad always
     (fun s c => { s with cfg.tim.therm := BitVec.ofNat 32 (fld (c.word 1) 31 0) })]

/-- TIM_SYS_SET and TIM_HOLDOVER reply after the boundary at which they apply (R374). -/
def later8 : List LaterRow :=
  [{ instr := .timSysSet, spec := setting 0x08 0x01 OPR [0, maskOf [(63, 53), (47, 0)]] 5, bad := fun c => [(timSysBad (c.word 1), 1)],
     can := fun s _ => !s.journalFull 2, eff := fun s _ => s, waits := fun _ _ => .timSys },
   { instr := .timHoldover, spec := plainOp 0x08 0x07 OPR [0, maskOf [(0, 0)]], eff := fun s _ => s, waits := fun _ _ => .timHoldover }]

/-! Class 0x09 (Table 12.11) -/

def rows9 : List OpRow :=
  [{ instr := .tenantSet, spec := fun _ _ => setting 0x09 0x01 SUP [tidMask, maskOf [(63, 56), (51, 12)], maskOf [(63, 26)]] 4,
     bad := fun s c => [(badRec0 (tidOf c) (s.tenant (tidOf c)).1 (c.word 1), 1), (badRec1 (tidOf c) (s.tenant (tidOf c)).2 (c.word 2), 2)],
     eff := fun s c => ((s.putTenant (tidOf c) (c.word 1, c.word 2)).judgeQuota (tidOf c), []) },
   { instr := .tenantGet, spec := fun _ _ => plainOp 0x09 0x02 TEN [tidMask], own := fun _ c => c.ownTid,
     eff := fun s c =>
       let r := s.tenant (tidOf c)
       let k := s.tenantKeys (tidOf c)
       (s, [r.1, r.2,
         mkWord [(2, 2, (s.bush.overQuota.look false (tidOf c)).toNat), (1, 1, k.key1.isSome.toNat), (0, 0, k.key0.isSome.toNat)],
         mkWord [(63, 32, k.res0.toNat), (31, 0, k.res1.toNat)]]) },
   acts .tenantDel (setting 0x09 0x03 SUP [tidMask] 4) (fun c => [(decide (tidOf c = 0), 0)])
     (fun s c => decide (tenState (s.tenant (tidOf c)) ≠ 0) && !s.tenantOwns (tidOf c))
     (fun s c => (((s.clearKey (tidOf c) false).clearKey (tidOf c) true).putTenant (tidOf c) (0, 0)).settleQuotas),
   reads .tenantList 0x09 0x04 OPR [tidMask] noBad fun s c =>
     let l := (s.cfg.cmd.tenants.filter fun x => decide (tidOf c ≤ x.1) && decide (tenState x.2 ≠ 0)).take 64
     mkWord [(6, 0, l.length)] :: l.map fun x =>
       mkWord [(19, 16, tenPorts x.2), (15, 14, tenMaxPriv x.2), (13, 12, tenState x.2), (11, 0, x.1)],
   { instr := .keyLoad, own := fun _ c => c.ownTid,
     spec := fun _ _ => { plainOp 0x09 0x05 TEN (tidSlotMask :: List.replicate 5 allBits) with mirror := 4 },
     can := fun s c => decide (tenState (s.tenant (tidOf c)) ≠ 0) && ((s.tenantKeys (tidOf c)).key (flag (c.word 0) 16)).isNone &&
       decide (kcvOf c.newKey = c.word 5) && decide (c.newKey ≠ 0) && decide (s.jr.keys.length < 1024),
     eff := fun s c =>
       let t := (s.putKey (tidOf c) (flag (c.word 0) 16) c.newKey).raise { src := 0x0C3, code := (flag (c.word 0) 16).toNat, aux := tidOf c }
       (t.raiseIf (s.commissioning && !t.commissioning) { src := 0x0C6, clr := true }, []) },
   { instr := .keyRetire, own := fun _ c => c.ownTid, spec := fun _ _ => { plainOp 0x09 0x06 TEN [tidSlotMask] with mirror := 4 },
     can := fun s c => ((s.tenantKeys (tidOf c)).key (flag (c.word 0) 16)).isSome &&
       !(decide (tidOf c = 0) && ((s.tenantKeys (tidOf c)).key (!flag (c.word 0) 16)).isNone),
     eff := fun s c => ((s.clearKey (tidOf c) (flag (c.word 0) 16)).raise
       { src := 0x0C3, clr := true, code := (flag (c.word 0) 16).toNat, aux := tidOf c }, []) },
   reads .authLogGet 0x09 0x07 SUP [] noBad fun s _ =>
     mkWord [(4, 0, s.cmd.authLog.length)] :: s.cmd.authLog.reverse.flatMap fun e =>
       [mkWord [(63, 56, e.status.toNat), (49, 48, e.port.val), (47, 0, e.fn.toNat)],
        mkWord [(63, 32, e.seq.toNat), (15, 4, e.tid.toNat), (3, 2, e.priv.toNat)]]]

/-! Class 0x0A (Table 14.8) -/

def ctrAt (c : Cmd) : Nat := fld (c.word 0) 9 0
def ctrCount (c : Cmd) : Nat := fld (c.word 0) 22 16

/-- The counter a COUNTER_SET writes: that of the word, or the first that fits. -/
def ctrPick (s : State) (c : Cmd) : Option Nat :=
  if flag (c.word 0) 63 then
    (List.range 1024).find? fun i => !flag (s.counterCfg i).1 47 && !(flag (c.word 1) 46 && decide (i % 2 = 0)) && s.homeSuits i (c.word 1, c.word 2)
  else some (ctrAt c)

/-- COUNTER_CLEAR of one counter, or of a chained pair. -/
def clearOne (c : Cmd) (s : State) (k : Nat) : State :=
  let zero (s : State) (i : Nat) : State := s.setCounter i { s.counter i with live := 0 }
  let i := ctrAt c + k
  let upper := i - i % 2 + 1
  let t := zero s i
  if flag (t.counterCfg upper).1 46 then zero (zero t (upper - 1)) upper else t

noncomputable def rows10 : List OpRow :=
  [{ instr := .counterSet, spec := fun _ _ => setting 0x0A 0x01 OPR [maskOf [(63, 63), (9, 0)], counterMask1, counterMask2],
     bad := fun s c =>
       let any := flag (c.word 0) 63
       let w1 := c.word 1
       let sel := fld w1 63 48
       let was := (s.counterCfg (ctrAt c)).1
       let badChain := flag w1 46 &&
         ((!any && decide (ctrAt c % 2 = 0)) || flag w1 40 || (!any && flag was 46 && decide (fld was 63 48 ≠ sel)))
       [(any && decide (ctrAt c ≠ 0), 0), (!selectListed sel || badChain, 1),
        (if flag w1 40 then decide (fld (c.word 2) 31 0 ≠ 0) else !objectForm sel (fld (c.word 2) 31 0), 2)],
     can := fun s c => (ctrPick s c).any fun i => s.homeSuits i (c.word 1, c.word 2),
     eff := fun s c =>
       let i := (ctrPick s c).getD 0
       ({ s with cfg.ev.counters := s.cfg.ev.counters.put (0, 0) i (c.word 1, c.word 2) }, [BitVec.ofNat 64 i]) },
   { instr := .counterGet, spec := fun _ _ => plainOp 0x0A 0x02 TEN [maskOf [(9, 0)]], own := fun s c => s.counterOwn c (ctrAt c) 1,
     eff := fun s c =>
       let i := ctrAt c
       (s, [(s.counterCfg i).1, (s.counterCfg i).2, (s.counter i).live.setWidth 64, (s.counter i).snap.setWidth 64]) },
   { instr := .counterRead, spec := fun _ _ => plainOp 0x0A 0x03 TEN [maskOf [(32, 32), (22, 16), (9, 0)]],
     bad := fun _ c => [(badCounterRange c, 0)], own := fun s c => s.counterOwn c (ctrAt c) (ctrCount c),
     eff := fun s c => (s, (List.range (ctrCount c)).map fun k =>
       (if flag (c.word 0) 32 then (s.counter (ctrAt c + k)).snap else (s.counter (ctrAt c + k)).live).setWidth 64) },
   acts .counterClear (plainOp 0x0A 0x04 OPR [maskOf [(22, 16), (9, 0)]]) (fun c => [(badCounterRange c, 0)]) always
     (fun s c => (List.range (ctrCount c)).foldl (clearOne c) s),
   acts .filterSet (setting 0x0A 0x07 OPR [maskOf [(2, 0)], maskOf [(63, 54), (52, 20)], allBits])
     (fun c => [(flag (c.word 1) 62 && decide (c.word 2 ≠ 0), 2)]) always
     (fun s c => { s with cfg.ev.filters := s.cfg.ev.filters.put (0, 0) (fld (c.word 0) 2 0) (c.word 1, c.word 2) }),
   reads .filterGet 0x0A 0x08 OPR [maskOf [(2, 0)]] noBad fun s c =>
     [(s.cfg.ev.filters.look (0, 0) (fld (c.word 0) 2 0)).1, (s.cfg.ev.filters.look (0, 0) (fld (c.word 0) 2 0)).2],
   acts .userSlotSet (setting 0x0A 0x09 SUP [maskOf [(3, 0)], maskOf [(63, 63), (11, 0)]]) noBad always
     (fun s c => { s with cfg.ev.slots := s.cfg.ev.slots.put 0 (fld (c.word 0) 3 0) (c.word 1) }),
   acts .wordTraceSet (plainOp 0x0A 0x0A OPR [maskOf [(3, 0)], maskOf [(16, 16), (12, 8), (0, 0)]])
     (fun c => [(decide (13 < fld (c.word 0) 3 0), 0), (decide (fld (c.word 1) 12 8 < 8 ∨ 24 < fld (c.word 1) 12 8), 1)]) always
     (fun s c =>
        let p := fld (c.word 0) 3 0
        let x := { s.tracePort p with en := flag (c.word 1) 0, k := fld (c.word 1) 12 8 }
        { s with ev.tracePorts := s.ev.tracePorts.put TracePort.reset p x, ev.traceStop := flag (c.word 1) 16 }),
   reads .traceRead 0x0A 0x0B OPR [maskOf [(38, 0)]] (fun c => [(decide (fld (c.word 0) 38 32 = 0 ∨ 64 < fld (c.word 0) 38 32), 0)]) fun s c =>
     let first := fld (c.word 0) 31 0
     let l := (s.ev.traces.filter fun r => decide (first ≤ r.index.toNat)).take (fld (c.word 0) 38 32)
     mkWord [(38, 32, l.length), (31, 0, match l with | r :: _ => r.index.toNat | [] => first)] :: l.flatMap s.traceWords,
   acts .traceClear (plainOp 0x0A 0x0C OPR []) noBad always (fun s _ => { s with ev.traces := [], ev.traceFull := false })]

/-- SNAPSHOT and COUNTER_DUMP reply when the copy is done (R472, R473). -/
noncomputable def later10 : List LaterRow :=
  [{ instr := .snapshot, spec := plainOp 0x0A 0x05 OPR [], eff := fun s _ => { s with ev.snapReq := true },
     waits := fun s _ => .snapshot ((s.ev.snapSeq.toNat + (if s.ev.snapRunning then 3 else 2)) % 2 ^ 32) },
   { instr := .counterDump, spec := plainOp 0x0A 0x06 OPR [maskOf [(0, 0)], allBits], bad := fun c => [(decide (fld (c.word 1) 2 0 ≠ 0), 1)],
     can := fun _ c => decide (c.port.val < 2), eff := fun s _ => s,
     waits := fun _ c => if flag (c.word 0) 0 then .counterDump (c.word 1) else .counterWrite (c.word 1) }]

/-! Class 0x0B (Table 15.9) -/

noncomputable def rows11 : List OpRow :=
  [{ instr := .memStatus, spec := fun _ _ => plainOp 0x0B 0x01 OPR [maskOf [(3, 0)]], bad := fun _ c => [(decide (8 < fld (c.word 0) 3 0), 0)],
     eff := fun s c =>
       let k := s.storeCounts (fld (c.word 0) 3 0)
       let p := s.scrubPass (fld (c.word 0) 3 0)
       (p.2, [BitVec.ofNat 64 k.ce, BitVec.ofNat 64 k.ue, BitVec.ofNat 64 k.poisonReads, BitVec.ofNat 64 k.poisonWrites, p.1,
         BitVec.ofNat 64 k.qbCarried]) },
   reads .memErrLog 0x0B 0x02 OPR [] noBad fun s _ =>
     BitVec.ofNat 64 s.mem.errLog.length ::
       s.mem.errLog.reverse.flatMap fun e => [e.fn.setWidth 64, mkWord [(63, 32, e.info.toNat), (31, 0, e.addr.toNat)]],
   reads .journalStatus 0x0B 0x03 OPR [] noBad fun s _ =>
     [mkWord [(63, 32, s.jr.superSeq), (31, 0, s.journalStat.toNat)], mkWord [(39, 0, s.jr.lastSeq)], mkWord [(10, 0, s.jr.keys.length)],
      mkWord [(31, 0, s.jr.powerFailCount)]],
   { instr := .journalRead, spec := fun _ _ => plainOp 0x0B 0x05 SUP [maskOf [(25, 20), (18, 0)]],
     bad := fun _ c => [(decide (fld (c.word 0) 25 20 = 0 ∨ 65536 < fld (c.word 0) 18 0 + fld (c.word 0) 25 20), 0)],
     eff := fun s c =>
       let r := s.journalWords (fld (c.word 0) 18 0) (fld (c.word 0) 25 20)
       (r.2, r.1) },
   { instr := .memInject, spec := fun _ _ => plainOp 0x0B 0x07 SUP [maskOf [(15, 8), (5, 4), (3, 0)], maskOf [(31, 0)]],
     bad := fun s c => [(decide (8 < fld (c.word 0) 3 0 ∨ fld (c.word 0) 5 4 = 0 ∨ 71 < fld (c.word 0) 15 8), 0),
       (decide (s.storeSize (fld (c.word 0) 3 0) ≤ fld (c.word 1) 31 0), 1)],
     can := fun _ c => !decide (fld (c.word 0) 3 0 = 7 ∨ fld (c.word 0) 3 0 = 8),
     eff := fun s c =>
       let st := fld (c.word 0) 3 0
       let a := fld (c.word 1) 31 0
       ({ s with mem.injects := s.mem.injects.filter (fun i => !(decide (i.store = st) && decide (i.addr = a))) ++
                   [⟨st, a, fld (c.word 0) 5 4, fld (c.word 0) 15 8⟩] }, []) }]

/-- JOURNAL_COMPACT replies when the compaction ends (R506). -/
noncomputable def later11 : List LaterRow :=
  [{ instr := .journalCompact, spec := plainOp 0x0B 0x04 OPR [], can := fun s _ => !s.jr.compacting, eff := fun s _ => s.compactBegin,
     waits := fun _ _ => .journalCompact }]

/-! Class 0x0C (Table 16.9) -/

noncomputable def rows12 : List OpRow :=
  [acts .pairSet { plainOp 0x0C 0x01 SUP [0, pairCfgMask] with jrn := 2 }
     (fun c => [(decide (3600 < fld (c.word 1) 59 48 ∨ fld (c.word 1) 47 32 < 100 ∨ 10000 < fld (c.word 1) 47 32), 1)])
     (fun s c => !(s.paired && !flag (c.word 1) 63 && s.pair.token && decide (s.pair.peer.state = 2)))
     (fun s c =>
        let t : State := { s with cfg.pair := c.word 1 }
        if flag (c.word 1) 63 && !s.paired then (if t.pair.mateUp then t.role (if t.pair.token then .active else .syncing) 0 else t)
        else if !flag (c.word 1) 63 && s.paired then
          State.role { t.abandonHand with pair.claimCause := if t.pair.token then 0 else 1, pair.bootWaitEnd := none } .alone 0
        else t),
   reads .pairGet 0x0C 0x02 OPR [] noBad fun s _ => [s.cfg.pair],
   reads .pairStatus 0x0C 0x03 OPR [] noBad fun s _ =>
     [s.pairStat.setWidth 64, s.pair.phase.setWidth 64, mkWord [(39, 0, if s.pair.token then s.pair.mirrorSent else s.pair.mirrorRecv)],
      mkWord [(39, 0, if s.pair.token then s.pair.mirrorAcked else s.pair.mirrorRecv)], mkWord [(31, 0, s.pair.outOfStep.length)], s.pair.peer.w0],
   acts .pairHold (plainOp 0x0C 0x05 OPR [0, maskOf [(1, 0)]]) noBad always
     (fun s c => { s with pair.holdHandback := flag (c.word 1) 0, pair.lockStandby := flag (c.word 1) 1 }),
   acts .pairResync (plainOp 0x0C 0x06 SUP []) noBad (fun s _ => !s.pair.token)
     (fun s _ =>
        let t : State := { s with pair.resyncAsked := true, pair.image := false, pair.mirrorRecv := 0 }
        if s.paired && s.pair.mateUp then t.setStale else t)]

/-- The FN a PAIR_SWITCH proposes: that asked for, or 16 frames ahead (R522). -/
def switchFn (s : State) (c : Cmd) : Nat := if fld (c.word 1) 47 0 = 0 then (fnAdd s.tick.fn 16).toNat else fld (c.word 1) 47 0

/-- PAIR_FORCE replies after the tick (R526). -/
noncomputable def later12 : List LaterRow :=
  [{ instr := .pairForce, spec := plainOp 0x0C 0x07 SUP [0, maskOf [(0, 0)]],
     can := fun s c => !flag (c.word 1) 0 || !((s.pair.mateUp && decide (s.pair.peer.state = 3)) || s.pair.standbyHold),
     eff := fun s c =>
       if flag (c.word 1) 0 then { s with pair.force := some true }
       else
         let t := s.abandonHand
         { (if t.pair.token && t.letGo.paired then t.letGo.role .standby 6 else t.letGo) with pair.force := some false },
     waits := fun _ _ => .pairForce }]

/-- PAIR_SWITCH proposes a handover and replies when it has taken place (R522). -/
def SwitchProposes : Prop :=
  ∀ s c, Accepts s c (plainOp 0x0C 0x04 OPR [0, maskOf [(47, 0)]]) [(!s.handInTime (switchFn s c) s.fnNat, 1)] →
    s.pair.hand = none → s.pair.mode = .active → s.pair.mateUp = true → s.pair.peer.healthy = true → s.slotsFull c.port = false →
    exec (.pairSwitch c) s = .next { s with
      pair.hand := some (switchFn s c), pair.handGive := true, pair.handAgreed := false, pair.handFrom := s.now, pair.handCause := 3,
      pair.handCode := 1, cmd.deferred := s.cmd.deferred ++ [⟨c, 0x0C, 0x04, .pairSwitch, none⟩] }

/-! Class 0x0D (Table 17.10) -/

noncomputable def rows13 : List OpRow :=
  [acts .pwrSet (setting 0x0D 0x02 SUP [0, powerCfgMask])
     (fun c => [((flag (c.word 1) 62 && !flag (c.word 1) 63) || decide (2 ≤ fld (c.word 1) 61 60) ||
        decide (fld (c.word 1) 55 46 < 10 ∨ 1000 < fld (c.word 1) 55 46), 1)]) always
     (fun s c => { s with cfg.power.power := c.word 1 }),
   reads .pwrGet 0x0D 0x03 OPR [] noBad fun s _ => [s.cfg.power.power],
   acts .wakeSet (setting 0x0D 0x04 SUP [0, maskOf [(39, 0)], allBits, allBits, maskOf [(63, 60)]]) noBad always
     (fun s c => { s with cfg.power.wake0 := c.word 1, cfg.power.wake1 := c.word 2, cfg.power.wake2 := c.word 3, cfg.power.wake3 := c.word 4 }),
   reads .wakeGet 0x0D 0x05 OPR [] noBad fun s _ => [s.cfg.power.wake0, s.cfg.power.wake1, s.cfg.power.wake2, s.cfg.power.wake3],
   { instr := .pwrStatus, spec := fun _ _ => plainOp 0x0D 0x06 OPR [],
     eff := fun s _ => (s.takeFree.2, [mkWord [(63, 32, s.pwr.wakeStatus.toNat), (31, 0, s.pwrStat.toNat)], s.takeFree.1 &&& maskOf [(31, 0)]]) },
   reads .wakeLog 0x0D 0x07 OPR [] noBad fun s _ => BitVec.ofNat 64 s.pwr.wakeLog.length :: s.pwr.wakeLog.flatMap fun e => [e.1, e.2],
   reads .sleepGapGet 0x0D 0x08 OPR [] noBad fun s _ =>
     let g := s.pwr.sleep
     [mkWord [(63, 56, g.stretches.length - 1), (53, 52, g.longest), (50, 48, g.fnSrc.toNat), (47, 0, g.fn.toNat)], BitVec.ofNat 64 g.ticks,
      BitVec.ofNat 64 g.ns, mkWord [(31, 0, Nat.min (g.u / 1000) 0xFFFF_FFFF)]],
   acts .voscCtrl (plainOp 0x0D 0x09 SUP [0, maskOf [(0, 0)]]) noBad (fun s _ => s.pwr.voscLatched)
     (fun s c => if flag (c.word 1) 0 then s.voscStart else s),
   reads .firkinCheck 0x0D 0x0A OPR [] noBad fun s _ =>
     let e := s.essentialSet
     let inSet (x : Eid) : Bool :=
       match eidKind x with
       | .line => e.lanes.getLsbD (eidPort x)
       | .trib => e.ports.getLsbD (eidTrib x)
       | .queue => e.queues.contains (eidQid x)
       | .mate => s.mateNeeded
       | _ => true
     let out := e.conns.filter fun i => [(s.cfg.b.connAt i).a, (s.cfg.b.connAt i).z].any fun x => !eidNull x && !inSet x
     let groups := (s.cfg.b.prot.pg.map (·.1)).filter (s.groupKeeps e)
     let pairs := (s.cfg.b.prot.lp.map (·.1)).filter fun n => match s.cfg.b.lp n with | some w => e.lanes.getLsbD (lpWork w) | none => false
     [mkWord [(10, 10, s.mateNeeded.toNat), (9, 9, s.pktNeeded.toNat), (8, 8, (decide (e.ports ≠ 0)).toNat), (7, 0, e.quintets.toNat)],
      mkWord [(63, 32, out.length), (31, 0, e.conns.length)], mkWord [(31, 0, groups.length + pairs.length)]],
   acts .wakeSend (plainOp 0x0D 0x0B OPR [maskOf [(5, 0)]])
     (fun c => [(decide (fld (c.word 0) 5 0 = 40 ∨ 45 < fld (c.word 0) 5 0), 0)])
     (fun s c => decide (fld (c.word 0) 5 0 = 41) || !s.burstTaken (fld (c.word 0) 5 0))
     (fun s c => s.emit (.wakeBurst (fld (c.word 0) 5 0) 0))]

/-- PWR_STATE to the state the device is in answers at once; to the other of Run and Firkin it replies after the transition (R531, R535). -/
def pwrSpec : OpSpec := plainOp 0x0D 0x01 SUP [0, maskOf [(1, 0)]]

def PowerStateMoves : Prop :=
  ∀ s c, Accepts s c pwrSpec [(decide (fld (c.word 1) 1 0 = 3), 1)] → fld (c.word 1) 1 0 ≠ 2 → s.pwr.mode = .run ∨ s.pwr.mode = .firkin →
    (s.pwr.goal = none → decide (s.pwr.mode = .firkin) = decide (fld (c.word 1) 1 0 = 1) →
      exec (.pwrState c) s = .next (s.answer c 0x0D 0x01 stOk 0 [s.tick.fn.setWidth 64])) ∧
    (decide (s.pwr.mode = .firkin) ≠ decide (fld (c.word 1) 1 0 = 1) → s.slotsFull c.port = false →
      exec (.pwrState c) s = .next { s with
        pwr.goal := some (decide (fld (c.word 1) 1 0 = 1)), cmd.deferred := s.cmd.deferred ++ [⟨c, 0x0D, 0x01, .pwrState, none⟩] })

/-! Class 0x0E (Table 18.11) -/

noncomputable def rows14 : List OpRow :=
  [acts .sysReset (plainOp 0x0E 0x01 SUP [0, maskOf [(0, 0)]]) noBad
     (fun s c => flag (c.word 1) 0 || !s.pair.token || (s.pair.mateUp && s.pair.peer.healthy))
     (fun s _ => { s with boot.resetAt := some (s.now + 80) }),
   reads .resetLog 0x0E 0x02 OPR [] noBad fun s _ => BitVec.ofNat 64 s.jr.kept.resets.length :: s.jr.kept.resets.reverse.flatMap resetWords,
   acts .wdtSet (setting 0x0E 0x03 SUP [0, maskOf [(13, 0)]]) (fun c => [(decide (fld (c.word 1) 13 0 < 100 ∨ 10000 < fld (c.word 1) 13 0), 1)]) always
     (fun s c => { s with cfg.boot.wdtMs := BitVec.ofNat 14 (fld (c.word 1) 13 0) }),
   acts .tamperSet (setting 0x0E 0x04 SUP [maskOf [(1, 0)], maskOf [(31, 30), (25, 16), (5, 0)]])
     (fun c => [(decide (fld (c.word 1) 25 16 = 0 ∨ 1000 < fld (c.word 1) 25 16), 1)]) always
     (fun s c =>
        let w : Half := BitVec.ofNat 32 (fld (c.word 1) 31 0) ||| 1
        { s with cfg.boot.tamper := s.cfg.boot.tamper.put tamperCfgReset (fld (c.word 0) 1 0) w }),
   reads .tamperGet 0x0E 0x05 OPR [maskOf [(1, 0)]] noBad fun s c =>
     let n := fld (c.word 0) 1 0
     [mkWord [(33, 33, (decide (s.jr.kept.locks.look 0 n ≠ 0)).toNat), (32, 32, (s.boot.tamperActive.getLsbD n).toNat),
       (31, 0, (s.cfg.boot.tamper.look tamperCfgReset n).toNat)]],
   acts .tamperClear (plainOp 0x0E 0x06 SUP [0, maskOf [(3, 0)]]) noBad always
     (fun s c => (List.range 4).foldl (fun s n => if flag (c.word 1) n then (s.setLocks n 0).logTamper 6 n false 0 0 else s) s),
   reads .tamperLog 0x0E 0x07 OPR [maskOf [(15, 0)]] (fun c => [(decide (fld (c.word 0) 15 9 = 0 ∨ 64 < fld (c.word 0) 15 9), 0)]) fun s c =>
     BitVec.ofNat 64 s.jr.kept.tamperCount ::
       (((s.jr.kept.tamperLog.reverse.drop (fld (c.word 0) 8 0)).take (fld (c.word 0) 15 9)).flatMap fun e => [e.w0, e.w1, e.w2, e.w3]),
   reads .captureStatus 0x0E 0x09 OPR [] noBad fun s _ =>
     match s.jr.kept.capture with
     | some x => [mkWord [(63, 32, x.count.toNat), (31, 0, x.seq.toNat)], x.fn.setWidth 64]
     | none => [0, 0],
   acts .recSet (setting 0x0E 0x0A SUP [0, maskOf [(1, 0)]]) (fun c => [(decide (fld (c.word 1) 1 0 = 3), 1)]) always
     (fun s c => { s with cfg.boot.recLock := BitVec.ofNat 2 (fld (c.word 1) 1 0) })]

/-- FW_STAGE of a sound image of the command rings: the idle slot is being written (R585). -/
def StageBegins : Prop :=
  ∀ s c image, Accepts s c (plainOp 0x0E 0x0B SUP [0, allBits, maskOf [(31, 0)]]) [] → c.port.val < 2 → s.boot.flashBusy = false →
    (parseImage s.ident.keyHash (image.take (fld (c.word 2) 31 0))).code s.jr.kept.svnMin = 0 → s.slotsFull c.port = false →
    exec (.fwStage c image) s = .next { s with
      boot.flashBusy := true, boot.staged := some (parseImage s.ident.keyHash (image.take (fld (c.word 2) 31 0))),
      cmd.deferred := s.cmd.deferred ++ [⟨c, 0x0E, 0x0B, .fwStage, none⟩] }

/-- RETURN_CAPTURE takes a deferred slot, writes the capture and, asked to, zeroises (R583, R584). -/
def CaptureRuns : Prop :=
  ∀ s c, Accepts s c (plainOp 0x0E 0x08 SUP ([0, maskOf [(9, 0)]] ++ List.replicate 8 allBits)) [] →
    (s.pair.token = false ∨ flag (c.word 1) 9 = true) → s.slotsFull c.port = false →
    exec (.returnCapture c) s = .next (State.capture { s with
        cmd.deferred := s.cmd.deferred ++ [⟨c, 0x0E, 0x08, .returnCapture, none⟩] }
      (fld (c.word 1) 7 0) (flag (c.word 1) 8) (c.words.drop 2))

/-! Class 0x0F (Table 14.9) -/

noncomputable def rows15 : List OpRow :=
  [reads .eventRead 0x0F 0x01 OPR [maskOf [(39, 0)]] (fun c => [(decide (fld (c.word 0) 39 32 = 0 ∨ 128 < fld (c.word 0) 39 32), 0)]) fun s c =>
     let first := fld (c.word 0) 31 0
     let next := s.jr.nextIdx.toNat
     let start := Nat.max first s.jr.oldest
     let count := Nat.min (fld (c.word 0) 39 32) (next - start)
     if next ≤ first then [mkWord [(31, 0, first)]]
     else mkWord [(40, 40, (decide (first < s.jr.oldest)).toNat), (39, 32, count), (31, 0, start)] :: (List.range count).flatMap fun k =>
       [(s.jr.devLog.look ⟨0, 0⟩ ((start + k) % 4096)).w0, (s.jr.devLog.look ⟨0, 0⟩ ((start + k) % 4096)).w1],
   reads .eventLogStatus 0x0F 0x02 OPR [] noBad fun s _ =>
     [mkWord [(63, 32, s.jr.oldest), (31, 0, s.jr.nextIdx.toNat)], mkWord [(31, 0, s.ev.lost)]],
   { instr := .evicRegRead, spec := fun _ _ => plainOp 0x0F 0x03 OPR [maskOf [(20, 0)]],
     bad := fun _ c =>
       let n := fld (c.word 0) 20 16
       [(decide (n = 0 ∨ 16 < n) || badEvicOff (fld (c.word 0) 15 0) n, 0)],
     eff := fun s c =>
       let r := (List.range (fld (c.word 0) 20 16)).foldl (fun (a : List Half × State) k =>
         ((a.1 ++ [(a.2.evicRead (fld (c.word 0) 15 0 + 4 * k)).1]), (a.2.evicRead (fld (c.word 0) 15 0 + 4 * k)).2)) ([], s)
       (r.2, pairHalves r.1) },
   { instr := .evicRegWrite, spec := fun _ _ => plainOp 0x0F 0x04 OPR [maskOf [(15, 0)], maskOf [(31, 0)]],
     bad := fun _ c => [(badEvicOff (fld (c.word 0) 15 0) 1, 0)],
     can := fun _ c => (evicPriv (fld (c.word 0) 15 0)).any fun p => decide (p ≤ c.rank),
     eff := fun s c => (s.evicWrite (fld (c.word 0) 15 0) (BitVec.ofNat 32 (fld (c.word 1) 31 0)), []) }]

/-! Commands of the host, the lines and the clock -/

/-- A row of a command that is no packet: the operands it carries, the states in which it has its own effect, and that effect. -/
structure EvRow where
  α : Type
  instr : α → Instr
  can : State → α → Bool
  eff : State → α → State

def EvRow.completes (r : EvRow) : Prop := ∀ s a, r.can s a = true → exec (r.instr a) s = .next (r.eff s a)

/-! Register writes (R416, R429, R430) -/

/-- The state a write reaches its register in: its master is the one served last (R431). -/
def servedBy (s : State) (w : RegW) : State :=
  if w.master.toNat = 1 then s else { s with host.matrix.lastServed := w.master.toNat }

/-- A dword write of a register at an offset reaches it: the device is awake, its master may write now and waits for nothing, no lock keeps the
registers, the matrix lets the access go, and its privilege and ownership suffice. -/
def regCan (s : State) (off : Nat) (w : RegW) : Bool :=
  let m := w.master.toNat
  let x := s.host.matrix
  let t := servedBy s w
  w.full && s.awake && !x.stalled.getLsbD m && !(s.boot.frozen && decide (m < 2)) && (s.lockOf 6).isNone &&
    !(x.waiting.any fun y => decide (y.master = w.master)) && (hostOf m).all (fun b => !s.barHole b off) &&
    decide (t.matrixJudge m 0 6 off 4 true false false (t.privOf m) = (.go, t)) && (t.privOf m).all (fun h => (regPriv off).any fun p => decide (p ≤ h)) &&
    (regPriv off).isSome && regOwned m off

/-- Of a row that writes the register at `off`: what the write does to the state it reaches its register in. -/
def writesReg (β : Type) (instr : β → RegW → Instr) (off : β → Nat) (can : State → β → RegW → Bool) (eff : State → β → RegW → State) : EvRow :=
  { α := β × RegW, instr := fun a => instr a.1 a.2, can := fun s a => regCan s (off a.1) a.2 && can (servedBy s a.2) a.1 a.2,
    eff := fun s a => eff (servedBy s a.2) a.1 a.2 }

/-- A host writes the channels 4 to 7 of its own port; every other master writes any channel. -/
def mayWriteChan (s : State) (c : Nat) (w : RegW) : Bool :=
  (hostOf w.master.toNat).isNone || (decide (4 ≤ c) && decide ((s.chan c).portB = decide (w.master.toNat = 5)))

noncomputable def regRows : List EvRow :=
  [writesReg Unit (fun _ => .stepArm) (fun _ => 0x20) (fun _ _ _ => true) (fun s _ w => s.setTickCtrl w.value),
   writesReg Unit (fun _ => .slewEn) (fun _ => 0x20) (fun _ _ _ => true) (fun s _ w => s.setTickCtrl w.value),
   writesReg Unit (fun _ => .snapReq) (fun _ => 0x60) (fun _ _ w => flag w.value 0) (fun s _ _ => { s with ev.snapReq := true }),
   writesReg Unit (fun _ => .eccErrClear) (fun _ => 0x74) (fun _ _ w => flag w.value 31)
     (fun s _ _ => { s with mem.eccInfo := 0, mem.eccAddr := 0 }),
   writesReg Unit (fun _ => .matrixCtrlWrite) (fun _ => 0x6000) (fun s _ _ => !s.host.matrix.ctrlLocked)
     (fun s _ w =>
        let v := w.value
        let keep (hi lo : Nat) : Nat := if fld v hi lo = 3 then fld s.host.matrix.ctrl hi lo else fld v hi lo
        { s with host.matrix.ctrl := mkHalf [(5, 4, keep 5 4), (3, 2, keep 3 2), (0, 0, fld v 0 0)], host.matrix.ctrlLocked := true }),
   writesReg Unit (fun _ => .matrixErrClear) (fun _ => 0x6010) (fun _ _ w => flag w.value 31)
     (fun s _ _ => { s with host.matrix.errInfo := 0, host.matrix.errAddr := 0 }),
   writesReg (Fin 64) .doorbell (fun r => 0x100 + 4 * r.val) (fun _ _ _ => true) (fun s r w => s.doorbell w.master.toNat r.val w.value),
   writesReg (Fin 512) .evicSrcWrite (fun n => 0x8000 + 4 * n.val) (fun _ _ _ => true) (fun s n w => s.evicWrite (0x8000 + 4 * n.val) w.value),
   writesReg (Fin 4) .tgtEoi (fun t => 0x9004 + 0x40 * t.val) (fun _ _ _ => true) (fun s t w => s.evicWrite (0x9004 + 0x40 * t.val) w.value),
   writesReg Unit (fun _ => .evicSoft) (fun _ => 0x8880) (fun _ _ _ => true) (fun s _ w => s.evicWrite 0x8880 w.value),
   writesReg (Fin 64) .ringEnable (fun r => ringCfgOff r.val) (fun _ _ w => flag w.value 27)
     (fun s r w => s.writeRingCfg w.master.toNat r.val (ringCfgOff r.val) w.value),
   writesReg (Fin 64) .ringDisable (fun r => ringCfgOff r.val) (fun _ _ w => !flag w.value 27)
     (fun s r w => s.writeRingCfg w.master.toNat r.val (ringCfgOff r.val) w.value),
   writesReg (Fin 8 × Option (List Word)) (fun a w => .chStart a.1 w a.2) (fun a => chCtrlOff a.1.val)
     (fun s a w => decide ((s.chan a.1.val).mode = .idle) && decide (fld w.value 2 0 = 1) && mayWriteChan s a.1.val w)
     (fun s a _ => s.chanStart a.1.val a.2),
   writesReg (Fin 8) .chAbort (fun c => chCtrlOff c.val)
     (fun s c w => decide ((s.chan c.val).mode ≠ .idle) && decide (fld w.value 2 0 = 2) && mayWriteChan s c.val w)
     (fun s c _ => s.chanAbort c.val),
   writesReg (Fin 8) .chDoorbell (fun c => chCtrlOff c.val)
     (fun s c w => decide (fld w.value 2 0 = 4) && mayWriteChan s c.val w)
     (fun s c _ => s.setChan c.val { s.chan c.val with doorbell := true }),
   { α := RegW × List Byte, instr := fun a => .bootGo a.1 a.2,
     can := fun s a => regCan s 0x94 a.1 && flag a.1.value 0, eff := fun s a => (servedBy s a.1).bootGo a.2 },
   { α := RegW, instr := fun w => .registerWrite (regBus 0x90 w none), can := fun s w => regCan s 0x90 w,
     eff := fun s w => { servedBy s w with boot.bootLen := w.value } }]


/-! The frame tick (02_frame_tick.md) -/

/-- The effect of a register read on its master: the value, and what the read changes. -/
def readEff (s : State) (v : Half) : State := s.emit (.regRead (v.setWidth 64))

def tickRows : List EvRow :=
  [{ α := TickIn, instr := .frameTick, can := fun s t => s.awake && t.stages.isEmpty && s.tick.slipCauses.isEmpty && s.tick.stepKnown.isNone,
     eff := fun s t =>
       let s := s.frameEnds t
       let given := s.given t.traffic
       let mismatch := s.tick.slipCauses.contains 4
       let s : State := { s with tick.slipCauses := s.tick.slipCauses ++ [] }
       let slip := !s.tick.slipCauses.isEmpty
       let s := ((s.loadFrame (match s.tick.stepKnown with | some r => r.short | none => false)).slew s.tick.stepKnown.isSome).fnAdvance
       let s : State := { s with now := s.now + 1, tick.cycle := 0, tick.grainBank := !s.tick.grainBank,
                                 tick.refreshRow := s.tick.refreshRow + BitVec.ofNat 10 4860 }
       let s := (((s.slip.flipTick slip).grainFrame given).stagesTick [] mismatch).protTick
       (((((((s.alignTick.vcatTick).captureTick).snapSample).pwrTick).pairTick).wdtPeriod.secondTick).ppsTick).resetDue },
   { α := Unit, instr := fun _ => .flipCheck, can := fun s _ => s.awake,
     eff := fun s _ => ({ s with tick.cycle := 97000 } : State).flipCheckMaps.protEvaluate.alignEvaluate },
   { α := Bushel, instr := fun _ => .loadBegin,
     can := fun s b => decide (s.tick.copyLeft = 0) && !s.loaderBusy && !s.boot.frozen && decide (s.nextLoad = some b) && !s.mirroring,
     eff := fun s b => { s.setBushel { b with mode := .loading, flipFn := if b.scheduled then b.s else fnAdd s.tick.fn b.l } with
       tick.loading := some b.id, tick.loadLeft := b.l } },
   { α := Bushel, instr := fun _ => .loadDone,
     can := fun s b => decide (s.tick.loading = some b.id) && decide (s.tick.loadLeft ≤ 1) && decide (s.bushel b.id = some b),
     eff := fun s b => { s.setBushel { b with mode := .loaded } with tick.loading := none, tick.loadLeft := 0 } },
   { α := Unit, instr := fun _ => .copyForwardDone, can := fun s _ => decide (s.tick.copyLeft = 1),
     eff := fun s _ =>
       let settled (b : Bushel) : Bushel := if b.mode = .flipped then { b with mode := .settled } else b
       { s with tick.copyLeft := 0, bush.list := s.bush.list.map settled } },
   { α := BitVec 48 × Nat × Bool, instr := fun a => .frameStep 1 (some a.1) a.2.1 a.2.2,
     can := fun s _ => s.awake && s.tick.stepKnown.isNone && decide (s.tick.fnSrc = 0) && s.tim.timeCand.isSome,
     eff := fun s a => { s with tick.stepKnown := some ⟨1, some a.1, a.2.2⟩, tick.slipCauses := s.tick.slipCauses ++ [1] } },
   { α := Option (BitVec 48) × Nat × Bool, instr := fun a => .frameStep 3 a.1 a.2.1 a.2.2,
     can := fun s a => s.awake && s.tick.stepKnown.isNone && s.tick.stepArm && s.tim.timeCand.isSome && decide (1000 < a.2.1),
     eff := fun s a => { s with tick.stepArm := false, tick.stepKnown := some ⟨3, a.1, a.2.2⟩, tick.slipCauses := s.tick.slipCauses ++ [3] } },
   { α := Unit, instr := fun _ => .stepArmLapse, can := fun s _ => s.tick.stepArm && s.due s.tick.stepArmEnd,
     eff := fun s _ => { s with tick.stepArm := false } },
   { α := BitVec 3, instr := .fnLoRead, can := fun s m => s.regReadable m.toNat 0x10,
     eff := fun s m =>
       let s := s.filterAccess m.toNat 6 0x10 false none
       readEff { s with tick.fnHi := BitVec.ofNat 16 (fld s.tick.fn 47 32) } (s.tick.fn.setWidth 32) },
   { α := BitVec 3, instr := .lastFlipLoRead, can := fun s m => s.regReadable m.toNat 0x28,
     eff := fun s m =>
       let s := s.filterAccess m.toNat 6 0x28 false none
       readEff { s with tick.lastFlipHi := BitVec.ofNat 16 (fld s.tick.lastFlip 47 32) } (s.tick.lastFlip.setWidth 32) },
   { α := BitVec 3, instr := .tickStatusRead, can := fun s m => s.regReadable m.toNat 0x18,
     eff := fun s m =>
       let s := s.filterAccess m.toNat 6 0x18 false none
       readEff { s with tick.slipCount := 0 } s.tickStatus }]

/-! Lanes and ports (03_lanes_ports.md) -/

def lineRows : List EvRow :=
  [{ α := Fin 40, instr := .laneConfigDone, can := fun s n => (s.lane n.val).config,
     eff := fun s n => (s.setLane n.val { s.lane n.val with config := false }).raise
       { src := 0x031, code := (s.lane n.val).cdrLocked.toNat, obj := n.val } },
   { α := Fin 40 × Nat, instr := fun a => .signalLevelChange a.1 a.2,
     can := fun s a => s.detecting a.1.val && decide (a.2 < 30 + 15 * fld (s.laneCfg a.1.val) 37 35),
     eff := fun s a => (s.setLane a.1.val { s.lane a.1.val with sigLow := true }).detectors a.1.val },
   { α := Fin 40 × Nat, instr := fun a => .signalLevelChange a.1 a.2,
     can := fun s a => s.detecting a.1.val && decide (141 * (30 + 15 * fld (s.laneCfg a.1.val) 37 35) < 100 * a.2),
     eff := fun s a => (s.setLane a.1.val { s.lane a.1.val with sigLow := false }).detectors a.1.val },
   { α := Fin 40 × Bool, instr := fun a => .transitionDetectChange a.1 a.2, can := fun s a => s.detecting a.1.val,
     eff := fun s a => (s.setLane a.1.val { s.lane a.1.val with noTrans := a.2 }).detectors a.1.val },
   { α := Fin 40 × Bool, instr := fun a => .cdrLockChange a.1 a.2, can := fun s a => s.detecting a.1.val,
     eff := fun s a => s.setLane a.1.val { s.lane a.1.val with cdrLocked := a.2 && !s.rawNoSignal a.1.val } },
   { α := Fin 40 × List Nat, instr := fun a => .laneActivity a.1 a.2,
     can := fun s a => decide (s.pwr.mode ≠ .gill) && (decide (s.laneRate a.1.val ≠ 0) || s.laneWakes a.1.val) && decide (8 ≤ a.2.length) &&
       (lastN 8 a.2).all fun w => decide (2 ^ (fld (s.laneCfg a.1.val) 34 32 + 2) ≤ w),
     eff := fun s a => (s.setLane a.1.val { s.lane a.1.val with active := true }).raiseIf (!(s.lane a.1.val).active)
       { src := 0x033, clr := false, code := 1, obj := a.1.val } },
   { α := Fin 40 × PcsCond, instr := fun a => .ethLinkDown a.1 a.2, can := fun _ _ => true,
     eff := fun s a => (s.setLane a.1.val { s.lane a.1.val with pcs := a.2 }).linkCheck a.1.val },
   { α := Fin 40 × PcsCond, instr := fun a => .ethLinkUp a.1 a.2,
     can := fun s a => (s.setLane a.1.val { s.lane a.1.val with pcs := a.2 }).linkConds a.1.val &&
       !(s.setLane a.1.val { s.lane a.1.val with pcs := a.2 }).linkUp a.1.val,
     eff := fun s a =>
       let t := s.setLane a.1.val { s.lane a.1.val with pcs := a.2 }
       (t.setLane a.1.val { t.lane a.1.val with linkUp := true }).raise { src := 0x030, code := 1, obj := a.1.val } },
   { α := Fin 40 × Bool × Nat, instr := fun a => .lanePrbsLock a.1 a.2.1 a.2.2, can := fun s a => decide ((s.lane a.1.val).chk ≠ 0),
     eff := fun s a =>
       let l := s.lane a.1.val
       let e := if l.chkLock then a.2.2 else 0
       ((s.setLane a.1.val { l with chkLock := a.2.1, patErrs := l.patErrs + e }).count 0x0105 a.1.val e).raiseIf (l.chkLock != a.2.1)
         { src := 0x032, clr := !a.2.1, code := a.2.1.toNat, obj := a.1.val } },
   { α := Fin 4 × MateLane, instr := fun a => .mateLaneChange a.1 a.2,
     can := fun s a => s.mateOn && decide ((s.mate a.1.val).locked ≠ a.2.locked),
     eff := fun s a =>
       let m := a.2
       let new : MateLane :=
         { s.mate a.1.val with locked := m.locked, identified := m.identified, deskewed := m.deskewed, partner := m.partner, inverted := m.inverted }
       (State.raise { s with line.mates := s.line.mates.put MateLane.reset a.1.val new } { src := 0x034, obj := a.1.val }).mateFollow },
   { α := Fin 64, instr := .tribClkLoss,
     can := fun s p => !(s.trib p.val).clkLoss && decide (s.tribMode p.val = 2) && s.tribOn p.val,
     eff := fun s p =>
       (((s.setTrib p.val { s.trib p.val with clkLoss := true, fallback := decide (s.tribTiming p.val = 1) }).count 0x0305 (portE1 p.val).toNat 1).raise
         { src := 0x035, code := 1, obj := p.val }).alignerStep p.val false 0 },
   { α := Fin 64, instr := .tribClkRestore, can := fun s p => (s.trib p.val).clkLoss,
     eff := fun s p => (s.setTrib p.val { s.trib p.val with clkLoss := false, fallback := false }).raise { src := 0x035, clr := true, obj := p.val } },
   { α := Fin 64 × Nat, instr := fun a => .tribTxSlip a.1 a.2,
     can := fun s a => decide (s.tribTiming a.1.val = 1) && decide (s.tribMode a.1.val ≠ 0) && !decide (64 ≤ a.2 ∧ a.2 ≤ 448),
     eff := fun s a => ((s.setTrib a.1.val { s.trib a.1.val with txSlips := (s.trib a.1.val).txSlips + 1 }).count 0x0304 (portE1 a.1.val).toNat 1).raise
       { src := 0x037, obj := a.1.val } },
   { α := Fin 64 × BitVec 8, instr := fun a => .tribAlignChange a.1,
     can := fun s a => decide ((s.trib a.1.val).phi0 = some a.2) && s.alignerOn a.1.val && !(s.trib a.1.val).aligned &&
       decide (64 ≤ (s.trib a.1.val).count),
     eff := fun s a => (s.setTrib a.1.val { s.trib a.1.val with aligned := true, buildOut := buildOutFor a.2 }).raise
       { src := 0x036, code := 1, obj := a.1.val } },
   { α := Fin 64 × BitVec 8 × BitVec 8, instr := fun a => .alignerSlip a.1 a.2.1,
     can := fun s a => decide ((s.trib a.1.val).phi0 = some a.2.2) && s.alignerOn a.1.val && (s.trib a.1.val).aligned &&
       decide (32 < phaseDist a.2.1 a.2.2),
     eff := fun s a => ((s.setTrib a.1.val { s.trib a.1.val with phi0 := some a.2.1, buildOut := buildOutFor a.2.1 }).count 0x0308
       (portE1 a.1.val).toNat 1).shortSlip a.1.val }]

/-! SDH and SONET (04_sdh_framing.md) -/

/-- The paths of a frame that are the lane's own HO paths. -/
def ownPaths (f : SdhRx) : List HoRx :=
  f.paths.filter fun r => decide (eidKind r.eid = .line) && decide (eidPort r.eid = f.lane.val) && decide (eidLevelN r.eid = 0) && eidForm r.eid

def sdhRows : List EvRow :=
  [{ α := SdhRx, instr := .sdhFrameReceive,
     can := fun s f => s.sdhRuns f.lane.val && !(s.sdhLane f.lane.val).los &&
       decide (((s.sdhLane f.lane.val).frameStep (decide (f.pattern = alignPattern))).1 ≠ .sync) && (ownPaths f).isEmpty,
     eff := fun s f =>
       let l := s.sdhLane f.lane.val
       let fr := l.frameStep (decide (f.pattern = alignPattern))
       let l1 := { l with framer := fr.1, badPattern := fr.2, masked := true }
       let t := ((s.setSdhLane f.lane.val (l1.lofStep false)).noteOof f.lane.val l).reportLane f.lane.val
       if t.sdhRuns f.lane.val && decide ((t.sdhLane f.lane.val).framer = .sync) then t.judgeK2 f.lane.val else t },
   { α := SdhRx, instr := .sdhFrameReceive,
     can := fun s f => s.sdhRuns f.lane.val && !(s.sdhLane f.lane.val).los &&
       decide (((s.sdhLane f.lane.val).frameStep (decide (f.pattern = alignPattern))).1 = .sync),
     eff := fun s f =>
       let l := s.sdhLane f.lane.val
       let fr := l.frameStep (decide (f.pattern = alignPattern))
       let l1 := { l with framer := .sync, badPattern := fr.2 }
       let t := (((s.setSdhLane f.lane.val (l1.lofStep true)).noteOof f.lane.val l).lineReceive f).reportLane f.lane.val
       let t := (ownPaths f).foldl State.hoReceive t
       if t.sdhRuns f.lane.val && decide ((t.sdhLane f.lane.val).framer = .sync) then t.judgeK2 f.lane.val else t },
   { α := Fin 40 × Nat, instr := fun a => .apsInconsistency a.1,
     can := fun s a => decide ((s.sdhLane a.1.val).apsWait = some a.2) && decide (12 ≤ a.2) && !(s.sdhLane a.1.val).apsInc && s.sdhRuns a.1.val,
     eff := fun s a => (s.setSdhLane a.1.val { s.sdhLane a.1.val with apsInc := true }).raise { src := 0x044, obj := a.1.val } },
   { α := Fin 40, instr := .losDeclare, can := fun s n => s.sdhRuns n.val && !(s.sdhLane n.val).los && s.rawNoSignal n.val,
     eff := fun s n => ((s.setSdhLane n.val { s.sdhLane n.val with los := true, framer := .hunt, badPattern := 0, masked := true }).noteOof n.val
       (s.sdhLane n.val)).reportLane n.val },
   { α := Fin 40, instr := .losClear, can := fun s n => s.sdhRuns n.val && (s.sdhLane n.val).los && !s.rawNoSignal n.val,
     eff := fun s n => (s.setSdhLane n.val { s.sdhLane n.val with los := false }).reportLane n.val },
   { α := TuRx, instr := .tuMultiframeReceive,
     can := fun s t => decide (eidKind t.eid = .line) && decide (eidLevelN t.eid = 1) && eidForm t.eid && s.sdhRuns (eidPort t.eid) && !s.pathMasked t.eid,
     eff := fun s t =>
       let e := t.eid
       let p := s.path e
       let m := markPosOf (s.pathOh e)
       let viol := popCount (fld t.v5 7 6 ^^^ t.bip2Calc.toNat) 2
       let s := s.setPath e { p with
         interp := p.interp.step (topOffset e) t.ptr, rdi := p.rdi.step (flag t.v5 0) 5 5,
         cap := [t.v5, captured m 1 t.n2, t.k4], trace := lastN 16 (p.trace ++ [t.j2]) }
       let s := (s.count 0x0201 e.toNat (fld t.v5 5 5)).ingress e t.drift
       ((s.pathBlock e viol).pathQuality e viol t.qb).reportPath e },
   { α := Fin 40 × Bool, instr := fun a => .bipWindowEnd none a.1 a.2, can := fun s a => s.sdhRuns a.1.val,
     eff := fun s a =>
       let l := s.sdhLane a.1.val
       let par := msPar (s.laneRate a.1.val)
       let l' := if a.2 then { l with deg := l.deg.judge par (sdExpOh (s.laneOh a.1.val)) }
         else { l with exc := l.exc.judge par (sfExpOh (s.laneOh a.1.val)) }
       (s.setSdhLane a.1.val l').reportLane a.1.val },
   { α := Eid × Fin 40 × Bool, instr := fun a => .bipWindowEnd (some a.1) a.2.1 a.2.2,
     can := fun s a => decide (eidKind a.1 = .line) && eidForm a.1 && decide (eidLevelN a.1 < 2) && s.sdhRuns (eidPort a.1),
     eff := fun s a =>
       let p := s.path a.1
       let p' := if a.2.2 then { p with deg := p.deg.judge (pathPar a.1) (s.pathSd a.1) }
         else { p with exc := p.exc.judge (pathPar a.1) (s.pathSf a.1) }
       (s.setPath a.1 p').reportPath a.1 },
   { α := SdhTx, instr := .sdhFrameTransmit, can := fun s f => s.sdhRuns f.lane.val && f.paths.isEmpty,
     eff := fun s f =>
       let n := f.lane.val
       let l := s.sdhLane n
       let oh := s.laneOh n
       let j := s.nextTrace (fld oh 55 48) l.j0Left
       let s := s.setSdhLane n { l with j0Left := j.2 }
       let k := s.kSent n
       let dcc : Byte := BitVec.ofNat 8 (fld oh 23 16)
       let octet (hi lo : Nat) : Byte := BitVec.ofNat 8 (fld oh hi lo)
       s.emit (.sdhFrame n ([0xF6, 0x28, j.1, 0xAA, f.b1, octet 47 40, octet 39 32, dcc, dcc, dcc] ++
         octetsOf (3 * rateN (s.laneRate n)) f.b2.toNat ++ [k.1, k.2] ++ List.replicate 9 dcc ++
         [BitVec.ofNat 8 (s.qlFor n), BitVec.ofNat 8 l.lastB2, 0, octet 31 24]) []) }]

/-! Framing and carriage of E1, C37.94, GFP and VCAT (05_trib_gfp_framing.md) -/

/-- The E1 framer of an input that its frames change. -/
def e1Live (s : State) (e : Eid) : Bool := isE1Eid e && !isRefin e && s.e1Runs e && !s.e1ClkLoss e

/-- The E1 framer once the signal of a frame is judged. -/
def e1Signal (s : State) (f : E1Rx) : E1State := (s.e1 f.eid).signal f.bits (decide (eidKind f.eid = .trib) || isRefin f.eid) (isRefin f.eid && f.quiet)

/-- The bit positions an E1 hunt may look at. -/
def e1Allowed (s : State) (f : E1Rx) : BitVec 256 :=
  (if s.isMonitor f.eid then 1 else BitVec.allOnes 256) &&&
    ~~~(match (e1Signal s f).excluded with | some p => setFlag (0 : BitVec 256) p.toNat true | none => 0)

/-- What follows the framing of an E1 frame: the bits are kept, a tributary's aligner moves, and the defects are reported. -/
def e1Close (t : State) (f : E1Rx) : State :=
  let t := t.setE1 f.eid { t.e1 f.eid with prev := f.bits }
  (if eidKind f.eid = .trib then t.alignerStep (eidTrib f.eid) (t.e1 f.eid).inFrame f.phase else t).reportE1 f.eid

/-- The member of a group that a control packet names. -/
def memberIn (s : State) (g : Nat) (e : Eid) : Bool := (s.vcat g).members.any fun m => decide (m.eid = e)

/-- The members of a group once a sound control packet is read: the member's own word, and its alignment. -/
def vcatRead (s : State) (p : VcatRx) : List Member :=
  let read := (s.vcat p.group.val).members.map fun m =>
    if m.eid = p.eid then
      { m with lastCrcOk := true, sqRx := p.sq.val, ctrlRx := ctrlRead p.ctrl, gid := p.gid, lag := some ((s.now + 4096 - p.mfi.val) % 4096) }
    else m
  read.map fun m => if m.eid = p.eid then m.alignStep (earliest read) (s.cfg.mark.vcatDmax.look 16 p.group.val) else m

def framingRows : List EvRow :=
  [{ α := E1Rx, instr := .e1FrameReceive,
     can := fun s f => e1Live s f.eid && !(e1Signal s f).inFrame && (((e1Signal s f).hunt f.bits (e1Allowed s f)).2).isNone,
     eff := fun s f => e1Close (s.setE1 f.eid { ((e1Signal s f).hunt f.bits (e1Allowed s f)).1 with spoiled := true, clean := false }) f },
   { α := E1Rx × Nat, instr := fun a => .e1FrameReceive a.1,
     can := fun s a => e1Live s a.1.eid && !(e1Signal s a.1).inFrame && decide (((e1Signal s a.1).hunt a.1.bits (e1Allowed s a.1)).2 = some a.2),
     eff := fun s a => e1Close (s.setE1 a.1.eid ((((e1Signal s a.1).hunt a.1.bits (e1Allowed s a.1)).1).found a.2 s.now
       (decide (e1Crc4 (s.e1Cfg a.1.eid) ≠ 0)))) a.1 },
   { α := E1Rx, instr := .e1FrameReceive,
     can := fun s f => e1Live s f.eid && (e1Signal s f).inFrame &&
       !(((s.setE1 f.eid (e1Signal s f)).e1Framed f.eid (s.e1 f.eid).prev f.bits f.qb).e1 f.eid).background,
     eff := fun s f => e1Close ((s.setE1 f.eid (e1Signal s f)).e1Framed f.eid (s.e1 f.eid).prev f.bits f.qb) f },
   { α := Eid, instr := .crc4SearchTimeout,
     can := fun s e => !isRefin e && s.e1Runs e && (s.e1 e).inFrame && decide ((s.e1 e).crc4 = .searching) && s.due ((s.e1 e).mfStart + 64) &&
       decide (e1Crc4 (s.e1Cfg e) = 1) && !(s.e1 e).background,
     eff := fun s e => s.setE1 e { s.e1 e with background := true, cand1 := 0, cand2 := 0 } },
   { α := Eid, instr := .crc4SearchTimeout,
     can := fun s e => !isRefin e && s.e1Runs e && (s.e1 e).inFrame && decide ((s.e1 e).crc4 = .searching) && s.due ((s.e1 e).mfStart + 64) &&
       decide (e1Crc4 (s.e1Cfg e) = 2),
     eff := fun s e => ((s.setE1 e ((s.e1 e).lose s.now)).count 0x0303 e.toNat 1).reportE1 e },
   { α := Eid, instr := .crc4Fallback,
     can := fun s e => !isRefin e && s.e1Runs e && (s.e1 e).inFrame && decide ((s.e1 e).crc4 = .searching) && s.due ((s.e1 e).fallStart + 3200) &&
       decide (e1Crc4 (s.e1Cfg e) = 1),
     eff := fun s e => (s.setE1 e { s.e1 e with crc4 := .fallback, background := false }).crc4Event e true },
   { α := Eid, instr := .e1ExclusionEnd, can := fun s e => !isRefin e && (s.e1 e).excluded.isSome && s.due (s.e1 e).excludeEnd,
     eff := fun s e => s.setE1 e { s.e1 e with excluded := none } },
   { α := Eid × Nat, instr := fun a => .e1CrcBlockEnd a.1,
     can := fun s a => !isRefin a.1 && decide ((s.e1 a.1).blockEnded = some a.2) && s.e1Runs a.1 && (s.e1 a.1).inFrame &&
       decide ((s.e1 a.1).crc4 = .aligned) && flag (s.e1Cfg a.1) 5 && decide (915 ≤ a.2),
     eff := fun s a => ((s.setE1 a.1 (({ s.e1 a.1 with blockEnded := none } : E1State).lose s.now)).count 0x0303 a.1.toNat 1).reportE1 a.1 },
   { α := Eid × Nat, instr := fun a => .e1CrcBlockEnd a.1,
     can := fun s a => !isRefin a.1 && decide ((s.e1 a.1).blockEnded = some a.2) && decide (a.2 < 915),
     eff := fun s a => s.setE1 a.1 { s.e1 a.1 with blockEnded := none } },
   { α := Eid × Bool, instr := fun a => .e1WindowEnd a.1 a.2, can := fun s a => !isRefin a.1 && s.e1Runs a.1,
     eff := fun s a => (s.setE1 a.1 (if a.2 then { s.e1 a.1 with deg := (s.e1 a.1).deg.judgeE1 (e1SdExp (s.e1Cfg a.1)) }
       else { s.e1 a.1 with exc := (s.e1 a.1).exc.judgeE1 (e1SfExp (s.e1Cfg a.1)) })).reportE1 a.1 },
   { α := C37Rx, instr := .c37FrameReceive,
     can := fun s f => s.c37Runs f.port.val && !(s.trib f.port.val).clkLoss && !(s.c37 f.port.val).inFrame &&
       (lowest (f.heads &&& (s.c37 f.port.val).cand2)).isNone,
     eff := fun s f =>
       let p := f.port.val
       let x := s.c37 p
       let x' := { x with
         headErr := 0, cand1 := f.heads, cand2 := f.heads &&& x.cand1, los := if f.quiet then true else if f.lively then false else x.los,
         lof := x.lof.step true 24 24, frames := 0, spoiled := false }
       (((((s.setC37 p x').count 0x0306 (portE1 p).toNat 0).count 0x0307 (portE1 p).toNat 0).count 0x0303 (portE1 p).toNat 0).alignerStep p false
         f.phase).reportC37 p },
   { α := GfpRx × Carrier, instr := fun a => .gfpFrameReceive a.1,
     can := fun s a => decide (s.carrier a.1.chan.val = some a.2) && !s.carrierDown a.2 && decide ((s.gfp a.1.chan.val).state = .hunt) &&
       coreGood (a.1.header ^^^ coreMask),
     eff := fun s a => s.gfpTake a.1.chan.val .presync 0 (fld (a.1.header ^^^ coreMask) 31 16) a.1.octets a.1.qb },
   { α := GfpRx × Carrier, instr := fun a => .gfpFrameReceive a.1,
     can := fun s a => decide (s.carrier a.1.chan.val = some a.2) && !s.carrierDown a.2 && decide ((s.gfp a.1.chan.val).state = .presync) &&
       coreGood (a.1.header ^^^ coreMask),
     eff := fun s a =>
       let n := (s.gfp a.1.chan.val).count + 1
       s.gfpTake a.1.chan.val (if gfpDelta (s.gfpCfg a.1.chan.val) ≤ n then .sync else .presync) n (fld (a.1.header ^^^ coreMask) 31 16) a.1.octets
         a.1.qb },
   { α := GfpRx × Carrier, instr := fun a => .gfpFrameReceive a.1,
     can := fun s a => decide (s.carrier a.1.chan.val = some a.2) && !s.carrierDown a.2 && decide ((s.gfp a.1.chan.val).state = .sync) &&
       coreGood (a.1.header ^^^ coreMask),
     eff := fun s a => s.gfpTake a.1.chan.val .sync (s.gfp a.1.chan.val).count (fld (a.1.header ^^^ coreMask) 31 16) a.1.octets a.1.qb },
   { α := GfpRx × Carrier, instr := fun a => .gfpFrameReceive a.1,
     can := fun s a => decide (s.carrier a.1.chan.val = some a.2) && !s.carrierDown a.2 && decide ((s.gfp a.1.chan.val).state = .sync) &&
       !coreGood (a.1.header ^^^ coreMask) && !gfpCorr (s.gfpCfg a.1.chan.val),
     eff := fun s a => s.setGfp a.1.chan.val { s.gfp a.1.chan.val with state := .hunt, count := 0, since := s.now } },
   { α := Fin 4096, instr := .gfpLfd,
     can := fun s ch => (s.carrier ch.val).isSome && ((s.gfp ch.val).lfd != decide ((s.gfp ch.val).state ≠ .sync)) && s.due ((s.gfp ch.val).since + 80),
     eff := fun s ch =>
       let lost := decide ((s.gfp ch.val).state ≠ .sync)
       (s.setGfp ch.val { s.gfp ch.val with lfd := lost }).raise { src := 0x054, clr := !lost, code := 0x21, obj := ch.val } },
   { α := Fin 4096, instr := .gfpCsfTimeout, can := fun s ch => (s.gfp ch.val).csf && s.due (s.gfp ch.val).csfEnd,
     eff := fun s ch => (s.setGfp ch.val { s.gfp ch.val with csf := false }).raise { src := 0x054, clr := true, code := 0x22, obj := ch.val } },
   { α := Fin 4096, instr := .gfpFrameTransmit,
     can := fun s ch => (s.carrier ch.val).isSome && ((s.chanQueue ch.val).bind s.nextClient).isNone,
     eff := fun s ch => s.emit (.gfpFrame ch.val (gfpHeader 0)) },
   { α := Fin 4096 × List Byte × State, instr := fun a => .gfpFrameTransmit a.1,
     can := fun s a => (s.carrier a.1.val).isSome && decide ((s.chanQueue a.1.val).bind s.nextClient = some a.2) &&
       decide ((gfpArea (s.gfpCfg a.1.val) a.2.1).length ≤ gfpMax (s.gfpCfg a.1.val)),
     eff := fun s a =>
       let area := gfpArea (s.gfpCfg a.1.val) a.2.1
       let r := scrOctets true (s.gfp a.1.val).scr area
       (a.2.2.setGfp a.1.val { a.2.2.gfp a.1.val with scr := r.1 }).emit (.gfpFrame a.1.val (gfpHeader area.length ++ r.2)) },
   { α := VcatRx, instr := .vcatControlPacket, can := fun s p => memberIn s p.group.val p.eid && !p.crcOk,
     eff := fun s p => (((s.setVcat p.group.val { s.vcat p.group.val with
       members := (s.vcat p.group.val).members.map fun m => if m.eid = p.eid then { m with lastCrcOk := false } else m }).count 0x050A p.group.val
         1).vcatJudge p.group.val) },
   { α := VcatRx × Member × Member, instr := fun a => .vcatControlPacket a.1,
     can := fun s a =>
       let p := a.1
       p.crcOk && !vcatLcas (s.vcatCfg p.group.val) &&
         decide ((s.vcat p.group.val).members.find? (fun m => decide (m.eid = p.eid)) = some a.2.1) &&
         decide ((vcatRead s p).find? (fun m => decide (m.eid = p.eid)) = some a.2.2),
     eff := fun s a =>
       let p := a.1
       let t := s.setVcat p.group.val { s.vcat p.group.val with members := vcatRead s p, rsAckRx := p.rsAck }
       let aux := (mkWord [(22, 22, 1), (7, 0, a.2.2.offset)]).toNat
       (t.raiseIf (a.2.1.aligned != a.2.2.aligned)
         { src := 0x090, code := 16 * a.2.1.aligned.toNat + a.2.2.aligned.toNat, aux := aux, obj := p.eid.toNat }).vcatJudge p.group.val },
   { α := Fin 4096 × Member, instr := fun a => .lcasRemoveTimeout a.1,
     can := fun s a => decide (((s.vcat a.1.val).members.filter fun m => m.phased .removing && s.due m.removeEnd) = [a.2]),
     eff := fun s a => (s.memberGone a.1.val a.2.eid).raise { src := 0x057, obj := a.2.eid.toNat } },
   { α := Fin 4096 × Eid, instr := fun a => .lcasHoldoffExpiry a.1 a.2,
     can := fun s a => vcatLcas (s.vcatCfg a.1.val) && (s.vcat a.1.val).members.all fun m => !decide (m.eid = a.2) ||
       (m.mstTx && (m.failSince.any fun t => s.due (t + 80 * vcatHoldoff (s.vcatCfg a.1.val)))),
     eff := fun s a => s.setVcat a.1.val { s.vcat a.1.val with
       members := (s.vcat a.1.val).members.map fun m => if m.eid = a.2 then { m with mstTx := false, fell := true } else m } },
   { α := Fin 4096 × Eid, instr := fun a => .lcasWtrExpiry a.1 a.2,
     can := fun s a => vcatLcas (s.vcatCfg a.1.val) && (s.vcat a.1.val).members.all fun m => !decide (m.eid = a.2) ||
       (!m.mstTx && (m.cleanSince.any fun t => s.due (t + 8000 * vcatWtr (s.vcatCfg a.1.val)))),
     eff := fun s a => s.setVcat a.1.val { s.vcat a.1.val with
       members := (s.vcat a.1.val).members.map fun m => if m.eid = a.2 then { m with mstTx := true } else m } },
   { α := Fin 64 × Bool × Nat, instr := fun a => .testAnalyserLock a.1 a.2.1 a.2.2,
     can := fun s a => (s.analyserRecord a.1.val).isSome && !s.captureBound a.1.val && !(s.fab.analysers.look Analyser.reset a.1.val).lock && a.2.1,
     eff := fun s a =>
       let x := s.fab.analysers.look Analyser.reset a.1.val
       (State.count { s with fab.analysers := s.fab.analysers.put Analyser.reset a.1.val ⟨true, x.errors, x.losses⟩ } 0x0A01 a.1.val 0).raise
         { src := 0x060, aux := a.1.val, obj := ((s.analyserRecord a.1.val).map (·.1)).getD 0 } }]

/-! Bushels, protection and alignment (07_maps_bushels.md, 08_protection.md, 09_fathom_merge.md) -/

/-- Merging runs on a group, and the ring of its preferred leg has been written as far back as it is read. -/
def mergesNow (s : State) (x : BlockIn) (r : PgRec) : Bool :=
  let g := s.alignGroup x.pg.val
  decide (s.cfg.b.pg x.pg.val = some r) && s.merging x.pg.val &&
    decide ((if (s.protection true x.pg.val).sel then g.read1 else g.read0) < g.judged0.length)

/-- A leg's block of a merged protection group is clean. -/
def legsClean (s : State) (x : BlockIn) (r : PgRec) (one : Bool) : Bool := s.legClean x.pg.val r one (if one then x.qb1 else x.qb0)

/-- The state a block of a merged group is judged in. -/
def blockIn (s : State) (x : BlockIn) (take : Bool) : State :=
  let g := s.alignGroup x.pg.val
  let t := s.setAlignGroup x.pg.val { g with skew := g.isLocked && x.skew, pick := none }
  t.setAlignGroup x.pg.val { t.alignGroup x.pg.val with pick := some take }

def protRows : List EvRow :=
  [{ α := Bushel, instr := fun _ => .bushelAbandoned,
     can := fun s b => decide ((s.bush.list.find? fun b => decide (b.mode = .open_) && s.due b.deadline) = some b),
     eff := fun s b => (((s.dropBushel b.id).raise { src := 0x071, code := (Config.causeCode 0x071 0).toNat, obj := b.id })).count 0x0910 b.owner 1 },
   { α := Bool × Nat × Fin 4, instr := fun a => .holdoffExpiry a.1 a.2.1 a.2.2,
     can := fun s a =>
       let c := (s.protection a.1 a.2.1).crit a.2.2.val
       s.protDefined a.1 a.2.1 && c.present && !c.raised && decide (c.need ≤ c.run),
     eff := fun s a =>
       let p := s.protection a.1 a.2.1
       s.setProtection a.1 a.2.1 (p.setCrit a.2.2.val { p.crit a.2.2.val with raised := true }) },
   { α := Bool × Nat, instr := fun a => .wtrExpiry a.1 a.2, can := fun s a => (s.protection a.1 a.2).wtrEnd.any fun t => s.due t,
     eff := fun s a => s.setProtection a.1 a.2 { s.protection a.1 a.2 with wtrEnd := none } },
   { α := Fin 20 × Word, instr := fun a => .apsService a.1,
     can := fun s a => decide (s.cfg.b.lp a.1.val = some a.2) && !s.isStandby && !lpBidir a.2 && !s.prot.fwStall,
     eff := fun s a =>
       let p := s.protection false a.1.val
       let own := p.apsBytes a.2
       let p' := { p with kWait := none, kSeen := (s.sdhLane (lpProt a.2)).k1.acc, k1 := own.1, k2 := own.2, far := 0 }
       (s.putProt false a.1.val (lpWtr a.2) p').count 0x010A (lpProt a.2) 0 },
   { α := Fin 20, instr := .apsFop, can := fun s n => (s.cfg.b.lp n.val).isSome && decide (400 ≤ (s.protection false n.val).fopBad),
     eff := fun s n => s.setAps n.val { s.protection false n.val with fop := true } },
   { α := Fin 20, instr := .apsFop,
     can := fun s n => (s.cfg.b.lp n.val).isSome && decide ((s.protection false n.val).fopBad < 400) &&
       decide (400 ≤ (s.protection false n.val).fopGood),
     eff := fun s n => s.setAps n.val { s.protection false n.val with fop := false } },
   { α := Unit, instr := fun _ => .protFwStall,
     can := fun s _ => !s.prot.fwStall && s.prot.pairs.any fun x => x.2.kWait.any fun t => decide (t + 80 ≤ s.now),
     eff := fun s _ => State.raise { s with prot.fwStall := true } { src := 0x084 } },
   { α := BlockIn × PgRec, instr := fun a => .mergedSelection a.1,
     can := fun s a => mergesNow s a.1 a.2 && !a.1.skew && legsClean s a.1 a.2 (s.protection true a.1.pg.val).sel,
     eff := fun s a =>
       let pg := a.1.pg.val
       let p := s.protection true pg
       ((blockIn s a.1 p.sel).setProtection true pg { p with notPref := satAdd 32 p.notPref 0 }).count 0x0701 pg 0 },
   { α := BlockIn × PgRec, instr := fun a => .mergedSelection a.1,
     can := fun s a =>
       let one := (s.protection true a.1.pg.val).sel
       mergesNow s a.1 a.2 && !a.1.skew && !legsClean s a.1 a.2 one && legsClean s a.1 a.2 (!one),
     eff := fun s a =>
       let pg := a.1.pg.val
       let p := s.protection true pg
       ((blockIn s a.1 (!p.sel)).setProtection true pg { p with notPref := satAdd 32 p.notPref 1 }).count 0x0701 pg 1 },
   { α := SigRx × PgRec, instr := fun a => .signatureSpan a.1,
     can := fun s a => decide (s.cfg.b.pg a.1.pg.val = some a.2) && s.groupRuns a.1.pg.val && (decide (s.cfg.b.alignModeOf a.1.pg.val = 2) || a.1.qb),
     eff := fun s a =>
       let x := a.1
       let pg := x.pg.val
       let g := s.alignGroup pg
       let sig : BitVec 32 := BitVec.ofNat 32 (crcOver 32 0x04C1_1DB7 0xFFFF_FFFF x.octets)
       let old := if x.leg1 then g.sigs1 else g.sigs0
       let flat := flatRun (lastN 7 (old.map (·.sig)) ++ [sig])
       let kept := lastN sigsKept (old ++ [⟨s.now, sig, !x.qb && !s.spanSf pg a.2 x.leg1, flat⟩])
       (s.count 0x0702 pg flat.toNat).setAlignGroup pg { g with
         flats := satAdd 8 g.flats flat.toNat, sigs0 := if x.leg1 then g.sigs0 else kept, sigs1 := if x.leg1 then kept else g.sigs1 } },
   { α := MarkRx, instr := .markMessageReceive,
     can := fun s m =>
       let e := m.eid
       decide (eidKind e = .line) && eidForm e && decide (eidLevelN e ≤ 1) && decide (markPosOf (s.pathOh e) ≠ 0) && s.cfg.b.marksHeld e &&
         !s.pathDown (s.seen e) && decide (m.octets.length = 32) && decide (nth 0 m.octets 0 = 0x7E) && decide (markField m.octets 30 2 ≠ markCrc m.octets),
     eff := fun s m => s.count 0x0704 m.eid.toNat 1 },
   { α := MarkRx, instr := .markMessageReceive,
     can := fun s m =>
       let e := m.eid
       let onIt (x : Nat × PgRec) : Bool := decide (markPath x.2.leg0 = e) || decide (markPath x.2.leg1 = e)
       decide (eidKind e = .line) && eidForm e && decide (eidLevelN e ≤ 1) && decide (markPosOf (s.pathOh e) ≠ 0) && s.cfg.b.marksHeld e &&
         !s.pathDown (s.seen e) && decide (m.octets.length = 32) && decide (nth 0 m.octets 0 = 0x7E) && decide (markField m.octets 30 2 = markCrc m.octets) &&
         decide (markKind m.octets = 1) && !s.cfg.b.pgs.any onIt,
     eff := fun s m => { s with align.lastMark := s.align.lastMark.put [] m.eid.toNat m.octets } },
   { α := Fin 16384, instr := .verifyTimeout,
     can := fun s pg => decide ((s.alignGroup pg.val).mode = .verify) && s.due (s.alignGroup pg.val).verifyAt && (s.cfg.b.pg pg.val).isSome,
     eff := fun s pg => s.alignTo pg.val { s.alignGroup pg.val with unverified := true } .locked },
   { α := Fin 16384, instr := .alignStuck,
     can := fun s pg =>
       let g := s.alignGroup pg.val
       (g.freeSince.any fun t => s.due (t + 16000)) && !g.stuck && decide (g.mode = .search ∨ g.mode = .range),
     eff := fun s pg =>
       let g := s.alignGroup pg.val
       (s.setAlignGroup pg.val { g with stuck := true }).raise
         { src := 0x091, code := (Config.causeCode 0x091 (s.stuckCause pg.val g)).toNat, obj := pg.val } }]

/-! Packet interworking (10_packet_interworking.md) -/

/-- The Ethernet receiver of a lane takes a frame: the link is up, the FCS right and the size legal (R315). -/
def frameTaken (s : State) (f : EthRx) : Bool :=
  s.laneEth f.lane.val && s.linkUp f.lane.val && f.fcsOk && decide (64 ≤ f.octets.length + 4) && decide (f.octets.length + 4 ≤ 9600)

def packetRows : List EvRow :=
  [{ α := EthRx, instr := .ethernetFrameReceive,
     can := fun s f => s.laneEth f.lane.val && s.linkUp f.lane.val &&
       (!f.fcsOk || decide (f.octets.length + 4 < 64) || decide (9600 < f.octets.length + 4)),
     eff := fun s f => s.count 0x0108 f.lane.val 1 },
   { α := EthRx, instr := .ethernetFrameReceive, can := fun s f => frameTaken s f && decide ((ethHead f.octets).etype = 0x8808),
     eff := fun s f => (s.setLane f.lane.val { s.lane f.lane.val with pauseDiscards := (s.lane f.lane.val).pauseDiscards + 1 }).count 0x0106 f.lane.val
       1 },
   { α := EthRx, instr := .ethernetFrameReceive, can := fun s f => frameTaken s f && decide ((ethHead f.octets).etype = 0x88F7),
     eff := fun s f => (s.count 0x0107 f.lane.val 1).ptpFrame f.lane.val (ethHead f.octets) f.fn f.cycle },
   { α := EthRx, instr := .ethernetFrameReceive,
     can := fun s f => frameTaken s f && decide ((ethHead f.octets).etype ≠ 0x88F7 ∧ (ethHead f.octets).etype ≠ 0x8808),
     eff := fun s f => (s.count 0x0107 f.lane.val 1).ethForward f.lane.val (ethHead f.octets) f.octets },
   { α := BitVec 16, instr := .jitterBufferPlayout,
     can := fun s q => (s.cfg.b.queue q.toNat).pw && s.queueOn q.toNat && decide ((s.queue q.toNat).playAt ≤ s.now) &&
       decide ((s.queue q.toNat).mode = .play),
     eff := fun s q => s.playFrame q.toNat },
   { α := BitVec 16, instr := .jitterBufferPlayout,
     can := fun s q => (s.cfg.b.queue q.toNat).pw && s.queueOn q.toNat && decide ((s.queue q.toNat).playAt ≤ s.now) &&
       decide ((s.queue q.toNat).mode = .fill) && decide (s.now < (s.queue q.toNat).refFn),
     eff := fun s q => s.setQueue q.toNat { s.queue q.toNat with
       out := ⟨List.replicate (s.cfg.b.queue q.toNat).octets 0xFF, true⟩, playAt := s.now + 1 } },
   { α := BitVec 16, instr := .jitterBufferPlayout,
     can := fun s q => (s.cfg.b.queue q.toNat).pw && s.queueOn q.toNat && decide ((s.queue q.toNat).playAt ≤ s.now) &&
       decide ((s.queue q.toNat).mode = .fill) && decide ((s.queue q.toNat).refFn ≤ s.now),
     eff := fun s q => (s.queueTo q.toNat { s.queue q.toNat with mode := .play }).playFrame q.toNat },
   { α := BitVec 16 × Nat, instr := fun a => .pwWindowEnd a.1, can := fun s a => decide ((s.queue a.1.toNat).winEnded = some a.2),
     eff := fun s a =>
       let x := s.queue a.1.toNat
       (s.setQueue a.1.toNat { x with
         winEnded := none, exc := if 64 ≤ a.2 then true else if a.2 ≤ 8 then false else x.exc,
         deg := if 8 ≤ a.2 then true else if a.2 ≤ 1 then false else x.deg }).reportQueue a.1.toNat },
   { α := BitVec 16, instr := .pwPacketSend,
     can := fun s q =>
       let r := s.cfg.b.queue q.toNat
       r.pw && s.queueOn q.toNat && decide ((s.queue q.toNat).mode ≠ .dormant) && decide ((s.queue q.toNat).txFrames.length = r.pkt) &&
         !s.queueLinkDown r && !(s.cfg.pie.hdr.look [] q.toNat).isEmpty,
     eff := fun s q =>
       let r := s.cfg.b.queue q.toNat
       let x := s.queue q.toNat
       let t := s.setQueue q.toNat { x with txFrames := [], txSeq := x.txSeq + 1 }
       { t with pie.pw := t.pie.pw.put [] r.lane (t.pie.pw.look [] r.lane ++ [pwPacket r x (s.cfg.pie.hdr.look [] q.toNat)]) } },
   { α := Fin 40 × List Nat × List Byte × List (List Byte), instr := fun a => .ethernetFrameTransmit a.1 a.2.1,
     can := fun s a => s.laneEth a.1.val && s.linkUp a.1.val && decide (s.pie.pw.look [] a.1.val = a.2.2.1 :: a.2.2.2),
     eff := fun s a => (State.count { s with pie.pw := s.pie.pw.put [] a.1.val a.2.2.2 } 0x0109 a.1.val 1).emit (.ethFrame a.1.val a.2.2.1) }]

/-! Timing (11_timing.md) -/

/-- A fault of a candidate, or the end of one, is noted on a REFIN input (R336). -/
def edgeNoted (s : State) (a : Fin 113 × Bool) : State :=
  if (refinOf a.1.val).isSome then s.setCand a.1.val { s.cand a.1.val with noEdge := a.2 } else s

/-- The selector at an evaluation, before it selects: the holdover steering, the commands and the revert time of a manual selection. -/
def evaluated (s : State) (a : Int × Int) : State × Bool :=
  let r := (State.steerStep { s with tim.lastEval := some s.now } a.1 a.2).timCommands
  let t := r.1.candSettle
  let m := sysManual t.timSys
  let wtr := if sysManualMode t.timSys && t.usable m && t.settledFor m then some (t.tim.wtrSince.getD t.now) else none
  ({ t with tim.wtrSince := wtr }, r.2)

def timingRows : List EvRow :=
  [{ α := Fin 113 × Bool, instr := fun a => .candidateFault a.1 a.2,
     can := fun s a =>
       let t := edgeNoted s a
       decide ((t.cand a.1.val).mode = .qualified) && !(t.cand a.1.val).freqBad && decide (t.candFault a.1.val ≠ 0),
     eff := fun s a =>
       let t := edgeNoted s a
       (t.candTo a.1.val (if timHit (t.timIn a.1.val) = 0 then .disqualified else .hit) (decide (t.candFault a.1.val = 4))).candSettle },
   { α := Fin 113 × Bool, instr := fun a => .candidateFault a.1 a.2, can := fun s a => decide (((edgeNoted s a).cand a.1.val).mode = .disabled),
     eff := fun s a => (edgeNoted s a).candSettle },
   { α := Fin 113 × Int, instr := fun a => .frequencyGate a.1 a.2, can := fun s a => timEn (s.timIn a.1.val),
     eff := fun s a =>
       let ok := decide (a.2.natAbs ≤ freqLimit (timFreqLim (s.timIn a.1.val)))
       ((s.setCand a.1.val { s.cand a.1.val with offset := clampInt (-2 ^ 31) (2 ^ 31 - 1) a.2, gateOk := some ok }).count 0x0801 a.1.val
         (!ok).toNat).candStep a.1.val },
   { α := Fin 113, instr := .qualificationExpiry,
     can := fun s c => decide ((s.cand c.val).mode = .qualifying) && s.due ((s.cand c.val).since + 8000 * timQual (s.timIn c.val)) &&
       decide (s.candFault c.val = 0) && !(s.cand c.val).freqBad,
     eff := fun s c => (s.candTo c.val .qualified).candSettle },
   { α := Fin 113, instr := .hitExpiry,
     can := fun s c => decide ((s.cand c.val).mode = .hit) && s.due ((s.cand c.val).since + 8 * timHit (s.timIn c.val)) &&
       decide (s.candFault c.val ≠ 0),
     eff := fun s c => (s.candTo c.val .disqualified).candSettle },
   { α := Int × Int, instr := fun a => .selectorEvaluation a.1 a.2,
     can := fun s a => decide (s.fnNat % 8 = 0) && decide (s.tim.lastEval ≠ some s.now) && !(evaluated s a).1.tim.forced &&
       !((evaluated s a).1.isStandby && (evaluated s a).1.pair.mateUp),
     eff := fun s a => (((evaluated s a).1.select (evaluated s a).2).followQl).squelchStep },
   { α := Nat, instr := fun _ => .dpllLock,
     can := fun s c => decide (s.tim.sys = .acquire) && decide (s.tim.selected = some c) && s.usable c &&
       s.due (s.tim.acquireAt + lockFrames s.bwInForce),
     eff := fun s _ => (s.setSys .locked).followQl },
   { α := Unit, instr := fun _ => .holdoverQlTimer,
     can := fun s _ => decide (s.tim.sys = .holdover) && s.tim.qlHeld && s.due (s.tim.holdAt + 80),
     eff := fun s _ => State.followQl { s with tim.qlHeld := false } },
   { α := Nat, instr := fun _ => .modelRecord,
     can := fun s c => decide (s.tim.sys = .locked) && decide (s.tim.selected = some c) && !sysQlEn s.timSys && decide (s.cfg.tim.model = .valid) &&
       decide (s.tim.lockedAt + 800000 < s.now) && s.due (s.tim.recordAt + 80000) && decide (s.tim.records.length < 8000),
     eff := fun s _ => { s with tim.records := (⟨s.tim.steer, s.tim.temp, s.oscAge⟩ :: s.tim.records).take modelKept, tim.recordAt := s.now } },
   { α := Int × Int, instr := fun _ => .modelFit,
     can := fun s a => decide (rangeOf (s.tim.records.map (·.temp)) = some a) && decide (s.cfg.tim.model ≠ .loaded) &&
       s.due (s.tim.fitAt + 28800000) && decide (a.2 - a.1 < 1024) && decide (s.tim.records.length < 60480),
     eff := fun s a => State.journal { s.takeFree.2.takeFree.2.takeFree.2 with
       cfg.tim.hold := s.hold, cfg.tim.tMin := a.1, cfg.tim.tMax := a.2, tim.fitAt := s.now } 5 },
   { α := Unit, instr := fun _ => .oscAgeJournal, can := fun s _ => decide (s.cfg.tim.age / 3600 ≠ s.oscAge / 3600),
     eff := fun s _ => State.journal { s with cfg.tim.age := s.oscAge } 1 },
   { α := PpsRx, instr := .ppsPulse,
     can := fun s p =>
       let x := s.cand (104 + p.refin.val)
       s.isPps (104 + p.refin.val) && timEn (s.timIn (104 + p.refin.val)) && x.tod.isNone && x.label.isNone && x.lastGood.isNone,
     eff := fun s p =>
       let c := 104 + p.refin.val
       let x := s.cand c
       ((s.setCand c { x with lastGood := some s.now, offPulse := false, unlabelled := x.unlabelled + 1, theta := none }).count 0x0808 p.refin.val
         1).candStep c },
   { α := TodRx, instr := .todMessage, can := fun s t => decide (timType (s.timIn (104 + t.refin.val)) = 1),
     eff := fun s t =>
       let o := t.octets
       let ok := decide (o.length = 16) && decide (at_ o 0 2 = 0xDA54) && decide (crcOver 16 0x1021 0xFFFF (o.take 14) = at_ o 14 2) &&
         flag (nth 0 o 10) 7
       s.todTake (104 + t.refin.val) ⟨at_ o 2 6, flag (nth 0 o 10) 6⟩ (BitVec.ofNat 16 (at_ o 8 2)) t.after ok },
   { α := Fin 16 × BitVec 17, instr := fun a => .ptpMessageSend a.1 0 a.2, can := fun s a => decide ((s.ptpPort a.1.val).mode = .master),
     eff := fun s a =>
       let i := a.1.val
       let p := s.ptpPort i
       (s.setPtpPort i { p with sentSync := p.sentSync + 1 }).ptpSend i 0
         (s.ptpHeader i 0 44 p.sentSync 0xFC ++ ptpStamp (counterNs s.tick.fn a.2 - ptpAsym (s.ptpCfg i))) },
   { α := Fin 16 × BitVec 17, instr := fun a => .ptpMessageSend a.1 1 a.2, can := fun s a => decide ((s.ptpPort a.1.val).mode = .slave),
     eff := fun s a =>
       let i := a.1.val
       let p := s.ptpPort i
       let t := counterNs s.tick.fn a.2 - ptpAsym (s.ptpCfg i)
       (s.setPtpPort i { p with reqSeq := (p.reqSeq + 1) % 65536, reqTx := some t }).ptpSend i 1
         (s.ptpHeader i 1 44 (p.reqSeq + 1) 0x7F ++ ptpStamp t) },
   { α := Fin 16, instr := .announceTimeout,
     can := fun s i => decide ((s.ptpPort i.val).mode ≠ .disabled ∧ (s.ptpPort i.val).mode ≠ .master) && s.due ((s.ptpPort i.val).heardAt + 3000),
     eff := fun s i => ((s.setPtpPort i.val { s.ptpPort i.val with best := none }).ptpTo i.val .master).ptpDecide },
   { α := Unit, instr := fun _ => .ptpServoLock,
     can := fun s _ => (s.parent.any fun p => decide (p.cls ≤ s.ptpMaxClass)) && s.tim.goodSince.any fun t => s.due (t + 512000),
     eff := fun s _ => s.dpllTo .locked },
   { α := Unit, instr := fun _ => .ptpOffsetTimeout, can := fun s _ => decide (s.tim.dpll = .locked) && s.due (s.tim.offsetAt + 16000),
     eff := fun s _ => State.dpllTo { s with tim.goodSince := none } (if s.slavePort.isSome then .acquire else .holdover) }]

/-! Command ports and the craft interface (12_commands.md, 13_host_ports_dma.md) -/

/-- A management frame reaches the device: the link is up, the FCS right, the size legal and the VLAN its own. -/
def mgmtTaken (s : State) (f : MgmtRx) : Bool :=
  s.host.craft.cp2Link && s.awake && f.fcsOk && decide (f.octets.length + 4 ≤ 4132) && s.cp2Vlan (ethHead f.octets)

noncomputable def portRows : List EvRow :=
  [{ α := Fin 4 × Nat, instr := fun a => .portQuietEnd a.1, can := fun s a => decide ((s.port a.1.val).quietEnd = some a.2) && s.due a.2,
     eff := fun s a => (s.setPort a.1.val { s.port a.1.val with quietEnd := none }).raise { src := 0x0C1, clr := true, obj := a.1.val } },
   { α := Fin 4 × List Byte × WaitCmd, instr := fun a => .barrierRelease a.1 a.2.1,
     can := fun s a => s.takesCommands && decide (s.readyWait a.1 [] s.cmd.waiting = some a.2.2),
     eff := fun s a => State.handleOp { s with cmd.waiting := s.cmd.waiting.erase a.2.2 } a.2.2.cls a.2.2.op a.2.2.cmd a.2.1 },
   { α := Fin 4 × List Byte × WaitPacket, instr := fun a => .barrierRelease a.1 a.2.1,
     can := fun s a => s.takesCommands && (s.readyWait a.1 [] s.cmd.waiting).isNone &&
       decide ((s.cmd.arrived.find? fun p => decide (p.port = a.1)) = some a.2.2),
     eff := fun s a => State.admission { s with cmd.arrived := s.cmd.arrived.erase a.2.2 } a.2.2 a.2.1 },
   { α := Fin 4 × BitVec 32 × Deferred × Deferred × BitVec 8 × List Word, instr := fun a => .deferredReply a.1 a.2.1,
     can := fun s a => decide (s.deferredOf a.1 a.2.1 = some a.2.2.1) && decide ((s.writeDone a.2.2.1).deferredOf a.1 a.2.1 = some a.2.2.2.1) &&
       decide (a.2.2.2.1.answer = some a.2.2.2.2),
     eff := fun s a =>
       let t := s.writeDone a.2.2.1
       let d := a.2.2.2.1
       State.answer { t with cmd.deferred := t.cmd.deferred.erase d } d.cmd d.cls d.op a.2.2.2.2.1.toNat 0 a.2.2.2.2.2 },
   { α := MgmtRx, instr := .mgmtFrameReceive,
     can := fun s f => s.host.craft.cp2Link && s.awake && (!f.fcsOk || decide (4132 < f.octets.length + 4)),
     eff := fun s f => State.count { s with host.craft.cp2Mac := s.host.craft.cp2Mac + 1 } 0x0908 2 1 },
   { α := MgmtRx, instr := .mgmtFrameReceive,
     can := fun s f => mgmtTaken s f && decide ((ethHead f.octets).etype = 0x88B5) && decide ((ethHead f.octets).dst = s.host.craft.mgmtMac.toNat),
     eff := fun s f =>
       let h := ethHead f.octets
       let tag : Option (BitVec 16) := if h.vids.isEmpty then none else some (BitVec.ofNat 16 (at_ f.octets 14 2))
       s.arrive ⟨2, h.rest, .eth (BitVec.ofNat 48 (at_ f.octets 6 6)) tag⟩ f.fetched },
   { α := MgmtRx, instr := .mgmtFrameReceive,
     can := fun s f => mgmtTaken s f && decide ((ethHead f.octets).etype ≠ 0x88B5) && s.cp2Ptp (ethHead f.octets),
     eff := fun s f => s.ptpFrame 40 (ethHead f.octets) f.fn f.cycle },
   { α := BitVec 16 × List Byte × List Byte, instr := fun a => .craftWrite a.1 a.2.1 a.2.2,
     can := fun s a =>
       let k := a.1.toNat
       s.spiEn && decide (48 ≤ k) && decide (k ≤ 4096) && decide (k + 2 ≤ a.2.1.length) && s.host.craft.held.isNone &&
         decide (craftCrc (a.2.1.take k) = at_ a.2.1 k 2),
     eff := fun s a => (s.emit (.spi (List.replicate (2 + a.2.1.length) 0xFF))).craftTake false (a.2.1.take a.1.toNat) a.2.2 },
   { α := BitVec 16 × List Byte × List Byte, instr := fun a => .craftWrite a.1 a.2.1 a.2.2,
     can := fun s a => s.spiEn && decide (a.1.toNat < 48),
     eff := fun s a => (s.emit (.spi (List.replicate (2 + a.2.1.length) 0xFF))).craftDiscard false },
   { α := Unit, instr := fun _ => .craftStatus, can := fun s _ => s.spiEn,
     eff := fun s _ => State.emit { s with host.craft.spiDiscard := false } (.spi [s.craftStatus]) },
   { α := Nat, instr := .craftRead, can := fun s n => s.spiEn && s.host.craft.spiReply.isSome && decide (s.craftReadOctets.length ≤ n),
     eff := fun s n => State.emit { s.emit (.spi (s.craftReadOctets.take n)) with host.craft.spiReply := none, host.craft.held := none }
       (.pin .craftAtn true) },
   { α := Nat, instr := .craftRead, can := fun s n => s.spiEn && decide (n < s.craftReadOctets.length),
     eff := fun s n => s.emit (.spi (s.craftReadOctets.take n)) },
   { α := List Byte × List Byte, instr := fun a => .opticalFrameReceive a.1 false a.2,
     can := fun s a =>
       let o := unNibble a.1
       s.optListens && !a.1.isEmpty && a.1.all isNibble && decide (a.1.length % 2 = 0) && decide (2 ≤ o.length) && s.host.craft.held.isNone &&
         decide (craftCrc (o.take (o.length - 2)) = at_ o (o.length - 2) 2),
     eff := fun s a => s.craftTake true ((unNibble a.1).take ((unNibble a.1).length - 2)) a.2 },
   { α := List Byte × List Byte, instr := fun a => .opticalFrameReceive a.1 true a.2, can := fun s a => s.optListens && !a.1.isEmpty,
     eff := fun s _ => s.craftDiscard true },
   { α := Bool, instr := .opticalLineFault, can := fun s _ => s.optListens,
     eff := fun s noise =>
       let c := s.host.craft
       let t : State := if noise then { s with host.craft.optState := .quietNoise, host.craft.noises := c.noises + 1 }
         else { s with host.craft.optState := .quietFlood, host.craft.floods := c.floods + 1 }
       let first := decide (c.lineEvent = 0 ∨ c.lineEvent + 8000 ≤ s.now + 1)
       (State.count { t with host.craft.lineEvent := if first then s.now + 1 else c.lineEvent } (if noise then 0x090B else 0x090A) 1 1).raiseIf
         first { src := 0x0D8 } },
   { α := Unit, instr := fun _ => .opticalQuietEnd, can := fun s _ => decide (s.host.craft.optState = .quietFlood ∨ s.host.craft.optState = .quietNoise),
     eff := fun s _ => { s with host.craft.optState := .idle } },
   { α := List Byte, instr := fun _ => .opticalReplySend, can := fun s r => decide (s.host.craft.optReply = some r) && s.optEn,
     eff := fun s r => State.emit { s with host.craft.optReply := none, host.craft.held := none } (.optical (opticalFrame r)) },
   { α := Bool, instr := .cp2LinkChange, can := fun _ _ => true, eff := fun s up => { s with host.craft.cp2Link := up } }]

/-! Host ports, rings and channels (13_host_ports_dma.md) -/

/-- A channel's instruction at its pc, of the opcode asked for, in a channel that runs. -/
def runs (s : State) (c op : Nat) (i : DmaInstr) : Bool := decide (s.chanInstr c .running op = some i)

noncomputable def hostRows : List EvRow :=
  [{ α := Bool × Bool, instr := fun a => .hostPortReset a.1 a.2, can := fun _ _ => true,
     eff := fun s a =>
       let was := s.hostPort a.1
       let t := (s.host.rings.map (·.1)).foldl (fun s n => s.ringLost a.1 n) s
       let t := (t.host.chans.map (·.1)).foldl (fun s c => s.chanLost a.1 c) t
       let t := if a.2 then t else t.endNotice a.1.toNat
       let t := t.setHostPort a.1 { HostPort.reset with linkUp := was.linkUp && a.2 }
       (if was.linkUp && !a.2 then t.hostLink a.1 false else t).notify },
   { α := Bool × Bool, instr := fun a => .hostPortLinkUp a.1 a.2, can := fun s a => (s.hostPort a.1).linkUp && decide (s.boot.mode ≠ .booting),
     eff := fun s a => s.setHostPort a.1 { s.hostPort a.1 with linkUp := true, msixEn := a.2 } },
   { α := Bool × Bool, instr := fun a => .hostPortLinkUp a.1 a.2, can := fun s a => !(s.hostPort a.1).linkUp && decide (s.boot.mode ≠ .booting),
     eff := fun s a => (s.setHostPort a.1 { s.hostPort a.1 with linkUp := true, msixEn := a.2 }).hostLink a.1 true },
   { α := Fin 7 × MatrixLock, instr := fun a => .matrixLockBroken a.1, can := fun s a => decide (s.lockOf a.1.val = some a.2),
     eff := fun s a =>
       let x := s.host.matrix
       let t : State := { s with host.matrix.locks := x.locks.erase a.2, host.matrix.broken := x.broken ++ [⟨a.1.val, a.2.master, false⟩] }
       ((t.matrixCapture a.2.master 0 a.1.val kLockBroken false 0).raise { src := 0x0D1, code := a.2.master, aux := a.1.val }).drained },
   { α := BitVec 3, instr := .matrixErrCountRead, can := fun s m => s.regReadable m.toNat 0x6018,
     eff := fun s m =>
       let s := s.filterAccess m.toNat 6 0x6018 false none
       readEff { s with host.matrix.errCount := 0 } (BitVec.ofNat 32 s.host.matrix.errCount) },
   { α := Fin 64, instr := .ringPoll, can := fun s n => (s.ring n.val).en && decide ((s.ring n.val).poll ≠ 0),
     eff := fun s n => s.setRing n.val { s.ring n.val with rung := true } },
   { α := Fin 64 × DescRx × Nat × List Byte, instr := fun a => .ringDescriptor a.1 a.2.1 a.2.2.1 a.2.2.2,
     can := fun s a => decide ((s.ring a.1.val).kind ≠ 1),
     eff := fun s a => s.readDescriptor a.1.val a.2.1 fun s => s.takeDescriptor a.1.val a.2.1 },
   { α := Fin 64 × DescRx × Nat × List Byte, instr := fun a => .ringDescriptor a.1 a.2.1 a.2.2.1 a.2.2.2,
     can := fun s a => decide ((s.ring a.1.val).kind = 1) && s.mayFetch a.1.val a.2.2.1,
     eff := fun s a => s.readDescriptor a.1.val a.2.1 fun s => s.takeCommand a.1.val a.2.1 a.2.2.2 },
   { α := Fin 64, instr := .ringIdle, can := fun s n => !(s.ring n.val).en && !(s.ring n.val).stalled && (s.ring n.val).open_.isNone,
     eff := fun s n => s.setRing n.val { s.ring n.val with idle := true, rung := false, frame := [], spoilt := false, stalled := false } },
   { α := Fin 64 × List DescRx × List Byte × List (List Byte), instr := fun a => .hostReceiveFrame a.1 a.2.1,
     can := fun s a =>
       let r := s.ring a.1.val
       r.en && decide (r.kind = 4) && decide ((s.cfg.b.queue r.obj).kind = 4) && s.queueOn r.obj &&
         decide ((s.queue r.obj).rxStore = a.2.2.1 :: a.2.2.2) &&
         decide (a.2.2.1.length ≤ ((r.owned a.2.1).map fun d => if (descFault d 4).isNone then (descLen d) else 0).sum) &&
         decide ((s.setQueue r.obj { s.queue r.obj with rxStore := a.2.2.2 }).ring a.1.val = r),
     eff := fun s a =>
       let r := s.ring a.1.val
       State.fillFrame (r.owned a.2.1) a.1.val r.obj true a.2.2.1 (s.setQueue r.obj { s.queue r.obj with rxStore := a.2.2.2 }) },
   { α := Fin 64 × DescRx × BitVec 48 × List Byte × Bool × (Nat × Conn), instr := fun a => .grainCaptureBlock a.1 a.2.1 a.2.2.1 a.2.2.2.1 a.2.2.2.2.1,
     can := fun s a =>
       let r := s.ring a.1.val
       decide (s.analyserRecord r.obj = some a.2.2.2.2.2) && r.en && decide (r.kind = 6) && decide (r.blk ≠ 0) &&
         decide (a.2.2.1.toNat % r.blk = 0) && !(r.owned [a.2.1]).isEmpty && (descFault a.2.1 6).isNone &&
         decide (a.2.2.2.2.2.2.width * r.blk ≤ descLen a.2.1),
     eff := fun s a =>
       let n := a.1.val
       let r := s.ring n
       let w := a.2.2.2.2.2.2.width
       let grains := a.2.2.2.1
       let block := if r.reshuf then toGrains w r.blk grains else (grains ++ List.replicate (w * r.blk) 0).take (w * r.blk)
       (s.emit (.hostWrite r.portB a.2.1.w0 block)).completeHead n a.2.1 dmOk { len := w * r.blk, qb := a.2.2.2.2.1, info := a.2.2.1.toNat % 2 ^ 32 } },
   { α := Fin 64 × DescRx × BitVec 48 × (Nat × Conn), instr := fun a => .grainPlaybackBlock a.1 a.2.1 a.2.2.1,
     can := fun s a =>
       let r := s.ring a.1.val
       decide (s.generatorRecord r.obj = some a.2.2.2) && r.en && decide (r.kind = 7) && decide (r.blk ≠ 0) && decide (a.2.2.1.toNat % r.blk = 0) &&
         !(r.owned [a.2.1]).isEmpty && (descFault a.2.1 7).isNone && decide (a.2.2.2.2.width * r.blk ≤ descLen a.2.1),
     eff := fun s a =>
       let n := a.1.val
       let r := s.ring n
       let w := a.2.2.2.2.width
       let block := if r.reshuf then toFrames w r.blk a.2.1.octets else a.2.1.octets.take (w * r.blk)
       (s.emit (.traffic a.2.2.2.2.a block false)).completeHead n a.2.1 dmOk { len := w * r.blk, info := a.2.2.1.toNat % 2 ^ 32 } },
   { α := Fin 64 × BitVec 3, instr := fun a => .ringDropsRead a.1 a.2, can := fun s a => s.regReadable a.2.toNat (ringCfgOff a.1.val + 0xC),
     eff := fun s a =>
       let s := s.filterAccess a.2.toNat 6 (ringCfgOff a.1.val + 0xC) false none
       readEff (s.setRing a.1.val { s.ring a.1.val with drops := 0 }) (BitVec.ofNat 32 (s.ring a.1.val).drops) },
   { α := Fin 8 × Nat × List Word × DmaInstr, instr := fun a => .pdmaMove a.1 a.2.1 a.2.2.1,
     can := fun s a => runs s a.1.val 1 a.2.2.2 && !(a.2.2.2.lock && decide (4 ≤ a.1.val)) && decide (a.2.2.2.mode = 0),
     eff := fun s a =>
       let c := a.1.val
       let t := s.atIndex c
       (t.plainMove (Nat.min a.2.1 (a.2.2.2.count - (t.chan c).done_)) c a.2.2.2 a.2.2.1).drained },
   { α := Fin 8 × Nat × List Word × DmaInstr, instr := fun a => .pdmaMove a.1 a.2.1 a.2.2.1,
     can := fun s a => runs s a.1.val 1 a.2.2.2 && !(a.2.2.2.lock && decide (4 ≤ a.1.val)) && decide (a.2.2.2.mode ≠ 0),
     eff := fun s a => ((s.atIndex a.1.val).reshuffle a.1.val a.2.2.2 a.2.2.1).drained },
   { α := Fin 8 × DmaInstr, instr := fun a => .pdmaLoop a.1, can := fun s a => runs s a.1.val 2 a.2,
     eff := fun s a =>
       let c := a.1.val
       let t := s.atIndex c
       let x := t.chan c
       if a.2.count = 0 then t.chanGo c (x.pc + 1 + a.2.body)
       else (t.setChan c { x with loops := ⟨x.pc, x.pc + 1 + a.2.body, a.2.count⟩ :: x.loops }).chanGo c (x.pc + 1) },
   { α := Fin 8 × DmaInstr, instr := fun a => .pdmaWait a.1, can := fun s a => runs s a.1.val 3 a.2 && decide (a.2.mode = 3) && !(s.chan a.1.val).doorbell,
     eff := fun s a =>
       let c := a.1.val
       let t := s.atIndex c
       let q := t.ev.snapSeq.toNat
       let t := t.setChan c { t.chan c with waitFor := if q % 2 = 0 then q + 2 else q + 1 }
       t.setChan c { t.chan c with mode := .waiting } },
   { α := Fin 8 × DmaInstr, instr := fun a => .pdmaWaitEnd a.1,
     can := fun s a => decide (s.chanInstr a.1.val .waiting 3 = some a.2) && s.waitMet a.1.val a.2 true,
     eff := fun s a => s.waitDone a.1.val a.2 },
   { α := Fin 8 × DmaInstr, instr := fun a => .pdmaSignal a.1, can := fun s a => runs s a.1.val 4 a.2 && !a.2.write,
     eff := fun s a => (s.atIndex a.1.val).signalled a.1.val a.2 }]

/-! Events, counters and traces (14_events_counters.md) -/

noncomputable def eventRows : List EvRow :=
  [{ α := EvRec × List EvRec, instr := fun _ => .eventStagingDrain,
     can := fun s a => decide (s.ev.staging = a.1 :: a.2),
     eff := fun s a =>
       let i := s.jr.nextIdx
       let held := i.toNat - s.jr.oldest
       let t : State := { s with ev.staging := a.2, jr.devLog := s.jr.devLog.put ⟨0, 0⟩ (i.toNat % 4096) a.1, jr.nextIdx := i + 1,
                                 jr.oldest := if 4096 ≤ held then s.jr.oldest + 1 else s.jr.oldest }
       let er := fld (t.srcCfg (fld a.1.w0 63 55)) 19 16
       if er ≤ 7 then t.deliverEvent er a.1 else t },
   { α := Fin 8 × Nat × OpenDesc, instr := fun a => .eventRingFlush a.1,
     can := fun s a => decide (s.eventRingOf a.1.val = some a.2.1) && decide ((s.ring a.2.1).open_ = some a.2.2) && !a.2.2.placed.isEmpty,
     eff := fun s a => s.closeEvents a.2.1 },
   { α := Fin 8 × BitVec 3, instr := fun a => .eringStatRead a.1 a.2, can := fun s a => s.regReadable a.2.toNat (0xA004 + 0x10 * a.1.val),
     eff := fun s a =>
       let s := s.filterAccess a.2.toNat 6 (0xA004 + 0x10 * a.1.val) false none
       readEff (s.setEvRing a.1.val { s.evRing a.1.val with lost := 0 }) (s.eringStat a.1.val) },
   { α := Fin 4 × BitVec 3, instr := fun a => .tgtClaim a.1 a.2,
     can := fun s a => ownTarget a.2.toNat a.1.val && s.regReadable a.2.toNat (0x9000 + 0x40 * a.1.val),
     eff := fun s a =>
       let s := s.filterAccess a.2.toNat 6 (0x9000 + 0x40 * a.1.val) false none
       readEff (s.claim a.1.val).2 (s.claim a.1.val).1 },
   { α := Fin 4, instr := .moderationExpiry, can := fun _ _ => true,
     eff := fun s t => (s.setTarget t.val { s.target t.val with timer := false }).notifyOne t.val },
   { α := Fin 8 × Bool, instr := fun a => .extEvent a.1 a.2, can := fun s a => s.awake && (s.evPin a.1.val).level != a.2,
     eff := fun s a => (s.setEvPin a.1.val { s.evPin a.1.val with level := a.2 }).raiseIf ((s.evPin a.1.val).edge a.2)
       { src := 0x010 + a.1.val, clr := !a.2, obj := a.1.val } },
   { α := Bool, instr := .frzNEdge, can := fun s l => s.awake && (s.evPin 8).level != l && (s.evPin 8).edge l,
     eff := fun s l => { s.setEvPin 8 { s.evPin 8 with level := l } with ev.snapReq := true } },
   { α := Unit, instr := fun _ => .snapshotDone, can := fun s _ => s.ev.snapRunning,
     eff := fun s _ =>
       let seq := s.ev.snapSeq + 1
       let t := (State.raise { s with ev.snapSeq := seq, ev.snapRunning := false } { src := 0x003 }).fix (.snapshot seq.toNat) stOk
         [s.ev.snapFn.setWidth 64, seq.setWidth 64]
       let write (d : Deferred) : Deferred := match d.waits with
         | .counterDump a => { d with waits := .counterWrite a }
         | _ => d
       { t with cmd.deferred := t.cmd.deferred.map write } },
   { α := Bool × BitVec 16, instr := fun a => .counterHubRead a.1 true a.2 4, can := fun s a => s.busLive (4 + a.1.toNat) && decide (a.2.toNat % 8 = 0),
     eff := fun s a =>
       let o := a.2.toNat
       State.emit { s with ev.latches := s.ev.latches.put none (latchIndex a.1 true o) (some (BitVec.ofNat 32 (fld (s.userWord o) 63 32))) }
         (.hostRead a.1 ((leWord (s.userWord o)).take 4)) },
   { α := Bool × BitVec 16, instr := fun a => .counterHubRead a.1 false a.2 4,
     can := fun s a => s.busLive (4 + a.1.toNat) && decide (s.boot.mode = .running) && decide (a.2.toNat % 8 = 0),
     eff := fun s a =>
       let o := a.2.toNat
       let s := s.filterAccess (4 + a.1.toNat) 2 o false none
       State.emit { s with ev.latches := s.ev.latches.put none (latchIndex a.1 false o) (some (BitVec.ofNat 32 (fld (s.hubWord o) 63 32))) }
         (.hostRead a.1 ((leWord (s.hubWord o)).take 4)) },
   { α := Unit, instr := fun _ => .counterCheckpoint, can := fun s _ => decide (s.fnNat % 8000 = 0), eff := fun s _ => s.checkpoint },
   { α := BitVec 32, instr := .traceTimeout, can := fun _ _ => true,
     eff := fun s k =>
       let late (r : TraceRec) : TraceRec := if r.index = k ∧ !r.closed then { r with timeout := true } else r
       { s with ev.traces := s.ev.traces.map late } }]

/-! Memories and the journal (15_memories_journal.md) -/

noncomputable def memoryRows : List EvRow :=
  [{ α := BitVec 32 × Bool, instr := fun a => .mapRepair a.1 a.2,
     can := fun s a => s.bush.badMapWords.contains a.1.toNat && !(a.2 && (s.cmd.held || s.boot.frozen)) && s.pwr.fabOn,
     eff := fun s a => State.raise (State.setEcc { s with bush.badMapWords := s.bush.badMapWords.erase a.1.toNat } 1 a.1.toNat .clean)
       { src := 0x123, obj := a.1.toNat } },
   { α := Option Int, instr := .refreshBandCheck, can := fun s _ => decide (s.pwr.mode = .gill),
     eff := fun s t =>
       let hot := t.any fun t => decide (125 * 256 < t)
       { s with mem.band := nextBand s.mem.band t, mem.hot := s.mem.hot || hot } },
   { α := Unit, instr := fun _ => .journalVerify [], can := fun _ _ => true,
     eff := fun s _ =>
       let t := s.takeFree.2
       t.setStoreCounts 8 { t.storeCounts 8 with scrubWords := 65536, scrubTime := s.takeFree.1.toNat % 65536 } },
   { α := Unit, instr := fun _ => .journalCompactionStart,
     can := fun s _ => !s.jr.compacting && !s.cmd.held && decide (halfWords * 75 < s.logFill * 100),
     eff := fun s _ => { s with jr.compacting := true, jr.compactFrom := s.jr.lastSeq } },
   { α := Unit, instr := fun _ => .journalCompacted, can := fun s _ => s.jr.compacting, eff := fun s _ => s.compactEnd },
   { α := Unit, instr := fun _ => .pfwCheckpoint, can := fun s _ => !s.pwr.pfwLow && s.awake,
     eff := fun s _ =>
       let t : State := { s.tearFlash with pwr.pfwLow := true }
       let t : State := { (t.abandonEntry 2) with cmd.held := true, jr.compacting := false }
       ((List.range 16).foldl (fun s _ => s.drainStaging) t.checkpoint).powerFailRecord.raise { src := 0x128 } },
   { α := Unit, instr := fun _ => .pfwReturn, can := fun s _ => s.pwr.pfwLow && s.awake,
     eff := fun s _ => State.raise { s with pwr.pfwLow := false, cmd.held := false } { src := 0x128, clr := true } },
   { α := BitVec 3, instr := .memEccStatRead, can := fun s m => s.regReadable m.toNat 0x70,
     eff := fun s m =>
       let s := s.filterAccess m.toNat 6 0x70 false none
       readEff { s with mem.statCe := 0, mem.statUe := 0, mem.statPoison := 0 } s.eccStat },
   { α := Unit, instr := fun _ => .vddNvLoss, can := fun _ _ => true, eff := fun s _ => { s with jr.compacting := false } }]

/-! Paired operation (16_paired_operation.md) -/

/-- A mirror message is taken: it is sound, and it is the next of the stream. -/
def inStream (s : State) (words : List Word) : Bool :=
  let h := nth 0 words 0
  let n := fld h 55 40
  s.isStandby && s.pair.mateUp && decide (words.length = n + 2) && decide (crc32 (words.take (n + 1)) = fld (nth 0 words (n + 1)) 31 0) &&
    mateType (fld h 63 56) && decide (fld h 63 56 ≠ 0x0A) && decide (fld h 39 0 = (s.pair.mirrorRecv + 1) % 2 ^ 40)

noncomputable def pairRows : List EvRow :=
  [{ α := Unit, instr := fun _ => .tokenClaim, can := fun s _ => s.mayClaim && decide (s.pair.claimCause ≠ 0),
     eff := fun s _ => State.drive { s with pair.readback := true } true },
   { α := Unit, instr := fun _ => .tokenClaim, can := fun s _ => s.mayClaim && decide (s.pair.claimCause = 0),
     eff := fun s _ => (State.drive { s with pair.claimCause := 2, pair.readback := true } true).raiseIf
       (s.pair.stale || decide (s.pair.mode = .syncing)) { src := 0x146 } },
   { α := Unit, instr := fun _ => .claimReadback false, can := fun s _ => s.pair.readback,
     eff := fun s _ => { s with pair.readback := false, pair.token := true, pair.actOutNext := some true, pair.claimHigh := false } },
   { α := Unit, instr := fun _ => .tokenRelease, can := fun s _ => s.pair.token, eff := fun s _ => (s.abandonHand.letGo).role .faulted 7 },
   { α := Unit, instr := fun _ => .tokenRelease, can := fun s _ => !s.pair.token, eff := fun s _ => s.abandonHand.letGo },
   { α := List Word, instr := .statusBlockReceive,
     can := fun s w => s.mateLinkUp && decide (w.length = 16) && decide (crc32 (w.take 15) = fld (nth 0 w 15) 31 0), eff := fun s w => s.statusGood w },
   { α := List Word, instr := .statusBlockReceive, can := fun s w => s.mateLinkUp && decide (w.length ≠ 16) && decide (s.pair.badBlocks < 7),
     eff := fun s _ => { s with pair.badBlocks := s.pair.badBlocks + 1 } },
   { α := List Word × Option MateImage, instr := fun a => .mirrorMessageReceive a.1 a.2, can := fun s a => inStream s a.1,
     eff := fun s a =>
       let h := nth 0 a.1 0
       (s.mateApply (fld h 63 56) ((a.1.drop 1).take (fld h 55 40))).mateTaken (fld h 63 56) (fld h 39 0) },
   { α := MirrorWait, instr := fun _ => .mirrorTimeout, can := fun s w => decide (s.pair.waits = [w]) && s.due w.limit,
     eff := fun s w => (State.setStale { s with pair.waits := [] }).answer w.cmd w.cls w.op w.status w.detail w.data },
   { α := Int × Nat, instr := fun a => .pairStep a.1 a.2,
     can := fun s a => s.pair.mateUp && s.paired && !s.pair.token && decide (-4000 ≤ a.1 ∧ a.1 ≤ 4000) && decide (a.2 < 8000),
     eff := fun s a => { s with pair.phase := BitVec.ofInt 32 a.1, pair.stepGood := a.2 } },
   { α := Nat, instr := fun _ => .handbackWtrExpiry, can := fun s t => decide (s.pair.wtrEnd = some t) && s.due t,
     eff := fun s _ => { s with pair.wtrEnd := none, pair.hand := some (fnAdd s.tick.fn 16).toNat, pair.handGive := false, pair.handAgreed := false,
                                pair.handFrom := s.now, pair.handCause := 4, pair.handCode := 1 } },
   { α := Nat, instr := fun _ => .handoverTick,
     can := fun s h => decide (s.pair.hand = some h) && s.pair.handAgreed && decide (s.tick.fn = BitVec.ofNat 48 h - 1) && !s.pair.handGive,
     eff := fun s _ => s.drive true },
   { α := Nat, instr := fun _ => .handoverTick,
     can := fun s h => decide (s.pair.hand = some h) && s.pair.handAgreed && decide (s.tick.fn = BitVec.ofNat 48 h) && s.pair.handGive,
     eff := fun s h => ((s.setActOut false).role .standby s.pair.handCause).fix .pairSwitch stOk [BitVec.ofNat 64 h] },
   { α := Nat, instr := fun _ => .handoverTick,
     can := fun s h => decide (s.pair.hand = some h) && s.pair.handAgreed && decide (s.tick.fn = BitVec.ofNat 48 h) && !s.pair.handGive,
     eff := fun s _ => State.becomeActive ({ s with pair.token := true, pair.stale := false }.setActOut true) s.pair.handCause },
   { α := Nat, instr := fun _ => .bootWaitExpiry, can := fun s t => decide (s.pair.bootWaitEnd = some t) && s.due t,
     eff := fun s _ =>
       let after := if s.pair.home then s.now else s.now + 8000
       { s with pair.bootWaitEnd := none, pair.claimCause := 1, pair.claimAfter := after } },
   { α := Bool, instr := .actClaimChange, can := fun s _ => s.pair.home, eff := fun s high => { s with pair.claimHigh := high } }]

/-! Power (17_power.md) -/

/-- A step of a wake that succeeds: the power-fail warning is not up. -/
def wakes (s : State) (n : Nat) : Bool := decide (s.pwr.mode = .waking n) && !s.pwr.pfwLow

noncomputable def powerRows : List EvRow :=
  [{ α := Unit, instr := fun _ => .gillEntryComplete, can := fun s _ => decide (s.pwr.mode = .entry) && !s.due s.pwr.entryEnd, eff := fun s _ => s.sleep },
   { α := Unit, instr := fun _ => .gillEntryTimeout, can := fun s _ => s.due s.pwr.entryEnd && decide (s.pwr.mode = .entry),
     eff := fun s _ => (State.wdtResume { s with pwr.mode := if s.pwr.fromFirkin then .firkin else .run }).raise { src := 0x165, code := 3 } },
   { α := BitVec 4 × BitVec 8, instr := fun a => .wakeSource a.1 a.2 true,
     can := fun s a =>
       let o := if a.1.toNat ≤ 3 then a.2.toNat else 0
       s.wakeOn a.1.toNat o && decide (s.pwr.mode = .gill) && s.wakeArmed a.1.toNat o && !s.pwr.wakePending,
     eff := fun s a =>
       let o := if a.1.toNat ≤ 3 then a.2.toNat else 0
       let t : State := { s with pwr.wakeSrc := a.1.toNat, pwr.wakeObj := o, pwr.wakeAttempt := 0, pwr.wakeGivenUp := false, pwr.wakeTime := 0 }
       State.wakeBegin { t with pwr.wakeStatus := setFld s.pwr.wakeStatus 27 24 0 } },
   { α := BitVec 4 × BitVec 8, instr := fun a => .wakeSource a.1 a.2 false,
     can := fun s a => s.wakeOn a.1.toNat (if a.1.toNat ≤ 3 then a.2.toNat else 0) && decide (s.pwr.mode = .gill),
     eff := fun s a => s.arm a.1.toNat (if a.1.toNat ≤ 3 then a.2.toNat else 0) },
   { α := Nat × Nat, instr := fun a => .wakeStepReady a.1 a.2, can := fun s _ => wakes s 1 && (s.pwr.voscOn || !s.voscEn),
     eff := fun s _ => { s with pwr.mode := .waking 2, pwr.avsBusy := false, pwr.vcore := 750, pwr.rcClocks := s.ident.strapCompat } },
   { α := Nat × Nat, instr := fun a => .wakeStepReady a.1 a.2, can := fun s _ => wakes s 2,
     eff := fun s _ => { s with pwr.mode := .waking 3, pwr.oscRunning := true } },
   { α := Nat × Nat, instr := fun a => .wakeStepReady a.1 a.2, can := fun s _ => wakes s 3,
     eff := fun s _ => { s with pwr.mode := .waking 4, pwr.fabOn := true, pwr.pktOn := true } },
   { α := Nat × Nat, instr := fun a => .wakeStepReady a.1 a.2, can := fun s _ => wakes s 4, eff := fun s a => s.wakeStep4 a.1 a.2 },
   { α := Nat × Nat, instr := fun a => .wakeStepReady a.1 a.2, can := fun s _ => wakes s 5,
     eff := fun s _ => State.raise { s with pwr.mode := if s.wakeFirkin then .firkin else .run } { src := 0x160, code := s.wakeFirkin.toNat } },
   { α := BitVec 4 × Nat × Nat, instr := fun a => .wakeStepTimeout a.1 a.2.1,
     can := fun s a => decide (s.pwr.mode = .waking a.2.2) && (wakeCodes a.2.2).contains a.1.toNat && decide (a.1.toNat ≠ 9),
     eff := fun s a =>
       let c := a.1.toNat
       let t := State.wakeLogAdd { s with pwr.wakeTime := a.2.1 } c s.pwr.sleep.fn
       let more := decide (t.pwr.wakeAttempt ≤ t.retries)
       { t.wakeDown (c = 3) with pwr.wakeFails := t.pwr.wakeFails ++ [(c, t.pwr.wakeAttempt)], pwr.wakePending := more, pwr.wakeGivenUp := !more } },
   { α := Unit, instr := fun _ => .wakeRetry,
     can := fun s _ => decide (s.pwr.mode = .gill) && s.pwr.wakePending && !s.pwr.pfwLow && !(s.pwr.voscLatched && !s.pwr.voscOn),
     eff := fun s _ => s.wakeBegin },
   { α := Nat, instr := .gillTimebaseSwitch, can := fun s _ => !s.awake && decide (s.pwr.gapSrc ≠ 2),
     eff := fun s n =>
       let t := s.endStretch n
       { t with pwr.gapSrc := t.gillSource (t.pwr.gapSrc + 1), pwr.oscRunning := if t.pwr.gapSrc = 0 then false else t.pwr.oscRunning } },
   { α := Nat × Nat, instr := fun a => .timebaseCalibration (some a.1) a.2,
     can := fun s a => decide (s.pwr.mode = .run ∨ s.pwr.mode = .firkin) && s.pwr.oscRunning && decide (a.2 ≠ 0),
     eff := fun s a => { s with pwr.calXtal := a.1, pwr.calRc := a.2 } },
   { α := BitVec 10, instr := .avsRequestDone,
     can := fun s mv => s.pwr.avsBusy && decide (s.pwr.avsRequest ≤ mv.toNat + 15) && decide (mv.toNat ≤ s.pwr.avsRequest + 15),
     eff := fun s mv => { s with pwr.avsBusy := false, pwr.vcore := mv, pwr.avsTimeouts := 0, pwr.avsNacks := 0 } },
   { α := Unit, instr := fun _ => .avsTimeout, can := fun s _ => s.pwr.avsBusy && decide (s.pwr.avsTimeouts < 2),
     eff := fun s _ => { s with pwr.avsBusy := false, pwr.avsTimeouts := s.pwr.avsTimeouts + 1 } },
   { α := Unit, instr := fun _ => .avsTimeout, can := fun s _ => s.pwr.avsBusy && decide (2 ≤ s.pwr.avsTimeouts),
     eff := fun s _ => State.avsFail { s with pwr.avsBusy := false, pwr.avsTimeouts := s.pwr.avsTimeouts + 1 } },
   { α := Bool, instr := .avsAdjust,
     can := fun s up =>
       let v := if up then s.pwr.avsRequest + 5 else s.pwr.avsRequest - 5
       decide (s.pwr.mode = .run ∨ s.pwr.mode = .firkin) && !s.pwr.avsFault && !s.pwr.avsBusy && s.due s.pwr.avsStepAt && decide (700 ≤ v) &&
         decide (v ≤ 820),
     eff := fun s up => State.avsAsk { s with pwr.avsStepAt := s.now + 8 } (if up then s.pwr.avsRequest + 5 else s.pwr.avsRequest - 5) },
   { α := Unit, instr := fun _ => .avsNack true, can := fun s _ => s.pwr.avsBusy, eff := fun s _ => s.avsAsk s.pwr.avsRequest },
   { α := Unit, instr := fun _ => .avsNack false, can := fun s _ => decide (s.pwr.avsNacks < 2),
     eff := fun s _ => { s with pwr.avsNacks := s.pwr.avsNacks + 1 } },
   { α := BitVec 10, instr := .vcoreOutOfRange, can := fun s mv => decide (mv.toNat < 680 ∨ 840 < mv.toNat) && s.awake && !s.pwr.avsFault,
     eff := fun s mv => (State.fatal { s with pwr.vcore := mv, pwr.avsFault := true, pwr.avsBusy := false }).raiseLater 0x162 false 0 0 },
   { α := Unit, instr := fun _ => .voscLatchOff, can := fun s _ => s.pwr.voscOn,
     eff := fun s _ =>
       let t : State := { s with pwr.voscOn := false, pwr.voscLatched := true, pwr.voscOwed := true, pwr.voscRetryAt := s.now + 8 * s.retryMs }
       (t.emit (.pin .voscOut false)).raiseLater 0x161 false 3 0 },
   { α := Unit, instr := fun _ => .voscRetry,
     can := fun s _ => s.pwr.voscLatched && decide (s.pwr.voscTries < s.retries) && (s.due s.pwr.voscRetryAt || !s.awake),
     eff := fun s _ => State.voscStart { s with pwr.voscTries := s.pwr.voscTries + 1 } },
   { α := Unit, instr := fun _ => .oscinLoss, can := fun s _ => s.awake,
     eff := fun s _ => State.setSys { s with pwr.oscRunning := false, pwr.rcClocks := true, tim.selected := none } .freeRun },
   { α := Unit, instr := fun _ => .oscinLoss, can := fun s _ => !s.awake, eff := fun s _ => { s with pwr.oscRunning := false } },
   { α := Unit, instr := fun _ => .oscinReturn false, can := fun s _ => !s.pwr.oscRunning && s.awake,
     eff := fun s _ => State.setSys { s with pwr.oscRunning := true, pwr.rcClocks := false, tim.acquireAt := s.now } .acquire }]

/-! Reset, boot, tamper and the recovery port (18_reset_recovery.md) -/

/-- An operation of the recovery port is accepted (R587 to R591). -/
def recOk (s : State) (op : Nat) (argOk : Bool) (armed : Option Nat) : Bool := decide (s.recFail op true argOk armed = none)

/-- The state an operation of the recovery port is run in: an arming is used up. -/
def disarmed (s : State) : State := { s with boot.armed := none }

noncomputable def bootRows : List EvRow :=
  [{ α := Straps × Flash × BitVec 4 × Bool, instr := fun a => .powerOnReset a.1 a.2.1 a.2.2.1 a.2.2.2, can := fun _ _ => true,
     eff := fun s a => s.powerOn a.1 a.2.1 a.2.2.1 a.2.2.2 },
   { α := Unit, instr := fun _ => .brownOutReset, can := fun s _ => s.pwr.coreEn, eff := fun s _ => s.restart 2 },
   { α := Unit, instr := fun _ => .watchdogExpiry, can := fun s _ => s.wdtExpires && decide (s.boot.mode ≠ .running), eff := fun s _ => s.restart 3 },
   { α := Unit, instr := fun _ => .watchdogExpiry, can := fun s _ => s.wdtExpires && decide (s.boot.bootedAt + 480000 ≤ s.now), eff := fun s _ => s.restart 3 },
   { α := BitVec 16 × Restore, instr := fun a => .bootComplete a.1 a.2, can := fun s _ => decide (s.boot.mode = .hostFetch),
     eff := fun s a => s.firmware a.1 a.2 },
   { α := BitVec 16 × Restore × Bool × Bool × Image × BootBlock, instr := fun a => .bootComplete a.1 a.2.1,
     can := fun s a => decide (s.boot.mode = .booting) && decide (s.bootPlan = .flash a.2.2.1 a.2.2.2.1 a.2.2.2.2.1 a.2.2.2.2.2),
     eff := fun s a => State.firmware { s.useBlock a.2.2.2.2.2 with
       boot.slot := BitVec.ofNat 2 a.2.2.1.toNat, boot.fallback := a.2.2.2.1, boot.version := a.2.2.2.2.1.version, boot.svn := a.2.2.2.2.1.svn }
       a.1 a.2.1 },
   { α := Unit, instr := fun _ => .bootFail true, can := fun s _ => decide (s.boot.mode = .booting),
     eff := fun s _ => { s with boot.mode := .failed, boot.bootFail := 9 } },
   { α := Nat, instr := fun _ => .bootFail false, can := fun s c => decide (s.boot.mode = .booting) && decide (s.bootPlan = .stop c),
     eff := fun s c => { s with boot.mode := .failed, boot.bootFail := BitVec.ofNat 8 c } },
   { α := Unit, instr := fun _ => .bootGoTimeout, can := fun s _ => decide (s.boot.mode = .hostWait) && decide (s.boot.ctrlState = 0) && s.due s.boot.goBy,
     eff := fun s _ => { s with boot.mode := .failed, boot.bootFail := 6 } },
   { α := Unit, instr := fun _ => .svnAdvance,
     can := fun s _ => decide (s.boot.mode = .running) && s.due (s.boot.bootedAt + 691200000) && decide (s.jr.kept.svnMin.toNat < s.boot.svn.toNat),
     eff := fun s _ => { s with jr.kept := { s.jr.kept with svnMin := s.boot.svn } } },
   { α := Unit, instr := fun _ => .shortRunCountClear,
     can := fun s _ => decide (s.boot.mode = .running) && s.due (s.boot.bootedAt + 480000) && !s.boot.runCredited,
     eff := fun s _ => { s with boot.runCredited := true, jr.kept := { s.jr.kept with shortRuns := [] } } },
   { α := Bool, instr := .watchdogKick, can := fun s _ => !s.boot.frozen && decide (s.boot.mode ≠ .failed) && s.boot.wdtArmed,
     eff := fun s p => { s with boot.wdtKicks := setFlag s.boot.wdtKicks p.toNat true } },
   { α := Half, instr := fun a => .recStatus a true, can := fun s a => recOk s 1 (decide (a = 0)) none,
     eff := fun s _ => (disarmed s).recReply 0 (wordsOctets (disarmed s).recStatus) },
   { α := Half, instr := fun a => .arm a true, can := fun s a => recOk s 2 (decide (fld a 31 16 = 0) && decide (fld a 15 8 = 255 - fld a 7 0)) none,
     eff := fun s a => State.recReply { s with boot.armed := some (BitVec.ofNat 8 (fld a 7 0)) } 0 [] },
   { α := Half × Nat, instr := fun a => .freeze a.1 true a.2, can := fun s a => recOk s 3 (decide (fld a.1 31 1 = 0)) (some a.2) && s.awake,
     eff := fun s a => (((disarmed s).freeze (flag a.1 0)).recDone 3 a.1).recReply 0 [] },
   { α := Half, instr := fun a => .journalTail a true, can := fun s a => recOk s 4 (decide (fld a 31 24 = 0)) none && !s.jr.compacting,
     eff := fun s a => (disarmed s).recReply 0 (wordsOctets (((disarmed s).logTail (if fld a 7 0 = 0 then 256 else fld a 7 0) (fld a 23 8)).flatMap
       fun r => [r.w0, r.w1])) },
   { α := Half × Nat, instr := fun a => .forceStandby a.1 true a.2,
     can := fun s a => recOk s 5 (decide (fld a.1 31 1 = 0)) (some a.2) && !flag a.1 0,
     eff := fun s a => (State.recDone { disarmed s with pair.standbyHold := false } 5 a.1).recReply 0 [] },
   { α := Half × Nat, instr := fun a => .forceStandby a.1 true a.2,
     can := fun s a => recOk s 5 (decide (fld a.1 31 1 = 0)) (some a.2) && flag a.1 0 && s.awake && s.pair.token && (disarmed s).abandonHand.letGo.paired,
     eff := fun s a =>
       let t := (disarmed s).abandonHand.letGo.role .standby 0
       (State.recDone { t with pair.standbyHold := true } 5 a.1).recReply 0 [] },
   { α := Half × Nat × Straps, instr := fun a => .hardReset a.1 true a.2.1 a.2.2,
     can := fun s a => recOk s 6 (decide (fld a.1 31 1 = 0)) (some a.2.1) && !flag a.1 0,
     eff := fun s a =>
       let t := ((disarmed s).logTamper 3 6 false a.1.toNat 0).recReply 0 []
       State.restart { t with boot.owed := t.boot.owed ++ [(0x184, false, 6, 0)] } 5 },
   { α := Half, instr := fun a => .gillRead a true,
     can := fun s a =>
       let n := fld a 23 16
       recOk s 7 (decide (fld a 31 24 = 0) && decide (fld a 15 11 = 0) && decide (n ≠ 0) && decide (fld a 10 0 + n ≤ 1536)) none,
     eff := fun s a => State.recReply (freeWords (fld a 23 16) (disarmed s)).2 0 (wordsOctets (freeWords (fld a 23 16) (disarmed s)).1) },
   { α := Half, instr := fun a => .mboxRead a true, can := fun s a => recOk s 8 (mboxArg a) none,
     eff := fun s a => (disarmed s).recReply 0 (wordsOctets ((List.range (fld a 15 8)).map fun i => s.boot.mbox.look 0 (fld a 7 0 + i))) },
   { α := Half × List Word × Nat, instr := fun a => .mboxWrite a.1 a.2.1 true a.2.2,
     can := fun s a => recOk s 9 (mboxArg a.1) (some a.2.2) && decide (a.2.1.length = fld a.1 15 8),
     eff := fun s a =>
       let m := (List.range a.2.1.length).foldl (fun (m : Tab Word) i => m.put 0 (fld a.1 7 0 + i) (nth 0 a.2.1 i)) s.boot.mbox
       (State.recDone { disarmed s with boot.mbox := m } 9 a.1).recReply 0 [] },
   { α := Fin 4, instr := fun n => .tamper n true,
     can := fun s n => flag (s.tamperCfg n.val) 31 && !s.boot.tamperActive.getLsbD n.val && !flag (s.tamperCfg n.val) 4,
     eff := fun s n =>
       let w := s.tamperCfg n.val
       let t : State := { s with boot.tamperActive := setFlag s.boot.tamperActive n.val true }
       let t := t.logTamper 1 n.val false 0 (fld w 7 0)
       let t := t.setLocks n.val (t.jr.kept.locks.look 0 n.val ||| tamperLocks w)
       if flag w 1 then t.raiseLater 0x182 false 0 n.val else t },
   { α := Fin 4, instr := fun n => .tamper n false, can := fun s n => flag (s.tamperCfg n.val) 31 && s.boot.tamperActive.getLsbD n.val,
     eff := fun s n =>
       let w := s.tamperCfg n.val
       let t : State := { s with boot.tamperActive := setFlag s.boot.tamperActive n.val false }
       let t := t.logTamper 2 n.val false 0 (fld w 1 0)
       if flag w 1 then t.raiseLater 0x182 true 0 n.val else t },
   { α := BitVec 3, instr := .cmdSecRead, can := fun _ _ => true, eff := fun s _ => readEff { s with cmd.secFails := 0 } s.cmdSec },
   { α := Eid × List Byte, instr := fun a => .e1FrameTransmit a.1 a.2, can := fun s a => isE1Eid a.1 && decide (eidKind a.1 ≠ .trib) && s.e1Runs a.1,
     eff := fun s a => s.e1Transmit a.1 a.2 },
   { α := Eid × List Byte, instr := fun a => .e1FrameTransmit a.1 a.2, can := fun s a => isE1Eid a.1 && decide (eidKind a.1 = .trib) && s.c37Runs (eidTrib a.1),
     eff := fun s a => s.c37Transmit (eidTrib a.1) a.2 }]

/-! More rows of the opcodes -/

/-- CKPT_NOW samples the counters and replies with the FN of the checkpoint (R475). -/
def CheckpointTaken : Prop :=
  ∀ s c, Accepts s c (plainOp 0x0B 0x06 OPR []) [] → s.slotsFull c.port = false →
    exec (.ckptNow c) s = .next (State.fix { s.checkpoint with
      cmd.deferred := s.checkpoint.cmd.deferred ++ [⟨c, 0x0B, 0x06, .ckptNow, none⟩] } .ckptNow stOk [s.tick.fn.setWidth 64])

/-- PWR_STATE Gill is answered and begins the entry window (R543, R544). -/
def GillBegins : Prop :=
  ∀ s c, Accepts s c pwrSpec [(decide (fld (c.word 1) 1 0 = 3), 1)] → fld (c.word 1) 1 0 = 2 → s.pwr.mode = .run ∨ s.pwr.mode = .firkin →
    (s.paired && s.pair.token) = false → (s.bush.list.any fun b => b.scheduled && b.live) = false → s.tick.copyLeft = 0 → s.pwr.pfwLow = false →
    exec (.pwrState c) s = .next (State.beginEntry (State.finish { s with
      pwr.fromFirkin := decide (s.pwr.mode = .firkin), pwr.mode := .entry, pwr.entryEnd := s.now + 160, pwr.goal := none }
      c pwrSpec stOk [s.tick.fn.setWidth 64]))

/-! What holds of every opcode -/

/-- Every row of an opcode that is settled when it is handled. -/
noncomputable def opRows : List OpRow :=
  rows0 ++ rows1 ++ rows2 ++ rows3 ++ rows4 ++ [shedRow] ++ rows5 ++ rows6 ++ rows7 ++ rows8 ++ rows9 ++ rows10 ++ rows11 ++ rows12 ++ rows13 ++
    rows14 ++ rows15

/-- The opcode answers a refusal, and does nothing else. -/
def OpRow.refuses (r : OpRow) (s : State) (c : Cmd) (status detail : Nat) : Prop :=
  exec (r.instr c) s = .next (s.answer c (r.spec s c).cls (r.spec s c).op status detail [])

/-- The change commands, with their class and opcode (Table 12.9). -/
def changeCmds : List ((Cmd → Instr) × Nat × Nat) :=
  [(.connAdd, 3, 1), (.connSet, 3, 2), (.connDel, 3, 3), (.structSet, 3, 7), (.tugSet, 3, 9), (.pgAdd, 5, 1), (.pgSet, 5, 2), (.pgDel, 5, 3),
    (.lpSet, 5, 7), (.lpDel, 5, 8), (.alignSet, 6, 1), (.symSet, 6, 5), (.queueAdd, 7, 1), (.queueSet, 7, 2), (.queueDel, 7, 3)]

/-- The opcodes that a class has; every other value is held. -/
def listedOps (cls op : Nat) : Bool :=
  if cls = 2 then decide (1 ≤ op ∧ op ≤ 0x0A) || decide (0x20 ≤ op ∧ op ≤ 0x2D)
  else decide (1 ≤ op ∧ op ≤ nth 0 [6, 11, 0, 11, 8, 11, 11, 12, 18, 7, 12, 7, 7, 11, 11, 4] cls)

/-- What a reply, an event or a journal record never changes: everything but the ports and their replies, the host's side, the events and counters,
the journal, the pair's waiting replies and the outputs. -/
def sameWorks (s t : State) : Prop :=
  t.pending = s.pending ∧ t.freeIdx = s.freeIdx ∧ t.now = s.now ∧ t.ident = s.ident ∧ t.tick = s.tick ∧ t.line = s.line ∧ t.sdh = s.sdh ∧
  t.fab = s.fab ∧ t.mem = s.mem ∧ t.fram = s.fram ∧ t.bush = s.bush ∧ t.prot = s.prot ∧ t.align = s.align ∧ t.pie = s.pie ∧ t.tim = s.tim ∧
  t.pwr = s.pwr ∧ t.boot = s.boot ∧ t.cfg = s.cfg

/-- A register write at an offset reaches its register (R416 to R418, R429 to R431). -/
def writeLands (s : State) (off : Nat) (w : RegW) : Prop := regCan s off w = true

end Sys2Proof.Claims

open Sys2Proof Sys2Proof.Machine Sys2Proof.Claims

/-! The queue and reset -/

/-- A step runs the command at the front of the queue on the state with the queue's rest; on an empty queue it changes nothing, the model's own
choice (DESIGN CHOICE, log entry 2). -/
def Obligations.StepTakesTheFrontCommand : Prop :=
  (∀ (c : Instr) (rest : List Instr) (s : State), step { s with pending := c :: rest } = exec c { s with pending := rest }) ∧
  ∀ s : State, s.pending = [] → step s = .next s

/-- What the spec says of the block right after reset: FN 0 (R38), the SYS DPLL in FREE_RUN (R349), EN, AUTH_LIMIT and QUIET_S of the command ports
(R412), error mode and SUP for both host ports with MATRIX_CTRL not locked (R435), no counter counted (R475), no connection, queue, group or bushel,
the token not held (R508), and no command waiting. -/
def Obligations.ResetState : Prop :=
  State.reset.pending = [] ∧ State.reset.tick.fn = 0 ∧ State.reset.tim.sys = .freeRun ∧
  (∀ n, State.reset.portCfg n = ⟨true, 16, 10⟩) ∧
  State.reset.hangMode = false ∧ State.reset.hostPriv false = SUP ∧ State.reset.hostPriv true = SUP ∧ State.reset.host.matrix.ctrlLocked = false ∧
  (∀ i, State.reset.counter i = Counter.reset) ∧ State.reset.cfg.b.conns = [] ∧ State.reset.cfg.b.queues = [] ∧ State.reset.cfg.b.pgs = [] ∧
  State.reset.bush.list = [] ∧ State.reset.pair.token = false

/-- The stores list nothing at reset: the memory is in its canonical form. -/
def Obligations.ResetIsSound : Prop := State.reset.memWf = true ∧ State.reset.queueWf = true ∧ State.reset.mem.octets = []

/-! Every opcode completes -/

def Obligations.Class00Completes : Prop := ∀ r ∈ rows0, r.completes
def Obligations.Class01Completes : Prop := ∀ r ∈ rows1, r.completes
def Obligations.Class02Completes : Prop := (∀ r ∈ rows2, r.completes) ∧ ∀ r ∈ later2, r.completes
def Obligations.Class03Completes : Prop := ∀ r ∈ rows3, r.completes
def Obligations.Class04Completes : Prop := (∀ r ∈ rows4, r.completes) ∧ shedRow.completes ∧ FetchAppends
def Obligations.Class05Completes : Prop := (∀ r ∈ rows5, r.completes) ∧ ∀ r ∈ later5, r.completes
def Obligations.Class06Completes : Prop := (∀ r ∈ rows6, r.completes) ∧ ∀ r ∈ later6, r.completes
def Obligations.Class07Completes : Prop := ∀ r ∈ rows7, r.completes
def Obligations.Class08Completes : Prop := (∀ r ∈ rows8, r.completes) ∧ ∀ r ∈ later8, r.completes
def Obligations.Class09Completes : Prop := ∀ r ∈ rows9, r.completes
def Obligations.Class0ACompletes : Prop := (∀ r ∈ rows10, r.completes) ∧ ∀ r ∈ later10, r.completes
def Obligations.Class0BCompletes : Prop := (∀ r ∈ rows11, r.completes) ∧ (∀ r ∈ later11, r.completes) ∧ CheckpointTaken
def Obligations.Class0CCompletes : Prop := (∀ r ∈ rows12, r.completes) ∧ (∀ r ∈ later12, r.completes) ∧ SwitchProposes
def Obligations.Class0DCompletes : Prop := (∀ r ∈ rows13, r.completes) ∧ PowerStateMoves ∧ GillBegins
def Obligations.Class0ECompletes : Prop := (∀ r ∈ rows14, r.completes) ∧ StageBegins ∧ CaptureRuns
def Obligations.Class0FCompletes : Prop := ∀ r ∈ rows15, r.completes

/-! Every other command completes -/

def Obligations.RegisterWritesComplete : Prop := ∀ r ∈ regRows, r.completes
def Obligations.FrameTickCommandsComplete : Prop := ∀ r ∈ tickRows, r.completes
def Obligations.LaneCommandsComplete : Prop := ∀ r ∈ lineRows, r.completes
def Obligations.SdhCommandsComplete : Prop := ∀ r ∈ sdhRows, r.completes
def Obligations.FramingCommandsComplete : Prop := ∀ r ∈ framingRows, r.completes
def Obligations.ProtectionAndAlignmentCommandsComplete : Prop := ∀ r ∈ protRows, r.completes
def Obligations.PacketCommandsComplete : Prop := ∀ r ∈ packetRows, r.completes
def Obligations.TimingCommandsComplete : Prop := ∀ r ∈ timingRows, r.completes
def Obligations.PortCommandsComplete : Prop := ∀ r ∈ portRows, r.completes
def Obligations.HostAndDmaCommandsComplete : Prop := ∀ r ∈ hostRows, r.completes
def Obligations.EventAndCounterCommandsComplete : Prop := ∀ r ∈ eventRows, r.completes
def Obligations.MemoryCommandsComplete : Prop := ∀ r ∈ memoryRows, r.completes
def Obligations.PairCommandsComplete : Prop := ∀ r ∈ pairRows, r.completes
def Obligations.PowerCommandsComplete : Prop := ∀ r ∈ powerRows, r.completes
def Obligations.ResetAndRecoveryCommandsComplete : Prop := ∀ r ∈ bootRows, r.completes

/-! What refuses an opcode -/

/-- Step 6 of R401 and Table 12.3: the claimed privilege 3, a privilege above the tenant's, a port that is not the tenant's, a suspended tenant and a
locked port, in this order, each refuse every opcode with NOT_PERMITTED and a DETAIL of its own. -/
def Obligations.ClaimIsChecked : Prop :=
  ∀ r ∈ opRows, ∀ (s : State) (c : Cmd), c.wf = true →
    let ten := s.tenant c.t
    let onPort := decide ((tenPorts ten >>> c.port.val) % 2 = 1)
    (c.rank = 3 → r.refuses s c stNotPermitted 0x01) ∧
    (c.rank ≠ 3 → tenMaxPriv ten < c.rank → r.refuses s c stNotPermitted 0x02) ∧
    (c.rank ≠ 3 → c.rank ≤ tenMaxPriv ten → onPort = false → r.refuses s c stNotPermitted 0x03) ∧
    (c.rank ≠ 3 → c.rank ≤ tenMaxPriv ten → onPort = true → tenState ten = 2 → r.refuses s c stNotPermitted 0x04) ∧
    (c.rank ≠ 3 → c.rank ≤ tenMaxPriv ten → onPort = true → tenState ten ≠ 2 → s.cmd.locked.getLsbD c.port.val = true → c.rank ≠ SUP →
      r.refuses s c stNotPermitted 0x07)

/-- Steps 8 and 9 of R401, R379: a privilege below the opcode's is refused with NOT_PERMITTED and DETAIL 0x05, a bushel named by a command that is no
change with BAD_PARAM and DETAIL 0xFE, and a PLEN too short for the words the opcode reads with BAD_LENGTH and the first word that is missing. -/
def Obligations.PrivilegeAndFormAreChecked : Prop :=
  ∀ r ∈ opRows, ∀ (s : State) (c : Cmd), c.wf = true → s.claimFail c = none →
    (c.rank < (r.spec s c).priv → r.refuses s c stNotPermitted 0x05) ∧
    ((r.spec s c).priv ≤ c.rank → (r.spec s c).change = false → c.bushel ≠ 0 → r.refuses s c stBadParam 0xFE) ∧
    ((r.spec s c).priv ≤ c.rank → (r.spec s c).change = true ∨ c.bushel = 0 → c.plen < 8 * (r.spec s c).masks.length →
      r.refuses s c stBadLength (wordDetail (c.plen / 8)))

/-- R4: a reserved bit that is set in the first parameter word rejects the command with BAD_PARAM, whatever the other words hold. -/
def Obligations.ReservedBitsAreRejected : Prop :=
  ∀ r ∈ opRows, ∀ (s : State) (c : Cmd), c.wf = true → s.claimFail c = none → c.formFail (r.spec s c) = none → (r.spec s c).masks ≠ [] →
    c.word 0 &&& ~~~(nth 0 (r.spec s c).masks 0) ≠ 0 → r.refuses s c stBadParam 0

/-- R520: a standby refuses with STATE what is journalled or mirrored, except the opcodes of class 0x0C. -/
def Obligations.StandbyRefusesChanges : Prop :=
  ∀ r ∈ opRows, ∀ (s : State) (c : Cmd), c.wf = true → s.claimFail c = none → c.formFail (r.spec s c) = none →
    c.faultFrom (r.spec s c).masks (r.bad s c) 0 = none → r.own s c = none → s.isStandby = true → (r.spec s c).cls ≠ 0x0C →
    ((r.spec s c).mirror ≠ 0 ∨ (r.spec s c).jrn ≠ 0 ∨ (r.spec s c).change = true) → r.refuses s c stState 0

/-- A held opcode, and any opcode of a class past 0x0F, is rejected with BAD_OPCODE once the claim stands. -/
def Obligations.HeldOpcodesAreRejected : Prop :=
  ∀ (s : State) (c : Cmd) (cls op : Nat) (fetched : List Byte), listedOps cls op = false →
    s.handleOp cls op c fetched =
      match s.claimFail c with
      | some (st, d) => s.answer c cls op st d []
      | none => s.answer c cls op stBadOpcode 0 []

/-! Frames -/

/-- A reply, whatever its status, and the record and message of a command that succeeded, change nothing but the command ports, the host's side, the
events and counters, the journal, the pair and the outputs. With R409, a refused command has no other effect. -/
def Obligations.RepliesChangeNothingElse : Prop :=
  ∀ (s : State) (c : Cmd) (o : OpSpec) (status detail : Nat) (data : List Word),
    sameWorks s (s.answer c o.cls o.op status detail data) ∧ sameWorks s (s.finish c o status data)

/-- An event changes nothing but the events' own state, the host ports and the outputs: its record is staged, its source fires. -/
def Obligations.EventsChangeNothingElse : Prop :=
  ∀ (s : State) (e : Event), sameWorks s (s.raise e) ∧ (s.raise e).cmd = s.cmd ∧ (s.raise e).pair = s.pair ∧ (s.raise e).jr = s.jr ∧
    (s.raise e).host.rings = s.host.rings ∧ (s.raise e).host.matrix = s.host.matrix ∧ (s.raise e).ev.counters = s.ev.counters

/-- Counting changes nothing but the counters, and what COUNTER_WRAP raises: a counter that does not count the select and the object keeps its
value. -/
def Obligations.CountingChangesOnlyItsCounters : Prop :=
  ∀ (s : State) (sel obj n i : Nat), sameWorks s (s.count sel obj n) ∧ (s.count sel obj n).jr = s.jr ∧
    (n = 0 → s.count sel obj n = s) ∧ (s.cfg.ev.counters = [] → s.count sel obj n = s) ∧
    ((s.cfg.ev.counters.all fun e => !s.counts e.1 e.2 sel obj || (decide (e.1 ≠ i) && decide (e.1 + 1 ≠ i))) = true →
      (s.count sel obj n).counter i = s.counter i)

/-! Rules of the spec -/

/-- R39 and R205: FN_LO keeps FN[47:32] for the read of FN_HI, and LAST_FLIP_LO for LAST_FLIP_HI: whatever FN is by then, the two values are one
frame's. -/
def Obligations.FnIsReadAsAPair : Prop :=
  ∀ (s : State) (m : BitVec 3) (later : BitVec 48),
    (s.regReadable m.toNat 0x10 = true → ∃ t, exec (.fnLoRead m) s = .next t ∧
      t.outs = (s.filterAccess m.toNat 6 0x10 false none).outs ++ [.regRead ((s.tick.fn.setWidth 32).setWidth 64)] ∧
      (State.regRead { t with tick.fn := later } 0x14).1 = BitVec.ofNat 32 (fld s.tick.fn 47 32)) ∧
    (s.regReadable m.toNat 0x28 = true → ∃ t, exec (.lastFlipLoRead m) s = .next t ∧
      t.outs = (s.filterAccess m.toNat 6 0x28 false none).outs ++ [.regRead ((s.tick.lastFlip.setWidth 32).setWidth 64)] ∧
      (State.regRead { t with tick.lastFlip := later } 0x2C).1 = BitVec.ofNat 32 (fld s.tick.lastFlip 47 32))

/-- R43, R37, R218: at a slipped tick the flip check may have passed, and still no bank changes: the configuration in force and the bushels stay. A
flip applies all the changes of its bushel at once, and starts the copy-forward. -/
def Obligations.FlipsAreWholeOrAbsent : Prop :=
  (∀ s : State, (s.flipTick true).cfg.b = s.cfg.b ∧ (s.flipTick true).bush.list = s.bush.list ∧
    (s.flipTick true).bush.activeHalf = s.bush.activeHalf) ∧
  ∀ (s : State) (b : Bushel), (s.flip b).cfg.b = s.cfg.b.applyAll b.changes ∧ (s.flip b).tick.lastFlip = s.tick.fn ∧ (s.flip b).tick.copyLeft = 8 ∧
    (s.flip b).bush.activeHalf = !s.bush.activeHalf

/-- R50: a command to enter the Gill state is refused while a scheduled bushel is pending or a copy-forward runs. -/
def Obligations.NoGillWhileABushelIsScheduled : Prop :=
  ∀ (s : State) (c : Cmd), Accepts s c pwrSpec [(decide (fld (c.word 1) 1 0 = 3), 1)] → fld (c.word 1) 1 0 = 2 →
    ((s.bush.list.any fun b => b.scheduled && b.live) = true ∨ s.tick.copyLeft ≠ 0) →
    exec (.pwrState c) s = .next (s.answer c 0x0D 0x01 stState 0 [])

/-- R63: eight windows that reach ACT_TH make a lane active, eight that fall below it inactive, and each change raises LANE_ACTIVITY. In the Gill
state a lane seen inactive is armed to wake the device. -/
def Obligations.LaneActivity : Prop :=
  ∀ (s : State) (n : Fin 40) (windows : List Nat), s.laneRate n.val ≠ 0 ∨ s.laneWakes n.val = true → 8 ≤ windows.length →
    let th := 2 ^ (fld (s.laneCfg n.val) 34 32 + 2)
    let l := s.lane n.val
    let down := (s.setLane n.val { l with active := false }).raiseIf l.active { src := 0x033, clr := true, code := 0, obj := n.val }
    ((∀ w ∈ lastN 8 windows, th ≤ w) → exec (.laneActivity n windows) s =
      .next ((s.setLane n.val { l with active := true }).raiseIf (!l.active) { src := 0x033, clr := false, code := 1, obj := n.val })) ∧
    ((∀ w ∈ lastN 8 windows, w < th) → exec (.laneActivity n windows) s =
      .next (if down.pwr.mode = .gill then { down with pwr.armLanes := setFlag down.pwr.armLanes n.val true } else down))

/-- R72: a far loopback and a generator exclude each other; the command that would bring them together is refused with STATE. A near loopback and the
generator run together. -/
def Obligations.FarLoopbackExcludesTheGenerator : Prop :=
  ∀ (s : State) (c : Cmd), forceFail c = none →
    let loopMasks := [idxMask, maskOf [(8, 8), (1, 0)]]
    let genMasks := [idxMask, maskOf [(8, 8), (6, 4), (2, 0)]]
    let loop := fld (c.word 1) 1 0
    let gen := fld (c.word 1) 2 0
    (Accepts s c (plainOp 1 4 OPR loopMasks) [(decide (39 < c.idx), 0), (decide (loop = 3), 1)] →
      (loop = 2 → (s.lane c.idx).gen ≠ 0 → exec (.laneLoop c) s = .next (s.answer c 1 4 stState 0 [])) ∧
      (loop = 1 → exec (.laneLoop c) s =
        .next ((s.setLane c.idx { s.lane c.idx with loop := 1 }).finish c (plainOp 1 4 OPR loopMasks) stOk []))) ∧
    (Accepts s c (plainOp 1 5 OPR genMasks) [(decide (39 < c.idx), 0), (decide (4 < gen ∨ 4 < fld (c.word 1) 6 4), 1)] →
      gen ≠ 0 → (s.lane c.idx).loop = 2 → exec (.lanePrbs c) s = .next (s.answer c 1 5 stState 0 []))

/-- R76: the mate link is up only when all four lanes are locked, identified and deskewed, and a lane that changes raises MATE_LANE_CHANGE. -/
def Obligations.MateLinkNeedsFourLanes : Prop :=
  (∀ s : State, s.mateLinkUp = true → ∀ n < 4, (s.mate n).locked = true ∧ (s.mate n).identified = true ∧ (s.mate n).deskewed = true) ∧
  (∀ (s : State) (n : Fin 4) (m : MateLane),
    let new := { s.mate n.val with locked := m.locked, identified := m.identified, deskewed := m.deskewed, partner := m.partner, inverted := m.inverted }
    s.mateOn = true → s.mate n.val ≠ new → exec (.mateLaneChange n m) s =
      .next (State.raise { s with line.mates := s.line.mates.put MateLane.reset n.val new } { src := 0x034, obj := n.val }).mateFollow)

/-- R118: SD_EXP not above SF_EXP is rejected with BAD_PARAM in both records, and PATH_OH_SET that changes MARK_POS is refused with STATE on a path that
a group aligns or a symmetric record ends on. -/
def Obligations.ThresholdsAndMarkPositions : Prop :=
  (∀ (s : State) (c : Cmd), c.wf = true → s.claimFail c = none →
    let o := setting 2 1 OPR [idxMask, maskOf [(55, 16), (11, 8), (3, 0)]]
    c.formFail o = none → c.reservedFrom o.masks 0 = none → c.idx ≤ 39 → sdExpOh (c.word 1) ≤ sfExpOh (c.word 1) →
    exec (.sdhOhSet c) s = .next (s.answer c 2 1 stBadParam 1 [])) ∧
  (∀ (s : State) (c : Cmd), c.wf = true → s.claimFail c = none →
    let o := setting 2 5 OPR [eidMask, maskOf [(47, 30)]]
    c.formFail o = none → c.reservedFrom o.masks 0 = none → badPathEid c.eid = false →
    (sdExpPath (c.word 1) ≤ sfExpPath (c.word 1) → exec (.pathOhSet c) s = .next (s.answer c 2 5 stBadParam 1 [])) ∧
    (c.faultFrom o.masks (pathOhBad s c) 0 = none → s.pairFail o = none →
      markPosOf (s.pathOh c.eid) ≠ markPosOf (c.word 1) → s.either (fun b => b.marksHeld c.eid) = true →
      exec (.pathOhSet c) s = .next (s.answer c 2 5 stState 0 [])))

/-- R210: the change past the 4,096th is refused with NO_RESOURCE and marks its bushel oversize; a commit of an oversize bushel is refused with
NO_RESOURCE, and one of a bushel with no change with BAD_PARAM; the bushel goes with it, unless the commit only checks. -/
def Obligations.ABushelHolds4096Changes : Prop :=
  (∀ x ∈ changeCmds, ∀ (s : State) (c : Cmd) (f : ChangeForm) (b : Bushel),
    s.changeForm (s.bushelView c.bushel.toNat) c x.2.1 x.2.2 = some f →
    Accepts s c { cls := x.2.1, op := x.2.2, priv := f.priv, masks := f.masks, change := true } f.bad → c.ownsAll f.owners = none → f.full = false →
    c.bushel ≠ 0 → s.namedBushel c c.bushel.toNat = .inl b →
    (4096 ≤ b.changes.length →
      exec (x.1 c) s = .next ((s.setBushel { b with oversize := true }).answer c x.2.1 x.2.2 stNoResource 0 [])) ∧
    (b.changes.length < 4096 → exec (x.1 c) s = .next ((s.append b [f.change]).answer c x.2.1 x.2.2 stOk 0
      (f.data ++ [BitVec.ofNat 64 b.changes.length])))) ∧
  (∀ (s : State) (c : Cmd) (b : Bushel),
    let o : OpSpec := { cls := 4, op := 2, priv := TEN, masks := [maskOf [(17, 0)], maskOf [(47, 0)]], mirror := if commitMode c = 2 then 0 else 1 }
    Accepts s c o [(decide (commitMode c = 3), 0), (decide (commitMode c ≠ 1) && decide (c.word 1 ≠ 0), 1)] → named s c = some b →
    let left := if commitMode c = 2 then s else s.dropBushel b.id
    (b.oversize = true → exec (.bushelCommit c) s =
      .next ((left.refused stNoResource).answer c 4 2 stNoResource 0 (CommitFail.words { status := stNoResource }))) ∧
    (b.oversize = false → b.changes = [] → exec (.bushelCommit c) s =
      .next ((left.refused stBadParam).answer c 4 2 stBadParam 0 (CommitFail.words { status := stBadParam }))))

/-- R216: BUSHEL_CANCEL discards a bushel that is QUEUED, PENDING, RESTORED or OPEN and answers OK; one that is LOADING or later it refuses with
STATE. -/
def Obligations.CancelDiscardsABushel : Prop :=
  ∀ (s : State) (c : Cmd) (b : Bushel),
    let id := fld (c.word 0) 15 0
    let o : OpSpec := { cls := 4, op := 3, priv := TEN, masks := [bushelMask], mirror := if b.mode = .open_ then 0 else 2 }
    Accepts s c o [] → s.bushel id = some b → (b.owner = c.t ∨ c.rank = SUP) →
    (b.mode = .queued ∨ b.mode = .pending ∨ b.mode = .restored ∨ b.mode = .open_ →
      exec (.bushelCancel c) s = .next (((s.discard id).mapSnaps fun j => j.drop id).finish c o stOk []) ∧ (s.discard id).bushel id = none) ∧
    (b.mode = .loading ∨ b.mode = .loaded ∨ b.mode = .flipped ∨ b.mode = .settled → exec (.bushelCancel c) s = .next (s.answer c 4 3 stState 0 []))

/-- R412: CMD_PORT_SET with EN = 0 is rejected with BAD_PARAM for CP0 and refused with STATE for the port it arrived on; after reset EN is 1,
AUTH_LIMIT 16 and QUIET_S 10; what CMD_PORT_SET writes is journalled. -/
def Obligations.CommandPortSettings : Prop :=
  (∀ n, State.reset.portCfg n = ⟨true, 16, 10⟩) ∧
  ∀ (s : State) (c : Cmd), c.wf = true → s.claimFail c = none →
    let o := setting 0 5 SUP [maskOf [(1, 0)], maskOf [(27, 8), (1, 0)]]
    let n := fld (c.word 0) 1 0
    let w := c.word 1
    c.formFail o = none → c.reservedFrom o.masks 0 = none → 1 ≤ fld w 15 8 → 1 ≤ fld w 27 16 → fld w 27 16 ≤ 3600 →
    (flag w 0 = false → n = 0 → exec (.cmdPortSet c) s = .next (s.answer c 0 5 stBadParam 1 [])) ∧
    (flag w 0 = false → n ≠ 0 → n = c.port.val → s.pairFail o = none → exec (.cmdPortSet c) s = .next (s.answer c 0 5 stState 0 [])) ∧
    ((flag w 0 = true ∨ (n ≠ 0 ∧ n ≠ c.port.val)) → s.pairFail o = none → s.journalFull 2 = false →
      ∃ t, exec (.cmdPortSet c) s = .next t ∧ t.portCfg n = ⟨flag w 0, BitVec.ofNat 8 (fld w 15 8), BitVec.ofNat 12 (fld w 27 16)⟩ ∧
        t.jr.log = s.jr.log ++ [⟨s.jr.lastSeq + 1, 5, ⟨t.cfg, s.bush.list.filter Bushel.live⟩⟩])

/-- R435: the first write to MATRIX_CTRL sets its three fields and locks them; a held privilege 0b11 leaves its field as it was; a later write changes
none of them. Until the first write, error mode applies and both host ports hold SUP. -/
def Obligations.MatrixCtrlIsWrittenOnce : Prop :=
  (State.reset.host.matrix.ctrlLocked = false ∧ State.reset.hangMode = false ∧ State.reset.hostPriv false = SUP ∧ State.reset.hostPriv true = SUP) ∧
  ∀ (s : State) (w : RegW), writeLands s 0x6000 w →
    (s.host.matrix.ctrlLocked = false → ∃ t, exec (.matrixCtrlWrite w) s = .next t ∧ t.host.matrix.ctrlLocked = true ∧
      fld t.host.matrix.ctrl 0 0 = fld w.value 0 0 ∧
      fld t.host.matrix.ctrl 3 2 = (if fld w.value 3 2 = 3 then fld s.host.matrix.ctrl 3 2 else fld w.value 3 2) ∧
      fld t.host.matrix.ctrl 5 4 = (if fld w.value 5 4 = 3 then fld s.host.matrix.ctrl 5 4 else fld w.value 5 4)) ∧
    (s.host.matrix.ctrlLocked = true → ∃ t, exec (.matrixCtrlWrite w) s = .next t ∧ t.host.matrix.ctrl = s.host.matrix.ctrl)

/-- R450: a doorbell from the host port that does not own the ring, or to a ring with EN = 0, is discarded and captured with kind DENIED. -/
def Obligations.ForeignDoorbellsAreDenied : Prop :=
  ∀ (s : State) (n : Fin 64) (w : RegW),
    let off := 0x100 + 4 * n.val
    let m := w.master.toNat
    writeLands s off w → (s.ring n.val).en = false ∨ hostOf m = some (!(s.ring n.val).portB) →
    exec (.doorbell n w) s = .next ((servedBy s w).matrixError m 0 6 kDenied true off) ∧
      ((servedBy s w).matrixError m 0 6 kDenied true off).host.rings = s.host.rings

/-- R466: with 16 records waiting in staging a record raised is lost and counted, else it enters behind the others; the next that enters after a loss
carries OVF. The drain gives the oldest the next log index and holds 4,096 records. -/
def Obligations.StagingHoldsSixteenRecords : Prop :=
  (∀ (s : State) (e : Event), (s.raise e).ev.staging.length ≤ Nat.max 16 s.ev.staging.length ∧
    (16 ≤ s.ev.staging.length → (s.raise e).ev.staging = s.ev.staging ∧ (s.raise e).ev.lost = s.ev.lost + 1 ∧ (s.raise e).ev.ovf = true) ∧
    (s.ev.staging.length < 16 → (s.raise e).ev.staging = s.ev.staging ++ [{ s.record e with w0 := setFlag (s.record e).w0 54 s.ev.ovf }] ∧
      (s.raise e).ev.lost = s.ev.lost ∧ (s.raise e).ev.ovf = false)) ∧
  (∀ (s : State) (x : EvRec) (l : List EvRec), s.ev.staging = x :: l → ∃ t, exec .eventStagingDrain s = .next t ∧ t.ev.staging = l ∧
    t.jr.nextIdx = s.jr.nextIdx + 1 ∧ t.jr.devLog.look ⟨0, 0⟩ (s.jr.nextIdx.toNat % 4096) = x)

/-- R398: a port keeps the replies of its last 64 accepted commands: the cache never grows past them, and the newest stands last. -/
def Obligations.ReplyCacheKeepsTheLast64 : Prop :=
  ∀ (s : State) (c : Cmd) (r : Reply), (s.port c.port.val).cache.length ≤ 64 →
    ((s.cache c r).port c.port.val).cache.length ≤ 64 ∧
    (c.key.isSome = true → c.seq ≠ 0 → r.data.length ≤ 32 →
      ((s.cache c r).port c.port.val).cache.getLast? = some ⟨c.tid, c.slot, c.seq, c.tag, c.quiet && decide (r.status = 0), true, r⟩) ∧
    (∀ n, n ≠ c.port.val → (s.cache c r).port n = s.port n)

/-! The stores -/

/-- R489 and Table 15.2: a write through the plain address or an alias leaves in each enabled octet what its kind gives, keeps the octets that are not
enabled and every other word of every store, and keeps the memory in its canonical form. Of a word with an armed injection the statement says
nothing. -/
def Obligations.WritesReachTheirOctetsAlone : Prop :=
  ∀ (s : State) (store a master : Nat) (kind : WriteKind) (octets : List Byte) (enables : List Bool), 8 * a + 8 ≤ 2 ^ 32 →
    (s.mem.injects.any fun i => decide (i.store = store) && decide (i.addr = a)) = false → s.memWf = true →
    let t := (s.memWrite store a master kind octets enables).2
    t.memWf = true ∧
    (∀ i < 8, nth 0 (t.storeOctets store a) i =
      if nth false enables i then kind.apply (nth 0 (s.storeOctets store a) i) (nth 0 octets i) else nth 0 (s.storeOctets store a) i) ∧
    (∀ st b, 8 * b + 8 ≤ 2 ^ 32 → (st ≠ store ∨ b ≠ a) → t.storeOctets st b = s.storeOctets st b)

/-- R486, R487 and Table 15.2: a plain write of all eight octets leaves a clean word, and a poisoned or uncorrectable word answers every other write
with an error and stays poisoned; a read of such a word answers an error, a read of a clean or correctable one does not. -/
def Obligations.EccOutcomes : Prop :=
  ∀ (s : State) (store a master : Nat) (kind : WriteKind) (octets : List Byte) (enables : List Bool),
    (s.mem.injects.any fun i => decide (i.store = store) && decide (i.addr = a)) = false →
    let full := decide (kind = .plain) && (List.range 8).all fun i => nth false enables i
    let r := s.memWrite store a master kind octets enables
    (full = true → r.1 = false ∧ r.2.ecc store a = .clean) ∧
    (full = false → s.ecc store a = .poison ∨ s.ecc store a = .uncorrectable → r.1 = true ∧ r.2.ecc store a = .poison) ∧
    (full = false → s.ecc store a = .clean ∨ s.ecc store a = .correctable → r.1 = false ∧ r.2.ecc store a = .clean) ∧
    ((s.memRead store a master).2.1 = true ↔ s.ecc store a = .poison ∨ s.ecc store a = .uncorrectable) ∧
    (s.memRead store a master).1 = s.storeWord store a

/-! Headlines -/

/-- R375, R376 and Table 12.1: the octets of every well-formed packet are read back as that packet, with every field at every value. -/
def Obligations.PacketsRoundTrip : Prop :=
  ∀ (c : Cmd) (cls op : Nat), c.wf = true → c.slot = false → c.key = none → cls < 256 → op < 256 →
    let o := c.encode cls op
    packetReadable o = true ∧ packetLengths o = true ∧ at_ o 4 1 = cls ∧ at_ o 5 1 = op ∧ packetCmd ⟨c.port, o, c.ret⟩ = c

/-- Every step keeps the queue well formed and the stores in their canonical form, and a step from such a state goes on: it takes the front command and
neither faults nor refuses. -/
def Obligations.EveryStepIsSafe : Prop :=
  ∀ s : State, s.queueWf = true → s.memWf = true →
    ∃ t, step s = .next t ∧ t.pending = s.pending.drop 1 ∧ t.queueWf = true ∧ t.memWf = true
end

