-- ==== Sys2Proof/Laws/Command.lean ====
section
/-!
SUPPORT. What the handling of a command packet comes to: once for every opcode.
-/
namespace Sys2Proof.Machine

/-- The meaning of a packet that is well formed runs. -/
theorem packet_wf {c : Cmd} {s : State} {f : State → State} (h : c.wf = true) : packet c s f = .next (f s) := by simp [packet, h]

/-- The meaning of an ill-formed packet stops. -/
theorem packet_illFormed {c : Cmd} {s : State} {f : State → State} (h : c.wf = false) : packet c s f = .fault .illFormed := by simp [packet, h]

theorem leastOf_none {a b : Option Nat} (h : leastOf a b = none) : a = none ∧ b = none := by
  cases a <;> cases b <;> simp_all [leastOf]

theorem foldl_leastOf_none : ∀ (l : List (Bool × Nat)) (m : Option Nat), l.foldl (fun m b => leastOf m (some b.2)) m = none → l = [] ∧ m = none
  | [], _, h => ⟨rfl, h⟩
  | _ :: l, _, h => by
    have := (foldl_leastOf_none l _ h).2
    exact absurd (leastOf_none this).2 (by simp)

/-- No fault from a word on: no reserved bit is set in a word from it on, and no value fault of one holds. -/
theorem faultFrom_none {c : Cmd} {ms : List Word} {bad : List (Bool × Nat)} {k : Nat} (h : c.faultFrom ms bad k = none) :
    c.reservedFrom ms k = none ∧ ∀ b ∈ bad, k ≤ b.2 → b.1 = false := by
  obtain ⟨hf, hr⟩ := foldl_leastOf_none _ _ h
  refine ⟨hr, fun b hb hk => ?_⟩
  rw [List.filter_eq_nil_iff] at hf
  simpa [hk] using hf b hb

theorem foldl_leastOf_nil {l : List (Bool × Nat)} (h : ∀ b ∈ l, b.1 = false) (k : Nat) (m : Option Nat) :
    (l.filter fun b => b.1 && decide (k ≤ b.2)).foldl (fun m b => leastOf m (some b.2)) m = m := by
  rw [List.filter_eq_nil_iff.2 (fun b hb => by simp [h b hb])]; rfl

/-- A command with no fault in any word names an object. -/
theorem fault_split {c : Cmd} {ms : List Word} {bad : List (Bool × Nat)} (h : c.faultFrom ms bad 0 = none) : c.faultFrom [] bad 0 ≠ some 0 := by
  have hb : ∀ b ∈ bad, b.1 = false := fun b m => (faultFrom_none h).2 b m (Nat.zero_le _)
  unfold Cmd.faultFrom
  rw [foldl_leastOf_nil hb]
  simp [Cmd.reservedFrom]

/-- A command that passes every check of its packet is handled by its opcode's own rules, once its ownership check stands. -/
theorem runOp_accepts {s : State} {c : Cmd} {o : OpSpec} {bad : List (Bool × Nat)} {own : Option (Nat × Nat)} (h : Accepts s c o bad)
    (hown : own = none) (f : State → Answer) : s.runOp c o bad own f = s.settle c o (f s) := by
  obtain ⟨_, h1, h2, h3, h4⟩ := h
  simp [State.runOp, h1, h2, h3, h4, fault_split h3, hown]

/-- Its answer OK, with room in the journal for its record: the record, the mirror message and the reply. -/
theorem runOp_ok {s t : State} {c : Cmd} {o : OpSpec} {bad : List (Bool × Nat)} {own : Option (Nat × Nat)} {f : State → Answer} {data : List Word}
    (h : Accepts s c o bad) (hown : own = none) (hf : f s = .ok t data) (hj : o.jrn = 0 ∨ s.journalFull o.jrn = false) :
    s.runOp c o bad own f = t.finish c o stOk data := by
  rw [runOp_accepts h hown, hf]
  rcases hj with hj | hj <;> simp [State.settle, hj]

/-- Its answer ACCEPTED_PENDING. -/
theorem runOp_pend {s t : State} {c : Cmd} {o : OpSpec} {bad : List (Bool × Nat)} {own : Option (Nat × Nat)} {f : State → Answer} {data : List Word}
    (h : Accepts s c o bad) (hown : own = none) (hf : f s = .pend t data) : s.runOp c o bad own f = t.finish c o stPending data := by
  rw [runOp_accepts h hown, hf]; rfl

/-- Its refusal. -/
theorem runOp_no {s t : State} {c : Cmd} {o : OpSpec} {bad : List (Bool × Nat)} {own : Option (Nat × Nat)} {f : State → Answer} {st d : Nat}
    {data : List Word} (h : Accepts s c o bad) (hown : own = none) (hf : f s = .no st d t data) :
    s.runOp c o bad own f = t.answer c o.cls o.op st d data := by
  rw [runOp_accepts h hown, hf]; rfl

/-- Its deferral, with a free slot. -/
theorem runOp_later {s t : State} {c : Cmd} {o : OpSpec} {bad : List (Bool × Nat)} {own : Option (Nat × Nat)} {f : State → Answer} {w : Waits}
    (h : Accepts s c o bad) (hown : own = none) (hf : f s = .later t w) (hs : s.slotsFull c.port = false) :
    s.runOp c o bad own f = { t with cmd.deferred := t.cmd.deferred ++ [⟨c, o.cls, o.op, w, none⟩] } := by
  rw [runOp_accepts h hown, hf]; simp [State.settle, hs]

/-- Step 6 fails: the refusal is the whole effect. -/
theorem runOp_claim {s : State} {c : Cmd} {o : OpSpec} {bad : List (Bool × Nat)} {own : Option (Nat × Nat)} {f : State → Answer} {st d : Nat}
    (h : s.claimFail c = some (st, d)) : s.runOp c o bad own f = s.answer c o.cls o.op st d [] := by simp [State.runOp, h]

/-- Step 8 or 9 fails on the packet's form. -/
theorem runOp_form {s : State} {c : Cmd} {o : OpSpec} {bad : List (Bool × Nat)} {own : Option (Nat × Nat)} {f : State → Answer} {st d : Nat}
    (h : s.claimFail c = none) (hf : c.formFail o = some (st, d)) : s.runOp c o bad own f = s.answer c o.cls o.op st d [] := by
  simp [State.runOp, h, hf]

/-- The first word names no object. -/
theorem runOp_word0 {s : State} {c : Cmd} {o : OpSpec} {bad : List (Bool × Nat)} {own : Option (Nat × Nat)} {f : State → Answer}
    (h : s.claimFail c = none) (hf : c.formFail o = none) (h0 : c.faultFrom [] bad 0 = some 0) :
    s.runOp c o bad own f = s.answer c o.cls o.op stBadParam 0 [] := by
  simp [State.runOp, h, hf, h0]

/-- The form of an opcode that is neither journalled nor mirrored: it ends in its reply. -/
theorem finish_plain (t : State) (c : Cmd) (o : OpSpec) (st : Nat) (data : List Word) (hj : o.jrn = 0) (hm : o.mirror = 0) :
    t.finish c o st data = t.answer c o.cls o.op st 0 data := by
  simp [State.finish, hj, hm]

end Sys2Proof.Machine
end

