-- ==== Sys2Proof/Laws/State.lean ====
section
/-!
SUPPORT. What each plain update of the state leaves alone, one lemma per field, and that what it writes is read back.
-/
namespace Sys2Proof.Machine

variable (s : State)


/-! State.emit sends an output. -/

@[simp] theorem State.emit_pending (o : Out) : (s.emit o).pending = s.pending := rfl
@[simp] theorem State.emit_freeIdx (o : Out) : (s.emit o).freeIdx = s.freeIdx := rfl
@[simp] theorem State.emit_now (o : Out) : (s.emit o).now = s.now := rfl
@[simp] theorem State.emit_ident (o : Out) : (s.emit o).ident = s.ident := rfl
@[simp] theorem State.emit_tick (o : Out) : (s.emit o).tick = s.tick := rfl
@[simp] theorem State.emit_line (o : Out) : (s.emit o).line = s.line := rfl
@[simp] theorem State.emit_sdh (o : Out) : (s.emit o).sdh = s.sdh := rfl
@[simp] theorem State.emit_fab (o : Out) : (s.emit o).fab = s.fab := rfl
@[simp] theorem State.emit_cmd (o : Out) : (s.emit o).cmd = s.cmd := rfl
@[simp] theorem State.emit_host (o : Out) : (s.emit o).host = s.host := rfl
@[simp] theorem State.emit_ev (o : Out) : (s.emit o).ev = s.ev := rfl
@[simp] theorem State.emit_mem (o : Out) : (s.emit o).mem = s.mem := rfl
@[simp] theorem State.emit_fram (o : Out) : (s.emit o).fram = s.fram := rfl
@[simp] theorem State.emit_bush (o : Out) : (s.emit o).bush = s.bush := rfl
@[simp] theorem State.emit_prot (o : Out) : (s.emit o).prot = s.prot := rfl
@[simp] theorem State.emit_align (o : Out) : (s.emit o).align = s.align := rfl
@[simp] theorem State.emit_pie (o : Out) : (s.emit o).pie = s.pie := rfl
@[simp] theorem State.emit_tim (o : Out) : (s.emit o).tim = s.tim := rfl
@[simp] theorem State.emit_pwr (o : Out) : (s.emit o).pwr = s.pwr := rfl
@[simp] theorem State.emit_pair (o : Out) : (s.emit o).pair = s.pair := rfl
@[simp] theorem State.emit_boot (o : Out) : (s.emit o).boot = s.boot := rfl
@[simp] theorem State.emit_cfg (o : Out) : (s.emit o).cfg = s.cfg := rfl
@[simp] theorem State.emit_jr (o : Out) : (s.emit o).jr = s.jr := rfl

/-! State.setLane writes one backplane lane. -/

@[simp] theorem State.setLane_pending (n : Nat) (l : Lane) : (s.setLane n l).pending = s.pending := rfl
@[simp] theorem State.setLane_outs (n : Nat) (l : Lane) : (s.setLane n l).outs = s.outs := rfl
@[simp] theorem State.setLane_freeIdx (n : Nat) (l : Lane) : (s.setLane n l).freeIdx = s.freeIdx := rfl
@[simp] theorem State.setLane_now (n : Nat) (l : Lane) : (s.setLane n l).now = s.now := rfl
@[simp] theorem State.setLane_ident (n : Nat) (l : Lane) : (s.setLane n l).ident = s.ident := rfl
@[simp] theorem State.setLane_tick (n : Nat) (l : Lane) : (s.setLane n l).tick = s.tick := rfl
@[simp] theorem State.setLane_sdh (n : Nat) (l : Lane) : (s.setLane n l).sdh = s.sdh := rfl
@[simp] theorem State.setLane_fab (n : Nat) (l : Lane) : (s.setLane n l).fab = s.fab := rfl
@[simp] theorem State.setLane_cmd (n : Nat) (l : Lane) : (s.setLane n l).cmd = s.cmd := rfl
@[simp] theorem State.setLane_host (n : Nat) (l : Lane) : (s.setLane n l).host = s.host := rfl
@[simp] theorem State.setLane_ev (n : Nat) (l : Lane) : (s.setLane n l).ev = s.ev := rfl
@[simp] theorem State.setLane_mem (n : Nat) (l : Lane) : (s.setLane n l).mem = s.mem := rfl
@[simp] theorem State.setLane_fram (n : Nat) (l : Lane) : (s.setLane n l).fram = s.fram := rfl
@[simp] theorem State.setLane_bush (n : Nat) (l : Lane) : (s.setLane n l).bush = s.bush := rfl
@[simp] theorem State.setLane_prot (n : Nat) (l : Lane) : (s.setLane n l).prot = s.prot := rfl
@[simp] theorem State.setLane_align (n : Nat) (l : Lane) : (s.setLane n l).align = s.align := rfl
@[simp] theorem State.setLane_pie (n : Nat) (l : Lane) : (s.setLane n l).pie = s.pie := rfl
@[simp] theorem State.setLane_tim (n : Nat) (l : Lane) : (s.setLane n l).tim = s.tim := rfl
@[simp] theorem State.setLane_pwr (n : Nat) (l : Lane) : (s.setLane n l).pwr = s.pwr := rfl
@[simp] theorem State.setLane_pair (n : Nat) (l : Lane) : (s.setLane n l).pair = s.pair := rfl
@[simp] theorem State.setLane_boot (n : Nat) (l : Lane) : (s.setLane n l).boot = s.boot := rfl
@[simp] theorem State.setLane_cfg (n : Nat) (l : Lane) : (s.setLane n l).cfg = s.cfg := rfl
@[simp] theorem State.setLane_jr (n : Nat) (l : Lane) : (s.setLane n l).jr = s.jr := rfl

/-! State.setMate writes one mate lane. -/

@[simp] theorem State.setMate_pending (n : Nat) (m : MateLane) : (s.setMate n m).pending = s.pending := rfl
@[simp] theorem State.setMate_outs (n : Nat) (m : MateLane) : (s.setMate n m).outs = s.outs := rfl
@[simp] theorem State.setMate_freeIdx (n : Nat) (m : MateLane) : (s.setMate n m).freeIdx = s.freeIdx := rfl
@[simp] theorem State.setMate_now (n : Nat) (m : MateLane) : (s.setMate n m).now = s.now := rfl
@[simp] theorem State.setMate_ident (n : Nat) (m : MateLane) : (s.setMate n m).ident = s.ident := rfl
@[simp] theorem State.setMate_tick (n : Nat) (m : MateLane) : (s.setMate n m).tick = s.tick := rfl
@[simp] theorem State.setMate_sdh (n : Nat) (m : MateLane) : (s.setMate n m).sdh = s.sdh := rfl
@[simp] theorem State.setMate_fab (n : Nat) (m : MateLane) : (s.setMate n m).fab = s.fab := rfl
@[simp] theorem State.setMate_cmd (n : Nat) (m : MateLane) : (s.setMate n m).cmd = s.cmd := rfl
@[simp] theorem State.setMate_host (n : Nat) (m : MateLane) : (s.setMate n m).host = s.host := rfl
@[simp] theorem State.setMate_ev (n : Nat) (m : MateLane) : (s.setMate n m).ev = s.ev := rfl
@[simp] theorem State.setMate_mem (n : Nat) (m : MateLane) : (s.setMate n m).mem = s.mem := rfl
@[simp] theorem State.setMate_fram (n : Nat) (m : MateLane) : (s.setMate n m).fram = s.fram := rfl
@[simp] theorem State.setMate_bush (n : Nat) (m : MateLane) : (s.setMate n m).bush = s.bush := rfl
@[simp] theorem State.setMate_prot (n : Nat) (m : MateLane) : (s.setMate n m).prot = s.prot := rfl
@[simp] theorem State.setMate_align (n : Nat) (m : MateLane) : (s.setMate n m).align = s.align := rfl
@[simp] theorem State.setMate_pie (n : Nat) (m : MateLane) : (s.setMate n m).pie = s.pie := rfl
@[simp] theorem State.setMate_tim (n : Nat) (m : MateLane) : (s.setMate n m).tim = s.tim := rfl
@[simp] theorem State.setMate_pwr (n : Nat) (m : MateLane) : (s.setMate n m).pwr = s.pwr := rfl
@[simp] theorem State.setMate_pair (n : Nat) (m : MateLane) : (s.setMate n m).pair = s.pair := rfl
@[simp] theorem State.setMate_boot (n : Nat) (m : MateLane) : (s.setMate n m).boot = s.boot := rfl
@[simp] theorem State.setMate_cfg (n : Nat) (m : MateLane) : (s.setMate n m).cfg = s.cfg := rfl
@[simp] theorem State.setMate_jr (n : Nat) (m : MateLane) : (s.setMate n m).jr = s.jr := rfl

/-! State.setTrib writes one tributary port. -/

@[simp] theorem State.setTrib_pending (n : Nat) (p : TribPort) : (s.setTrib n p).pending = s.pending := rfl
@[simp] theorem State.setTrib_outs (n : Nat) (p : TribPort) : (s.setTrib n p).outs = s.outs := rfl
@[simp] theorem State.setTrib_freeIdx (n : Nat) (p : TribPort) : (s.setTrib n p).freeIdx = s.freeIdx := rfl
@[simp] theorem State.setTrib_now (n : Nat) (p : TribPort) : (s.setTrib n p).now = s.now := rfl
@[simp] theorem State.setTrib_ident (n : Nat) (p : TribPort) : (s.setTrib n p).ident = s.ident := rfl
@[simp] theorem State.setTrib_tick (n : Nat) (p : TribPort) : (s.setTrib n p).tick = s.tick := rfl
@[simp] theorem State.setTrib_sdh (n : Nat) (p : TribPort) : (s.setTrib n p).sdh = s.sdh := rfl
@[simp] theorem State.setTrib_fab (n : Nat) (p : TribPort) : (s.setTrib n p).fab = s.fab := rfl
@[simp] theorem State.setTrib_cmd (n : Nat) (p : TribPort) : (s.setTrib n p).cmd = s.cmd := rfl
@[simp] theorem State.setTrib_host (n : Nat) (p : TribPort) : (s.setTrib n p).host = s.host := rfl
@[simp] theorem State.setTrib_ev (n : Nat) (p : TribPort) : (s.setTrib n p).ev = s.ev := rfl
@[simp] theorem State.setTrib_mem (n : Nat) (p : TribPort) : (s.setTrib n p).mem = s.mem := rfl
@[simp] theorem State.setTrib_fram (n : Nat) (p : TribPort) : (s.setTrib n p).fram = s.fram := rfl
@[simp] theorem State.setTrib_bush (n : Nat) (p : TribPort) : (s.setTrib n p).bush = s.bush := rfl
@[simp] theorem State.setTrib_prot (n : Nat) (p : TribPort) : (s.setTrib n p).prot = s.prot := rfl
@[simp] theorem State.setTrib_align (n : Nat) (p : TribPort) : (s.setTrib n p).align = s.align := rfl
@[simp] theorem State.setTrib_pie (n : Nat) (p : TribPort) : (s.setTrib n p).pie = s.pie := rfl
@[simp] theorem State.setTrib_tim (n : Nat) (p : TribPort) : (s.setTrib n p).tim = s.tim := rfl
@[simp] theorem State.setTrib_pwr (n : Nat) (p : TribPort) : (s.setTrib n p).pwr = s.pwr := rfl
@[simp] theorem State.setTrib_pair (n : Nat) (p : TribPort) : (s.setTrib n p).pair = s.pair := rfl
@[simp] theorem State.setTrib_boot (n : Nat) (p : TribPort) : (s.setTrib n p).boot = s.boot := rfl
@[simp] theorem State.setTrib_cfg (n : Nat) (p : TribPort) : (s.setTrib n p).cfg = s.cfg := rfl
@[simp] theorem State.setTrib_jr (n : Nat) (p : TribPort) : (s.setTrib n p).jr = s.jr := rfl

/-! State.setSdhLane writes one lane's SDH state. -/

@[simp] theorem State.setSdhLane_pending (n : Nat) (l : SdhLane) : (s.setSdhLane n l).pending = s.pending := rfl
@[simp] theorem State.setSdhLane_outs (n : Nat) (l : SdhLane) : (s.setSdhLane n l).outs = s.outs := rfl
@[simp] theorem State.setSdhLane_freeIdx (n : Nat) (l : SdhLane) : (s.setSdhLane n l).freeIdx = s.freeIdx := rfl
@[simp] theorem State.setSdhLane_now (n : Nat) (l : SdhLane) : (s.setSdhLane n l).now = s.now := rfl
@[simp] theorem State.setSdhLane_ident (n : Nat) (l : SdhLane) : (s.setSdhLane n l).ident = s.ident := rfl
@[simp] theorem State.setSdhLane_tick (n : Nat) (l : SdhLane) : (s.setSdhLane n l).tick = s.tick := rfl
@[simp] theorem State.setSdhLane_line (n : Nat) (l : SdhLane) : (s.setSdhLane n l).line = s.line := rfl
@[simp] theorem State.setSdhLane_fab (n : Nat) (l : SdhLane) : (s.setSdhLane n l).fab = s.fab := rfl
@[simp] theorem State.setSdhLane_cmd (n : Nat) (l : SdhLane) : (s.setSdhLane n l).cmd = s.cmd := rfl
@[simp] theorem State.setSdhLane_host (n : Nat) (l : SdhLane) : (s.setSdhLane n l).host = s.host := rfl
@[simp] theorem State.setSdhLane_ev (n : Nat) (l : SdhLane) : (s.setSdhLane n l).ev = s.ev := rfl
@[simp] theorem State.setSdhLane_mem (n : Nat) (l : SdhLane) : (s.setSdhLane n l).mem = s.mem := rfl
@[simp] theorem State.setSdhLane_fram (n : Nat) (l : SdhLane) : (s.setSdhLane n l).fram = s.fram := rfl
@[simp] theorem State.setSdhLane_bush (n : Nat) (l : SdhLane) : (s.setSdhLane n l).bush = s.bush := rfl
@[simp] theorem State.setSdhLane_prot (n : Nat) (l : SdhLane) : (s.setSdhLane n l).prot = s.prot := rfl
@[simp] theorem State.setSdhLane_align (n : Nat) (l : SdhLane) : (s.setSdhLane n l).align = s.align := rfl
@[simp] theorem State.setSdhLane_pie (n : Nat) (l : SdhLane) : (s.setSdhLane n l).pie = s.pie := rfl
@[simp] theorem State.setSdhLane_tim (n : Nat) (l : SdhLane) : (s.setSdhLane n l).tim = s.tim := rfl
@[simp] theorem State.setSdhLane_pwr (n : Nat) (l : SdhLane) : (s.setSdhLane n l).pwr = s.pwr := rfl
@[simp] theorem State.setSdhLane_pair (n : Nat) (l : SdhLane) : (s.setSdhLane n l).pair = s.pair := rfl
@[simp] theorem State.setSdhLane_boot (n : Nat) (l : SdhLane) : (s.setSdhLane n l).boot = s.boot := rfl
@[simp] theorem State.setSdhLane_cfg (n : Nat) (l : SdhLane) : (s.setSdhLane n l).cfg = s.cfg := rfl
@[simp] theorem State.setSdhLane_jr (n : Nat) (l : SdhLane) : (s.setSdhLane n l).jr = s.jr := rfl

/-! State.setPath writes one path. -/

@[simp] theorem State.setPath_pending (e : Eid) (p : PathState) : (s.setPath e p).pending = s.pending := rfl
@[simp] theorem State.setPath_outs (e : Eid) (p : PathState) : (s.setPath e p).outs = s.outs := rfl
@[simp] theorem State.setPath_freeIdx (e : Eid) (p : PathState) : (s.setPath e p).freeIdx = s.freeIdx := rfl
@[simp] theorem State.setPath_now (e : Eid) (p : PathState) : (s.setPath e p).now = s.now := rfl
@[simp] theorem State.setPath_ident (e : Eid) (p : PathState) : (s.setPath e p).ident = s.ident := rfl
@[simp] theorem State.setPath_tick (e : Eid) (p : PathState) : (s.setPath e p).tick = s.tick := rfl
@[simp] theorem State.setPath_line (e : Eid) (p : PathState) : (s.setPath e p).line = s.line := rfl
@[simp] theorem State.setPath_fab (e : Eid) (p : PathState) : (s.setPath e p).fab = s.fab := rfl
@[simp] theorem State.setPath_cmd (e : Eid) (p : PathState) : (s.setPath e p).cmd = s.cmd := rfl
@[simp] theorem State.setPath_host (e : Eid) (p : PathState) : (s.setPath e p).host = s.host := rfl
@[simp] theorem State.setPath_ev (e : Eid) (p : PathState) : (s.setPath e p).ev = s.ev := rfl
@[simp] theorem State.setPath_mem (e : Eid) (p : PathState) : (s.setPath e p).mem = s.mem := rfl
@[simp] theorem State.setPath_fram (e : Eid) (p : PathState) : (s.setPath e p).fram = s.fram := rfl
@[simp] theorem State.setPath_bush (e : Eid) (p : PathState) : (s.setPath e p).bush = s.bush := rfl
@[simp] theorem State.setPath_prot (e : Eid) (p : PathState) : (s.setPath e p).prot = s.prot := rfl
@[simp] theorem State.setPath_align (e : Eid) (p : PathState) : (s.setPath e p).align = s.align := rfl
@[simp] theorem State.setPath_pie (e : Eid) (p : PathState) : (s.setPath e p).pie = s.pie := rfl
@[simp] theorem State.setPath_tim (e : Eid) (p : PathState) : (s.setPath e p).tim = s.tim := rfl
@[simp] theorem State.setPath_pwr (e : Eid) (p : PathState) : (s.setPath e p).pwr = s.pwr := rfl
@[simp] theorem State.setPath_pair (e : Eid) (p : PathState) : (s.setPath e p).pair = s.pair := rfl
@[simp] theorem State.setPath_boot (e : Eid) (p : PathState) : (s.setPath e p).boot = s.boot := rfl
@[simp] theorem State.setPath_cfg (e : Eid) (p : PathState) : (s.setPath e p).cfg = s.cfg := rfl
@[simp] theorem State.setPath_jr (e : Eid) (p : PathState) : (s.setPath e p).jr = s.jr := rfl

/-! State.setGfp writes one GFP channel. -/

@[simp] theorem State.setGfp_pending (ch : Nat) (x : GfpChan) : (s.setGfp ch x).pending = s.pending := rfl
@[simp] theorem State.setGfp_outs (ch : Nat) (x : GfpChan) : (s.setGfp ch x).outs = s.outs := rfl
@[simp] theorem State.setGfp_freeIdx (ch : Nat) (x : GfpChan) : (s.setGfp ch x).freeIdx = s.freeIdx := rfl
@[simp] theorem State.setGfp_now (ch : Nat) (x : GfpChan) : (s.setGfp ch x).now = s.now := rfl
@[simp] theorem State.setGfp_ident (ch : Nat) (x : GfpChan) : (s.setGfp ch x).ident = s.ident := rfl
@[simp] theorem State.setGfp_tick (ch : Nat) (x : GfpChan) : (s.setGfp ch x).tick = s.tick := rfl
@[simp] theorem State.setGfp_line (ch : Nat) (x : GfpChan) : (s.setGfp ch x).line = s.line := rfl
@[simp] theorem State.setGfp_sdh (ch : Nat) (x : GfpChan) : (s.setGfp ch x).sdh = s.sdh := rfl
@[simp] theorem State.setGfp_fab (ch : Nat) (x : GfpChan) : (s.setGfp ch x).fab = s.fab := rfl
@[simp] theorem State.setGfp_cmd (ch : Nat) (x : GfpChan) : (s.setGfp ch x).cmd = s.cmd := rfl
@[simp] theorem State.setGfp_host (ch : Nat) (x : GfpChan) : (s.setGfp ch x).host = s.host := rfl
@[simp] theorem State.setGfp_ev (ch : Nat) (x : GfpChan) : (s.setGfp ch x).ev = s.ev := rfl
@[simp] theorem State.setGfp_mem (ch : Nat) (x : GfpChan) : (s.setGfp ch x).mem = s.mem := rfl
@[simp] theorem State.setGfp_bush (ch : Nat) (x : GfpChan) : (s.setGfp ch x).bush = s.bush := rfl
@[simp] theorem State.setGfp_prot (ch : Nat) (x : GfpChan) : (s.setGfp ch x).prot = s.prot := rfl
@[simp] theorem State.setGfp_align (ch : Nat) (x : GfpChan) : (s.setGfp ch x).align = s.align := rfl
@[simp] theorem State.setGfp_pie (ch : Nat) (x : GfpChan) : (s.setGfp ch x).pie = s.pie := rfl
@[simp] theorem State.setGfp_tim (ch : Nat) (x : GfpChan) : (s.setGfp ch x).tim = s.tim := rfl
@[simp] theorem State.setGfp_pwr (ch : Nat) (x : GfpChan) : (s.setGfp ch x).pwr = s.pwr := rfl
@[simp] theorem State.setGfp_pair (ch : Nat) (x : GfpChan) : (s.setGfp ch x).pair = s.pair := rfl
@[simp] theorem State.setGfp_boot (ch : Nat) (x : GfpChan) : (s.setGfp ch x).boot = s.boot := rfl
@[simp] theorem State.setGfp_cfg (ch : Nat) (x : GfpChan) : (s.setGfp ch x).cfg = s.cfg := rfl
@[simp] theorem State.setGfp_jr (ch : Nat) (x : GfpChan) : (s.setGfp ch x).jr = s.jr := rfl

/-! State.setVcat writes one VCAT group. -/

@[simp] theorem State.setVcat_pending (g : Nat) (x : VcatGroup) : (s.setVcat g x).pending = s.pending := rfl
@[simp] theorem State.setVcat_outs (g : Nat) (x : VcatGroup) : (s.setVcat g x).outs = s.outs := rfl
@[simp] theorem State.setVcat_freeIdx (g : Nat) (x : VcatGroup) : (s.setVcat g x).freeIdx = s.freeIdx := rfl
@[simp] theorem State.setVcat_now (g : Nat) (x : VcatGroup) : (s.setVcat g x).now = s.now := rfl
@[simp] theorem State.setVcat_ident (g : Nat) (x : VcatGroup) : (s.setVcat g x).ident = s.ident := rfl
@[simp] theorem State.setVcat_tick (g : Nat) (x : VcatGroup) : (s.setVcat g x).tick = s.tick := rfl
@[simp] theorem State.setVcat_line (g : Nat) (x : VcatGroup) : (s.setVcat g x).line = s.line := rfl
@[simp] theorem State.setVcat_sdh (g : Nat) (x : VcatGroup) : (s.setVcat g x).sdh = s.sdh := rfl
@[simp] theorem State.setVcat_fab (g : Nat) (x : VcatGroup) : (s.setVcat g x).fab = s.fab := rfl
@[simp] theorem State.setVcat_cmd (g : Nat) (x : VcatGroup) : (s.setVcat g x).cmd = s.cmd := rfl
@[simp] theorem State.setVcat_host (g : Nat) (x : VcatGroup) : (s.setVcat g x).host = s.host := rfl
@[simp] theorem State.setVcat_ev (g : Nat) (x : VcatGroup) : (s.setVcat g x).ev = s.ev := rfl
@[simp] theorem State.setVcat_mem (g : Nat) (x : VcatGroup) : (s.setVcat g x).mem = s.mem := rfl
@[simp] theorem State.setVcat_bush (g : Nat) (x : VcatGroup) : (s.setVcat g x).bush = s.bush := rfl
@[simp] theorem State.setVcat_prot (g : Nat) (x : VcatGroup) : (s.setVcat g x).prot = s.prot := rfl
@[simp] theorem State.setVcat_align (g : Nat) (x : VcatGroup) : (s.setVcat g x).align = s.align := rfl
@[simp] theorem State.setVcat_pie (g : Nat) (x : VcatGroup) : (s.setVcat g x).pie = s.pie := rfl
@[simp] theorem State.setVcat_tim (g : Nat) (x : VcatGroup) : (s.setVcat g x).tim = s.tim := rfl
@[simp] theorem State.setVcat_pwr (g : Nat) (x : VcatGroup) : (s.setVcat g x).pwr = s.pwr := rfl
@[simp] theorem State.setVcat_pair (g : Nat) (x : VcatGroup) : (s.setVcat g x).pair = s.pair := rfl
@[simp] theorem State.setVcat_boot (g : Nat) (x : VcatGroup) : (s.setVcat g x).boot = s.boot := rfl
@[simp] theorem State.setVcat_cfg (g : Nat) (x : VcatGroup) : (s.setVcat g x).cfg = s.cfg := rfl
@[simp] theorem State.setVcat_jr (g : Nat) (x : VcatGroup) : (s.setVcat g x).jr = s.jr := rfl

/-! State.setE1 writes one E1 framer. -/

@[simp] theorem State.setE1_pending (e : Eid) (x : E1State) : (s.setE1 e x).pending = s.pending := rfl
@[simp] theorem State.setE1_outs (e : Eid) (x : E1State) : (s.setE1 e x).outs = s.outs := rfl
@[simp] theorem State.setE1_freeIdx (e : Eid) (x : E1State) : (s.setE1 e x).freeIdx = s.freeIdx := rfl
@[simp] theorem State.setE1_now (e : Eid) (x : E1State) : (s.setE1 e x).now = s.now := rfl
@[simp] theorem State.setE1_ident (e : Eid) (x : E1State) : (s.setE1 e x).ident = s.ident := rfl
@[simp] theorem State.setE1_tick (e : Eid) (x : E1State) : (s.setE1 e x).tick = s.tick := rfl
@[simp] theorem State.setE1_line (e : Eid) (x : E1State) : (s.setE1 e x).line = s.line := rfl
@[simp] theorem State.setE1_sdh (e : Eid) (x : E1State) : (s.setE1 e x).sdh = s.sdh := rfl
@[simp] theorem State.setE1_fab (e : Eid) (x : E1State) : (s.setE1 e x).fab = s.fab := rfl
@[simp] theorem State.setE1_cmd (e : Eid) (x : E1State) : (s.setE1 e x).cmd = s.cmd := rfl
@[simp] theorem State.setE1_host (e : Eid) (x : E1State) : (s.setE1 e x).host = s.host := rfl
@[simp] theorem State.setE1_ev (e : Eid) (x : E1State) : (s.setE1 e x).ev = s.ev := rfl
@[simp] theorem State.setE1_mem (e : Eid) (x : E1State) : (s.setE1 e x).mem = s.mem := rfl
@[simp] theorem State.setE1_bush (e : Eid) (x : E1State) : (s.setE1 e x).bush = s.bush := rfl
@[simp] theorem State.setE1_prot (e : Eid) (x : E1State) : (s.setE1 e x).prot = s.prot := rfl
@[simp] theorem State.setE1_align (e : Eid) (x : E1State) : (s.setE1 e x).align = s.align := rfl
@[simp] theorem State.setE1_pie (e : Eid) (x : E1State) : (s.setE1 e x).pie = s.pie := rfl
@[simp] theorem State.setE1_tim (e : Eid) (x : E1State) : (s.setE1 e x).tim = s.tim := rfl
@[simp] theorem State.setE1_pwr (e : Eid) (x : E1State) : (s.setE1 e x).pwr = s.pwr := rfl
@[simp] theorem State.setE1_pair (e : Eid) (x : E1State) : (s.setE1 e x).pair = s.pair := rfl
@[simp] theorem State.setE1_boot (e : Eid) (x : E1State) : (s.setE1 e x).boot = s.boot := rfl
@[simp] theorem State.setE1_cfg (e : Eid) (x : E1State) : (s.setE1 e x).cfg = s.cfg := rfl
@[simp] theorem State.setE1_jr (e : Eid) (x : E1State) : (s.setE1 e x).jr = s.jr := rfl

/-! State.setC37 writes one C37.94 port. -/

@[simp] theorem State.setC37_pending (p : Nat) (x : C37State) : (s.setC37 p x).pending = s.pending := rfl
@[simp] theorem State.setC37_outs (p : Nat) (x : C37State) : (s.setC37 p x).outs = s.outs := rfl
@[simp] theorem State.setC37_freeIdx (p : Nat) (x : C37State) : (s.setC37 p x).freeIdx = s.freeIdx := rfl
@[simp] theorem State.setC37_now (p : Nat) (x : C37State) : (s.setC37 p x).now = s.now := rfl
@[simp] theorem State.setC37_ident (p : Nat) (x : C37State) : (s.setC37 p x).ident = s.ident := rfl
@[simp] theorem State.setC37_tick (p : Nat) (x : C37State) : (s.setC37 p x).tick = s.tick := rfl
@[simp] theorem State.setC37_line (p : Nat) (x : C37State) : (s.setC37 p x).line = s.line := rfl
@[simp] theorem State.setC37_sdh (p : Nat) (x : C37State) : (s.setC37 p x).sdh = s.sdh := rfl
@[simp] theorem State.setC37_fab (p : Nat) (x : C37State) : (s.setC37 p x).fab = s.fab := rfl
@[simp] theorem State.setC37_cmd (p : Nat) (x : C37State) : (s.setC37 p x).cmd = s.cmd := rfl
@[simp] theorem State.setC37_host (p : Nat) (x : C37State) : (s.setC37 p x).host = s.host := rfl
@[simp] theorem State.setC37_ev (p : Nat) (x : C37State) : (s.setC37 p x).ev = s.ev := rfl
@[simp] theorem State.setC37_mem (p : Nat) (x : C37State) : (s.setC37 p x).mem = s.mem := rfl
@[simp] theorem State.setC37_bush (p : Nat) (x : C37State) : (s.setC37 p x).bush = s.bush := rfl
@[simp] theorem State.setC37_prot (p : Nat) (x : C37State) : (s.setC37 p x).prot = s.prot := rfl
@[simp] theorem State.setC37_align (p : Nat) (x : C37State) : (s.setC37 p x).align = s.align := rfl
@[simp] theorem State.setC37_pie (p : Nat) (x : C37State) : (s.setC37 p x).pie = s.pie := rfl
@[simp] theorem State.setC37_tim (p : Nat) (x : C37State) : (s.setC37 p x).tim = s.tim := rfl
@[simp] theorem State.setC37_pwr (p : Nat) (x : C37State) : (s.setC37 p x).pwr = s.pwr := rfl
@[simp] theorem State.setC37_pair (p : Nat) (x : C37State) : (s.setC37 p x).pair = s.pair := rfl
@[simp] theorem State.setC37_boot (p : Nat) (x : C37State) : (s.setC37 p x).boot = s.boot := rfl
@[simp] theorem State.setC37_cfg (p : Nat) (x : C37State) : (s.setC37 p x).cfg = s.cfg := rfl
@[simp] theorem State.setC37_jr (p : Nat) (x : C37State) : (s.setC37 p x).jr = s.jr := rfl

/-! State.setBushel writes one bushel. -/

@[simp] theorem State.setBushel_pending (b : Bushel) : (s.setBushel b).pending = s.pending := rfl
@[simp] theorem State.setBushel_outs (b : Bushel) : (s.setBushel b).outs = s.outs := rfl
@[simp] theorem State.setBushel_freeIdx (b : Bushel) : (s.setBushel b).freeIdx = s.freeIdx := rfl
@[simp] theorem State.setBushel_now (b : Bushel) : (s.setBushel b).now = s.now := rfl
@[simp] theorem State.setBushel_ident (b : Bushel) : (s.setBushel b).ident = s.ident := rfl
@[simp] theorem State.setBushel_tick (b : Bushel) : (s.setBushel b).tick = s.tick := rfl
@[simp] theorem State.setBushel_line (b : Bushel) : (s.setBushel b).line = s.line := rfl
@[simp] theorem State.setBushel_sdh (b : Bushel) : (s.setBushel b).sdh = s.sdh := rfl
@[simp] theorem State.setBushel_fab (b : Bushel) : (s.setBushel b).fab = s.fab := rfl
@[simp] theorem State.setBushel_cmd (b : Bushel) : (s.setBushel b).cmd = s.cmd := rfl
@[simp] theorem State.setBushel_host (b : Bushel) : (s.setBushel b).host = s.host := rfl
@[simp] theorem State.setBushel_ev (b : Bushel) : (s.setBushel b).ev = s.ev := rfl
@[simp] theorem State.setBushel_mem (b : Bushel) : (s.setBushel b).mem = s.mem := rfl
@[simp] theorem State.setBushel_fram (b : Bushel) : (s.setBushel b).fram = s.fram := rfl
@[simp] theorem State.setBushel_prot (b : Bushel) : (s.setBushel b).prot = s.prot := rfl
@[simp] theorem State.setBushel_align (b : Bushel) : (s.setBushel b).align = s.align := rfl
@[simp] theorem State.setBushel_pie (b : Bushel) : (s.setBushel b).pie = s.pie := rfl
@[simp] theorem State.setBushel_tim (b : Bushel) : (s.setBushel b).tim = s.tim := rfl
@[simp] theorem State.setBushel_pwr (b : Bushel) : (s.setBushel b).pwr = s.pwr := rfl
@[simp] theorem State.setBushel_pair (b : Bushel) : (s.setBushel b).pair = s.pair := rfl
@[simp] theorem State.setBushel_boot (b : Bushel) : (s.setBushel b).boot = s.boot := rfl
@[simp] theorem State.setBushel_cfg (b : Bushel) : (s.setBushel b).cfg = s.cfg := rfl
@[simp] theorem State.setBushel_jr (b : Bushel) : (s.setBushel b).jr = s.jr := rfl

/-! State.dropBushel drops one bushel. -/

@[simp] theorem State.dropBushel_pending (i : Nat) : (s.dropBushel i).pending = s.pending := rfl
@[simp] theorem State.dropBushel_outs (i : Nat) : (s.dropBushel i).outs = s.outs := rfl
@[simp] theorem State.dropBushel_freeIdx (i : Nat) : (s.dropBushel i).freeIdx = s.freeIdx := rfl
@[simp] theorem State.dropBushel_now (i : Nat) : (s.dropBushel i).now = s.now := rfl
@[simp] theorem State.dropBushel_ident (i : Nat) : (s.dropBushel i).ident = s.ident := rfl
@[simp] theorem State.dropBushel_tick (i : Nat) : (s.dropBushel i).tick = s.tick := rfl
@[simp] theorem State.dropBushel_line (i : Nat) : (s.dropBushel i).line = s.line := rfl
@[simp] theorem State.dropBushel_sdh (i : Nat) : (s.dropBushel i).sdh = s.sdh := rfl
@[simp] theorem State.dropBushel_fab (i : Nat) : (s.dropBushel i).fab = s.fab := rfl
@[simp] theorem State.dropBushel_cmd (i : Nat) : (s.dropBushel i).cmd = s.cmd := rfl
@[simp] theorem State.dropBushel_host (i : Nat) : (s.dropBushel i).host = s.host := rfl
@[simp] theorem State.dropBushel_ev (i : Nat) : (s.dropBushel i).ev = s.ev := rfl
@[simp] theorem State.dropBushel_mem (i : Nat) : (s.dropBushel i).mem = s.mem := rfl
@[simp] theorem State.dropBushel_fram (i : Nat) : (s.dropBushel i).fram = s.fram := rfl
@[simp] theorem State.dropBushel_prot (i : Nat) : (s.dropBushel i).prot = s.prot := rfl
@[simp] theorem State.dropBushel_align (i : Nat) : (s.dropBushel i).align = s.align := rfl
@[simp] theorem State.dropBushel_pie (i : Nat) : (s.dropBushel i).pie = s.pie := rfl
@[simp] theorem State.dropBushel_tim (i : Nat) : (s.dropBushel i).tim = s.tim := rfl
@[simp] theorem State.dropBushel_pwr (i : Nat) : (s.dropBushel i).pwr = s.pwr := rfl
@[simp] theorem State.dropBushel_pair (i : Nat) : (s.dropBushel i).pair = s.pair := rfl
@[simp] theorem State.dropBushel_boot (i : Nat) : (s.dropBushel i).boot = s.boot := rfl
@[simp] theorem State.dropBushel_cfg (i : Nat) : (s.dropBushel i).cfg = s.cfg := rfl
@[simp] theorem State.dropBushel_jr (i : Nat) : (s.dropBushel i).jr = s.jr := rfl

/-! State.setAlignGroup writes one alignment group. -/

@[simp] theorem State.setAlignGroup_pending (pg : Nat) (g : AlignGroup) : (s.setAlignGroup pg g).pending = s.pending := rfl
@[simp] theorem State.setAlignGroup_outs (pg : Nat) (g : AlignGroup) : (s.setAlignGroup pg g).outs = s.outs := rfl
@[simp] theorem State.setAlignGroup_freeIdx (pg : Nat) (g : AlignGroup) : (s.setAlignGroup pg g).freeIdx = s.freeIdx := rfl
@[simp] theorem State.setAlignGroup_now (pg : Nat) (g : AlignGroup) : (s.setAlignGroup pg g).now = s.now := rfl
@[simp] theorem State.setAlignGroup_ident (pg : Nat) (g : AlignGroup) : (s.setAlignGroup pg g).ident = s.ident := rfl
@[simp] theorem State.setAlignGroup_tick (pg : Nat) (g : AlignGroup) : (s.setAlignGroup pg g).tick = s.tick := rfl
@[simp] theorem State.setAlignGroup_line (pg : Nat) (g : AlignGroup) : (s.setAlignGroup pg g).line = s.line := rfl
@[simp] theorem State.setAlignGroup_sdh (pg : Nat) (g : AlignGroup) : (s.setAlignGroup pg g).sdh = s.sdh := rfl
@[simp] theorem State.setAlignGroup_fab (pg : Nat) (g : AlignGroup) : (s.setAlignGroup pg g).fab = s.fab := rfl
@[simp] theorem State.setAlignGroup_cmd (pg : Nat) (g : AlignGroup) : (s.setAlignGroup pg g).cmd = s.cmd := rfl
@[simp] theorem State.setAlignGroup_host (pg : Nat) (g : AlignGroup) : (s.setAlignGroup pg g).host = s.host := rfl
@[simp] theorem State.setAlignGroup_ev (pg : Nat) (g : AlignGroup) : (s.setAlignGroup pg g).ev = s.ev := rfl
@[simp] theorem State.setAlignGroup_mem (pg : Nat) (g : AlignGroup) : (s.setAlignGroup pg g).mem = s.mem := rfl
@[simp] theorem State.setAlignGroup_fram (pg : Nat) (g : AlignGroup) : (s.setAlignGroup pg g).fram = s.fram := rfl
@[simp] theorem State.setAlignGroup_bush (pg : Nat) (g : AlignGroup) : (s.setAlignGroup pg g).bush = s.bush := rfl
@[simp] theorem State.setAlignGroup_prot (pg : Nat) (g : AlignGroup) : (s.setAlignGroup pg g).prot = s.prot := rfl
@[simp] theorem State.setAlignGroup_pie (pg : Nat) (g : AlignGroup) : (s.setAlignGroup pg g).pie = s.pie := rfl
@[simp] theorem State.setAlignGroup_tim (pg : Nat) (g : AlignGroup) : (s.setAlignGroup pg g).tim = s.tim := rfl
@[simp] theorem State.setAlignGroup_pwr (pg : Nat) (g : AlignGroup) : (s.setAlignGroup pg g).pwr = s.pwr := rfl
@[simp] theorem State.setAlignGroup_pair (pg : Nat) (g : AlignGroup) : (s.setAlignGroup pg g).pair = s.pair := rfl
@[simp] theorem State.setAlignGroup_boot (pg : Nat) (g : AlignGroup) : (s.setAlignGroup pg g).boot = s.boot := rfl
@[simp] theorem State.setAlignGroup_cfg (pg : Nat) (g : AlignGroup) : (s.setAlignGroup pg g).cfg = s.cfg := rfl
@[simp] theorem State.setAlignGroup_jr (pg : Nat) (g : AlignGroup) : (s.setAlignGroup pg g).jr = s.jr := rfl

/-! State.setSymRec writes one symmetry record. -/

@[simp] theorem State.setSymRec_pending (cid : Nat) (r : SymRec) : (s.setSymRec cid r).pending = s.pending := rfl
@[simp] theorem State.setSymRec_outs (cid : Nat) (r : SymRec) : (s.setSymRec cid r).outs = s.outs := rfl
@[simp] theorem State.setSymRec_freeIdx (cid : Nat) (r : SymRec) : (s.setSymRec cid r).freeIdx = s.freeIdx := rfl
@[simp] theorem State.setSymRec_now (cid : Nat) (r : SymRec) : (s.setSymRec cid r).now = s.now := rfl
@[simp] theorem State.setSymRec_ident (cid : Nat) (r : SymRec) : (s.setSymRec cid r).ident = s.ident := rfl
@[simp] theorem State.setSymRec_tick (cid : Nat) (r : SymRec) : (s.setSymRec cid r).tick = s.tick := rfl
@[simp] theorem State.setSymRec_line (cid : Nat) (r : SymRec) : (s.setSymRec cid r).line = s.line := rfl
@[simp] theorem State.setSymRec_sdh (cid : Nat) (r : SymRec) : (s.setSymRec cid r).sdh = s.sdh := rfl
@[simp] theorem State.setSymRec_fab (cid : Nat) (r : SymRec) : (s.setSymRec cid r).fab = s.fab := rfl
@[simp] theorem State.setSymRec_cmd (cid : Nat) (r : SymRec) : (s.setSymRec cid r).cmd = s.cmd := rfl
@[simp] theorem State.setSymRec_host (cid : Nat) (r : SymRec) : (s.setSymRec cid r).host = s.host := rfl
@[simp] theorem State.setSymRec_ev (cid : Nat) (r : SymRec) : (s.setSymRec cid r).ev = s.ev := rfl
@[simp] theorem State.setSymRec_mem (cid : Nat) (r : SymRec) : (s.setSymRec cid r).mem = s.mem := rfl
@[simp] theorem State.setSymRec_fram (cid : Nat) (r : SymRec) : (s.setSymRec cid r).fram = s.fram := rfl
@[simp] theorem State.setSymRec_bush (cid : Nat) (r : SymRec) : (s.setSymRec cid r).bush = s.bush := rfl
@[simp] theorem State.setSymRec_prot (cid : Nat) (r : SymRec) : (s.setSymRec cid r).prot = s.prot := rfl
@[simp] theorem State.setSymRec_pie (cid : Nat) (r : SymRec) : (s.setSymRec cid r).pie = s.pie := rfl
@[simp] theorem State.setSymRec_tim (cid : Nat) (r : SymRec) : (s.setSymRec cid r).tim = s.tim := rfl
@[simp] theorem State.setSymRec_pwr (cid : Nat) (r : SymRec) : (s.setSymRec cid r).pwr = s.pwr := rfl
@[simp] theorem State.setSymRec_pair (cid : Nat) (r : SymRec) : (s.setSymRec cid r).pair = s.pair := rfl
@[simp] theorem State.setSymRec_boot (cid : Nat) (r : SymRec) : (s.setSymRec cid r).boot = s.boot := rfl
@[simp] theorem State.setSymRec_cfg (cid : Nat) (r : SymRec) : (s.setSymRec cid r).cfg = s.cfg := rfl
@[simp] theorem State.setSymRec_jr (cid : Nat) (r : SymRec) : (s.setSymRec cid r).jr = s.jr := rfl

/-! State.setQueue writes one queue. -/

@[simp] theorem State.setQueue_pending (q : Nat) (x : Queue) : (s.setQueue q x).pending = s.pending := rfl
@[simp] theorem State.setQueue_outs (q : Nat) (x : Queue) : (s.setQueue q x).outs = s.outs := rfl
@[simp] theorem State.setQueue_freeIdx (q : Nat) (x : Queue) : (s.setQueue q x).freeIdx = s.freeIdx := rfl
@[simp] theorem State.setQueue_now (q : Nat) (x : Queue) : (s.setQueue q x).now = s.now := rfl
@[simp] theorem State.setQueue_ident (q : Nat) (x : Queue) : (s.setQueue q x).ident = s.ident := rfl
@[simp] theorem State.setQueue_tick (q : Nat) (x : Queue) : (s.setQueue q x).tick = s.tick := rfl
@[simp] theorem State.setQueue_line (q : Nat) (x : Queue) : (s.setQueue q x).line = s.line := rfl
@[simp] theorem State.setQueue_sdh (q : Nat) (x : Queue) : (s.setQueue q x).sdh = s.sdh := rfl
@[simp] theorem State.setQueue_fab (q : Nat) (x : Queue) : (s.setQueue q x).fab = s.fab := rfl
@[simp] theorem State.setQueue_cmd (q : Nat) (x : Queue) : (s.setQueue q x).cmd = s.cmd := rfl
@[simp] theorem State.setQueue_host (q : Nat) (x : Queue) : (s.setQueue q x).host = s.host := rfl
@[simp] theorem State.setQueue_ev (q : Nat) (x : Queue) : (s.setQueue q x).ev = s.ev := rfl
@[simp] theorem State.setQueue_mem (q : Nat) (x : Queue) : (s.setQueue q x).mem = s.mem := rfl
@[simp] theorem State.setQueue_fram (q : Nat) (x : Queue) : (s.setQueue q x).fram = s.fram := rfl
@[simp] theorem State.setQueue_bush (q : Nat) (x : Queue) : (s.setQueue q x).bush = s.bush := rfl
@[simp] theorem State.setQueue_prot (q : Nat) (x : Queue) : (s.setQueue q x).prot = s.prot := rfl
@[simp] theorem State.setQueue_align (q : Nat) (x : Queue) : (s.setQueue q x).align = s.align := rfl
@[simp] theorem State.setQueue_tim (q : Nat) (x : Queue) : (s.setQueue q x).tim = s.tim := rfl
@[simp] theorem State.setQueue_pwr (q : Nat) (x : Queue) : (s.setQueue q x).pwr = s.pwr := rfl
@[simp] theorem State.setQueue_pair (q : Nat) (x : Queue) : (s.setQueue q x).pair = s.pair := rfl
@[simp] theorem State.setQueue_boot (q : Nat) (x : Queue) : (s.setQueue q x).boot = s.boot := rfl
@[simp] theorem State.setQueue_cfg (q : Nat) (x : Queue) : (s.setQueue q x).cfg = s.cfg := rfl
@[simp] theorem State.setQueue_jr (q : Nat) (x : Queue) : (s.setQueue q x).jr = s.jr := rfl

/-! State.setCand writes one reference candidate. -/

@[simp] theorem State.setCand_pending (c : Nat) (x : Cand) : (s.setCand c x).pending = s.pending := rfl
@[simp] theorem State.setCand_outs (c : Nat) (x : Cand) : (s.setCand c x).outs = s.outs := rfl
@[simp] theorem State.setCand_freeIdx (c : Nat) (x : Cand) : (s.setCand c x).freeIdx = s.freeIdx := rfl
@[simp] theorem State.setCand_now (c : Nat) (x : Cand) : (s.setCand c x).now = s.now := rfl
@[simp] theorem State.setCand_ident (c : Nat) (x : Cand) : (s.setCand c x).ident = s.ident := rfl
@[simp] theorem State.setCand_tick (c : Nat) (x : Cand) : (s.setCand c x).tick = s.tick := rfl
@[simp] theorem State.setCand_line (c : Nat) (x : Cand) : (s.setCand c x).line = s.line := rfl
@[simp] theorem State.setCand_sdh (c : Nat) (x : Cand) : (s.setCand c x).sdh = s.sdh := rfl
@[simp] theorem State.setCand_fab (c : Nat) (x : Cand) : (s.setCand c x).fab = s.fab := rfl
@[simp] theorem State.setCand_cmd (c : Nat) (x : Cand) : (s.setCand c x).cmd = s.cmd := rfl
@[simp] theorem State.setCand_host (c : Nat) (x : Cand) : (s.setCand c x).host = s.host := rfl
@[simp] theorem State.setCand_ev (c : Nat) (x : Cand) : (s.setCand c x).ev = s.ev := rfl
@[simp] theorem State.setCand_mem (c : Nat) (x : Cand) : (s.setCand c x).mem = s.mem := rfl
@[simp] theorem State.setCand_fram (c : Nat) (x : Cand) : (s.setCand c x).fram = s.fram := rfl
@[simp] theorem State.setCand_bush (c : Nat) (x : Cand) : (s.setCand c x).bush = s.bush := rfl
@[simp] theorem State.setCand_prot (c : Nat) (x : Cand) : (s.setCand c x).prot = s.prot := rfl
@[simp] theorem State.setCand_align (c : Nat) (x : Cand) : (s.setCand c x).align = s.align := rfl
@[simp] theorem State.setCand_pie (c : Nat) (x : Cand) : (s.setCand c x).pie = s.pie := rfl
@[simp] theorem State.setCand_pwr (c : Nat) (x : Cand) : (s.setCand c x).pwr = s.pwr := rfl
@[simp] theorem State.setCand_pair (c : Nat) (x : Cand) : (s.setCand c x).pair = s.pair := rfl
@[simp] theorem State.setCand_boot (c : Nat) (x : Cand) : (s.setCand c x).boot = s.boot := rfl
@[simp] theorem State.setCand_cfg (c : Nat) (x : Cand) : (s.setCand c x).cfg = s.cfg := rfl
@[simp] theorem State.setCand_jr (c : Nat) (x : Cand) : (s.setCand c x).jr = s.jr := rfl

/-! State.setPtpPort writes one PTP port. -/

@[simp] theorem State.setPtpPort_pending (i : Nat) (p : PtpPort) : (s.setPtpPort i p).pending = s.pending := rfl
@[simp] theorem State.setPtpPort_outs (i : Nat) (p : PtpPort) : (s.setPtpPort i p).outs = s.outs := rfl
@[simp] theorem State.setPtpPort_freeIdx (i : Nat) (p : PtpPort) : (s.setPtpPort i p).freeIdx = s.freeIdx := rfl
@[simp] theorem State.setPtpPort_now (i : Nat) (p : PtpPort) : (s.setPtpPort i p).now = s.now := rfl
@[simp] theorem State.setPtpPort_ident (i : Nat) (p : PtpPort) : (s.setPtpPort i p).ident = s.ident := rfl
@[simp] theorem State.setPtpPort_tick (i : Nat) (p : PtpPort) : (s.setPtpPort i p).tick = s.tick := rfl
@[simp] theorem State.setPtpPort_line (i : Nat) (p : PtpPort) : (s.setPtpPort i p).line = s.line := rfl
@[simp] theorem State.setPtpPort_sdh (i : Nat) (p : PtpPort) : (s.setPtpPort i p).sdh = s.sdh := rfl
@[simp] theorem State.setPtpPort_fab (i : Nat) (p : PtpPort) : (s.setPtpPort i p).fab = s.fab := rfl
@[simp] theorem State.setPtpPort_cmd (i : Nat) (p : PtpPort) : (s.setPtpPort i p).cmd = s.cmd := rfl
@[simp] theorem State.setPtpPort_host (i : Nat) (p : PtpPort) : (s.setPtpPort i p).host = s.host := rfl
@[simp] theorem State.setPtpPort_ev (i : Nat) (p : PtpPort) : (s.setPtpPort i p).ev = s.ev := rfl
@[simp] theorem State.setPtpPort_mem (i : Nat) (p : PtpPort) : (s.setPtpPort i p).mem = s.mem := rfl
@[simp] theorem State.setPtpPort_fram (i : Nat) (p : PtpPort) : (s.setPtpPort i p).fram = s.fram := rfl
@[simp] theorem State.setPtpPort_bush (i : Nat) (p : PtpPort) : (s.setPtpPort i p).bush = s.bush := rfl
@[simp] theorem State.setPtpPort_prot (i : Nat) (p : PtpPort) : (s.setPtpPort i p).prot = s.prot := rfl
@[simp] theorem State.setPtpPort_align (i : Nat) (p : PtpPort) : (s.setPtpPort i p).align = s.align := rfl
@[simp] theorem State.setPtpPort_pie (i : Nat) (p : PtpPort) : (s.setPtpPort i p).pie = s.pie := rfl
@[simp] theorem State.setPtpPort_pwr (i : Nat) (p : PtpPort) : (s.setPtpPort i p).pwr = s.pwr := rfl
@[simp] theorem State.setPtpPort_pair (i : Nat) (p : PtpPort) : (s.setPtpPort i p).pair = s.pair := rfl
@[simp] theorem State.setPtpPort_boot (i : Nat) (p : PtpPort) : (s.setPtpPort i p).boot = s.boot := rfl
@[simp] theorem State.setPtpPort_cfg (i : Nat) (p : PtpPort) : (s.setPtpPort i p).cfg = s.cfg := rfl
@[simp] theorem State.setPtpPort_jr (i : Nat) (p : PtpPort) : (s.setPtpPort i p).jr = s.jr := rfl

/-! State.setPort writes one command port. -/

@[simp] theorem State.setPort_pending (n : Nat) (p : CmdPort) : (s.setPort n p).pending = s.pending := rfl
@[simp] theorem State.setPort_outs (n : Nat) (p : CmdPort) : (s.setPort n p).outs = s.outs := rfl
@[simp] theorem State.setPort_freeIdx (n : Nat) (p : CmdPort) : (s.setPort n p).freeIdx = s.freeIdx := rfl
@[simp] theorem State.setPort_now (n : Nat) (p : CmdPort) : (s.setPort n p).now = s.now := rfl
@[simp] theorem State.setPort_ident (n : Nat) (p : CmdPort) : (s.setPort n p).ident = s.ident := rfl
@[simp] theorem State.setPort_tick (n : Nat) (p : CmdPort) : (s.setPort n p).tick = s.tick := rfl
@[simp] theorem State.setPort_line (n : Nat) (p : CmdPort) : (s.setPort n p).line = s.line := rfl
@[simp] theorem State.setPort_sdh (n : Nat) (p : CmdPort) : (s.setPort n p).sdh = s.sdh := rfl
@[simp] theorem State.setPort_fab (n : Nat) (p : CmdPort) : (s.setPort n p).fab = s.fab := rfl
@[simp] theorem State.setPort_host (n : Nat) (p : CmdPort) : (s.setPort n p).host = s.host := rfl
@[simp] theorem State.setPort_ev (n : Nat) (p : CmdPort) : (s.setPort n p).ev = s.ev := rfl
@[simp] theorem State.setPort_mem (n : Nat) (p : CmdPort) : (s.setPort n p).mem = s.mem := rfl
@[simp] theorem State.setPort_fram (n : Nat) (p : CmdPort) : (s.setPort n p).fram = s.fram := rfl
@[simp] theorem State.setPort_bush (n : Nat) (p : CmdPort) : (s.setPort n p).bush = s.bush := rfl
@[simp] theorem State.setPort_prot (n : Nat) (p : CmdPort) : (s.setPort n p).prot = s.prot := rfl
@[simp] theorem State.setPort_align (n : Nat) (p : CmdPort) : (s.setPort n p).align = s.align := rfl
@[simp] theorem State.setPort_pie (n : Nat) (p : CmdPort) : (s.setPort n p).pie = s.pie := rfl
@[simp] theorem State.setPort_tim (n : Nat) (p : CmdPort) : (s.setPort n p).tim = s.tim := rfl
@[simp] theorem State.setPort_pwr (n : Nat) (p : CmdPort) : (s.setPort n p).pwr = s.pwr := rfl
@[simp] theorem State.setPort_pair (n : Nat) (p : CmdPort) : (s.setPort n p).pair = s.pair := rfl
@[simp] theorem State.setPort_boot (n : Nat) (p : CmdPort) : (s.setPort n p).boot = s.boot := rfl
@[simp] theorem State.setPort_cfg (n : Nat) (p : CmdPort) : (s.setPort n p).cfg = s.cfg := rfl
@[simp] theorem State.setPort_jr (n : Nat) (p : CmdPort) : (s.setPort n p).jr = s.jr := rfl

/-! State.setTenantKeys writes one tenant's keys. -/

@[simp] theorem State.setTenantKeys_pending (t : Nat) (k : TenantKeys) : (s.setTenantKeys t k).pending = s.pending := rfl
@[simp] theorem State.setTenantKeys_outs (t : Nat) (k : TenantKeys) : (s.setTenantKeys t k).outs = s.outs := rfl
@[simp] theorem State.setTenantKeys_freeIdx (t : Nat) (k : TenantKeys) : (s.setTenantKeys t k).freeIdx = s.freeIdx := rfl
@[simp] theorem State.setTenantKeys_now (t : Nat) (k : TenantKeys) : (s.setTenantKeys t k).now = s.now := rfl
@[simp] theorem State.setTenantKeys_ident (t : Nat) (k : TenantKeys) : (s.setTenantKeys t k).ident = s.ident := rfl
@[simp] theorem State.setTenantKeys_tick (t : Nat) (k : TenantKeys) : (s.setTenantKeys t k).tick = s.tick := rfl
@[simp] theorem State.setTenantKeys_line (t : Nat) (k : TenantKeys) : (s.setTenantKeys t k).line = s.line := rfl
@[simp] theorem State.setTenantKeys_sdh (t : Nat) (k : TenantKeys) : (s.setTenantKeys t k).sdh = s.sdh := rfl
@[simp] theorem State.setTenantKeys_fab (t : Nat) (k : TenantKeys) : (s.setTenantKeys t k).fab = s.fab := rfl
@[simp] theorem State.setTenantKeys_host (t : Nat) (k : TenantKeys) : (s.setTenantKeys t k).host = s.host := rfl
@[simp] theorem State.setTenantKeys_ev (t : Nat) (k : TenantKeys) : (s.setTenantKeys t k).ev = s.ev := rfl
@[simp] theorem State.setTenantKeys_mem (t : Nat) (k : TenantKeys) : (s.setTenantKeys t k).mem = s.mem := rfl
@[simp] theorem State.setTenantKeys_fram (t : Nat) (k : TenantKeys) : (s.setTenantKeys t k).fram = s.fram := rfl
@[simp] theorem State.setTenantKeys_bush (t : Nat) (k : TenantKeys) : (s.setTenantKeys t k).bush = s.bush := rfl
@[simp] theorem State.setTenantKeys_prot (t : Nat) (k : TenantKeys) : (s.setTenantKeys t k).prot = s.prot := rfl
@[simp] theorem State.setTenantKeys_align (t : Nat) (k : TenantKeys) : (s.setTenantKeys t k).align = s.align := rfl
@[simp] theorem State.setTenantKeys_pie (t : Nat) (k : TenantKeys) : (s.setTenantKeys t k).pie = s.pie := rfl
@[simp] theorem State.setTenantKeys_tim (t : Nat) (k : TenantKeys) : (s.setTenantKeys t k).tim = s.tim := rfl
@[simp] theorem State.setTenantKeys_pwr (t : Nat) (k : TenantKeys) : (s.setTenantKeys t k).pwr = s.pwr := rfl
@[simp] theorem State.setTenantKeys_pair (t : Nat) (k : TenantKeys) : (s.setTenantKeys t k).pair = s.pair := rfl
@[simp] theorem State.setTenantKeys_boot (t : Nat) (k : TenantKeys) : (s.setTenantKeys t k).boot = s.boot := rfl
@[simp] theorem State.setTenantKeys_cfg (t : Nat) (k : TenantKeys) : (s.setTenantKeys t k).cfg = s.cfg := rfl
@[simp] theorem State.setTenantKeys_jr (t : Nat) (k : TenantKeys) : (s.setTenantKeys t k).jr = s.jr := rfl

/-! State.setRing writes one ring. -/

@[simp] theorem State.setRing_pending (n : Nat) (r : Ring) : (s.setRing n r).pending = s.pending := rfl
@[simp] theorem State.setRing_outs (n : Nat) (r : Ring) : (s.setRing n r).outs = s.outs := rfl
@[simp] theorem State.setRing_freeIdx (n : Nat) (r : Ring) : (s.setRing n r).freeIdx = s.freeIdx := rfl
@[simp] theorem State.setRing_now (n : Nat) (r : Ring) : (s.setRing n r).now = s.now := rfl
@[simp] theorem State.setRing_ident (n : Nat) (r : Ring) : (s.setRing n r).ident = s.ident := rfl
@[simp] theorem State.setRing_tick (n : Nat) (r : Ring) : (s.setRing n r).tick = s.tick := rfl
@[simp] theorem State.setRing_line (n : Nat) (r : Ring) : (s.setRing n r).line = s.line := rfl
@[simp] theorem State.setRing_sdh (n : Nat) (r : Ring) : (s.setRing n r).sdh = s.sdh := rfl
@[simp] theorem State.setRing_fab (n : Nat) (r : Ring) : (s.setRing n r).fab = s.fab := rfl
@[simp] theorem State.setRing_cmd (n : Nat) (r : Ring) : (s.setRing n r).cmd = s.cmd := rfl
@[simp] theorem State.setRing_ev (n : Nat) (r : Ring) : (s.setRing n r).ev = s.ev := rfl
@[simp] theorem State.setRing_mem (n : Nat) (r : Ring) : (s.setRing n r).mem = s.mem := rfl
@[simp] theorem State.setRing_fram (n : Nat) (r : Ring) : (s.setRing n r).fram = s.fram := rfl
@[simp] theorem State.setRing_bush (n : Nat) (r : Ring) : (s.setRing n r).bush = s.bush := rfl
@[simp] theorem State.setRing_prot (n : Nat) (r : Ring) : (s.setRing n r).prot = s.prot := rfl
@[simp] theorem State.setRing_align (n : Nat) (r : Ring) : (s.setRing n r).align = s.align := rfl
@[simp] theorem State.setRing_pie (n : Nat) (r : Ring) : (s.setRing n r).pie = s.pie := rfl
@[simp] theorem State.setRing_tim (n : Nat) (r : Ring) : (s.setRing n r).tim = s.tim := rfl
@[simp] theorem State.setRing_pwr (n : Nat) (r : Ring) : (s.setRing n r).pwr = s.pwr := rfl
@[simp] theorem State.setRing_pair (n : Nat) (r : Ring) : (s.setRing n r).pair = s.pair := rfl
@[simp] theorem State.setRing_boot (n : Nat) (r : Ring) : (s.setRing n r).boot = s.boot := rfl
@[simp] theorem State.setRing_cfg (n : Nat) (r : Ring) : (s.setRing n r).cfg = s.cfg := rfl
@[simp] theorem State.setRing_jr (n : Nat) (r : Ring) : (s.setRing n r).jr = s.jr := rfl

/-! State.setChan writes one channel. -/

@[simp] theorem State.setChan_pending (c : Nat) (x : Chan) : (s.setChan c x).pending = s.pending := rfl
@[simp] theorem State.setChan_outs (c : Nat) (x : Chan) : (s.setChan c x).outs = s.outs := rfl
@[simp] theorem State.setChan_freeIdx (c : Nat) (x : Chan) : (s.setChan c x).freeIdx = s.freeIdx := rfl
@[simp] theorem State.setChan_now (c : Nat) (x : Chan) : (s.setChan c x).now = s.now := rfl
@[simp] theorem State.setChan_ident (c : Nat) (x : Chan) : (s.setChan c x).ident = s.ident := rfl
@[simp] theorem State.setChan_tick (c : Nat) (x : Chan) : (s.setChan c x).tick = s.tick := rfl
@[simp] theorem State.setChan_line (c : Nat) (x : Chan) : (s.setChan c x).line = s.line := rfl
@[simp] theorem State.setChan_sdh (c : Nat) (x : Chan) : (s.setChan c x).sdh = s.sdh := rfl
@[simp] theorem State.setChan_fab (c : Nat) (x : Chan) : (s.setChan c x).fab = s.fab := rfl
@[simp] theorem State.setChan_cmd (c : Nat) (x : Chan) : (s.setChan c x).cmd = s.cmd := rfl
@[simp] theorem State.setChan_ev (c : Nat) (x : Chan) : (s.setChan c x).ev = s.ev := rfl
@[simp] theorem State.setChan_mem (c : Nat) (x : Chan) : (s.setChan c x).mem = s.mem := rfl
@[simp] theorem State.setChan_fram (c : Nat) (x : Chan) : (s.setChan c x).fram = s.fram := rfl
@[simp] theorem State.setChan_bush (c : Nat) (x : Chan) : (s.setChan c x).bush = s.bush := rfl
@[simp] theorem State.setChan_prot (c : Nat) (x : Chan) : (s.setChan c x).prot = s.prot := rfl
@[simp] theorem State.setChan_align (c : Nat) (x : Chan) : (s.setChan c x).align = s.align := rfl
@[simp] theorem State.setChan_pie (c : Nat) (x : Chan) : (s.setChan c x).pie = s.pie := rfl
@[simp] theorem State.setChan_tim (c : Nat) (x : Chan) : (s.setChan c x).tim = s.tim := rfl
@[simp] theorem State.setChan_pwr (c : Nat) (x : Chan) : (s.setChan c x).pwr = s.pwr := rfl
@[simp] theorem State.setChan_pair (c : Nat) (x : Chan) : (s.setChan c x).pair = s.pair := rfl
@[simp] theorem State.setChan_boot (c : Nat) (x : Chan) : (s.setChan c x).boot = s.boot := rfl
@[simp] theorem State.setChan_cfg (c : Nat) (x : Chan) : (s.setChan c x).cfg = s.cfg := rfl
@[simp] theorem State.setChan_jr (c : Nat) (x : Chan) : (s.setChan c x).jr = s.jr := rfl

/-! State.setHostPort writes one host port. -/

@[simp] theorem State.setHostPort_pending (b : Bool) (p : HostPort) : (s.setHostPort b p).pending = s.pending := rfl
@[simp] theorem State.setHostPort_outs (b : Bool) (p : HostPort) : (s.setHostPort b p).outs = s.outs := rfl
@[simp] theorem State.setHostPort_freeIdx (b : Bool) (p : HostPort) : (s.setHostPort b p).freeIdx = s.freeIdx := rfl
@[simp] theorem State.setHostPort_now (b : Bool) (p : HostPort) : (s.setHostPort b p).now = s.now := rfl
@[simp] theorem State.setHostPort_ident (b : Bool) (p : HostPort) : (s.setHostPort b p).ident = s.ident := rfl
@[simp] theorem State.setHostPort_tick (b : Bool) (p : HostPort) : (s.setHostPort b p).tick = s.tick := rfl
@[simp] theorem State.setHostPort_line (b : Bool) (p : HostPort) : (s.setHostPort b p).line = s.line := rfl
@[simp] theorem State.setHostPort_sdh (b : Bool) (p : HostPort) : (s.setHostPort b p).sdh = s.sdh := rfl
@[simp] theorem State.setHostPort_fab (b : Bool) (p : HostPort) : (s.setHostPort b p).fab = s.fab := rfl
@[simp] theorem State.setHostPort_cmd (b : Bool) (p : HostPort) : (s.setHostPort b p).cmd = s.cmd := rfl
@[simp] theorem State.setHostPort_ev (b : Bool) (p : HostPort) : (s.setHostPort b p).ev = s.ev := rfl
@[simp] theorem State.setHostPort_mem (b : Bool) (p : HostPort) : (s.setHostPort b p).mem = s.mem := rfl
@[simp] theorem State.setHostPort_fram (b : Bool) (p : HostPort) : (s.setHostPort b p).fram = s.fram := rfl
@[simp] theorem State.setHostPort_bush (b : Bool) (p : HostPort) : (s.setHostPort b p).bush = s.bush := rfl
@[simp] theorem State.setHostPort_prot (b : Bool) (p : HostPort) : (s.setHostPort b p).prot = s.prot := rfl
@[simp] theorem State.setHostPort_align (b : Bool) (p : HostPort) : (s.setHostPort b p).align = s.align := rfl
@[simp] theorem State.setHostPort_pie (b : Bool) (p : HostPort) : (s.setHostPort b p).pie = s.pie := rfl
@[simp] theorem State.setHostPort_tim (b : Bool) (p : HostPort) : (s.setHostPort b p).tim = s.tim := rfl
@[simp] theorem State.setHostPort_pwr (b : Bool) (p : HostPort) : (s.setHostPort b p).pwr = s.pwr := rfl
@[simp] theorem State.setHostPort_pair (b : Bool) (p : HostPort) : (s.setHostPort b p).pair = s.pair := rfl
@[simp] theorem State.setHostPort_boot (b : Bool) (p : HostPort) : (s.setHostPort b p).boot = s.boot := rfl
@[simp] theorem State.setHostPort_cfg (b : Bool) (p : HostPort) : (s.setHostPort b p).cfg = s.cfg := rfl
@[simp] theorem State.setHostPort_jr (b : Bool) (p : HostPort) : (s.setHostPort b p).jr = s.jr := rfl

/-! State.setTarget writes one event target. -/

@[simp] theorem State.setTarget_pending (t : Nat) (x : EvicTarget) : (s.setTarget t x).pending = s.pending := rfl
@[simp] theorem State.setTarget_outs (t : Nat) (x : EvicTarget) : (s.setTarget t x).outs = s.outs := rfl
@[simp] theorem State.setTarget_freeIdx (t : Nat) (x : EvicTarget) : (s.setTarget t x).freeIdx = s.freeIdx := rfl
@[simp] theorem State.setTarget_now (t : Nat) (x : EvicTarget) : (s.setTarget t x).now = s.now := rfl
@[simp] theorem State.setTarget_ident (t : Nat) (x : EvicTarget) : (s.setTarget t x).ident = s.ident := rfl
@[simp] theorem State.setTarget_tick (t : Nat) (x : EvicTarget) : (s.setTarget t x).tick = s.tick := rfl
@[simp] theorem State.setTarget_line (t : Nat) (x : EvicTarget) : (s.setTarget t x).line = s.line := rfl
@[simp] theorem State.setTarget_sdh (t : Nat) (x : EvicTarget) : (s.setTarget t x).sdh = s.sdh := rfl
@[simp] theorem State.setTarget_fab (t : Nat) (x : EvicTarget) : (s.setTarget t x).fab = s.fab := rfl
@[simp] theorem State.setTarget_cmd (t : Nat) (x : EvicTarget) : (s.setTarget t x).cmd = s.cmd := rfl
@[simp] theorem State.setTarget_host (t : Nat) (x : EvicTarget) : (s.setTarget t x).host = s.host := rfl
@[simp] theorem State.setTarget_mem (t : Nat) (x : EvicTarget) : (s.setTarget t x).mem = s.mem := rfl
@[simp] theorem State.setTarget_fram (t : Nat) (x : EvicTarget) : (s.setTarget t x).fram = s.fram := rfl
@[simp] theorem State.setTarget_bush (t : Nat) (x : EvicTarget) : (s.setTarget t x).bush = s.bush := rfl
@[simp] theorem State.setTarget_prot (t : Nat) (x : EvicTarget) : (s.setTarget t x).prot = s.prot := rfl
@[simp] theorem State.setTarget_align (t : Nat) (x : EvicTarget) : (s.setTarget t x).align = s.align := rfl
@[simp] theorem State.setTarget_pie (t : Nat) (x : EvicTarget) : (s.setTarget t x).pie = s.pie := rfl
@[simp] theorem State.setTarget_tim (t : Nat) (x : EvicTarget) : (s.setTarget t x).tim = s.tim := rfl
@[simp] theorem State.setTarget_pwr (t : Nat) (x : EvicTarget) : (s.setTarget t x).pwr = s.pwr := rfl
@[simp] theorem State.setTarget_pair (t : Nat) (x : EvicTarget) : (s.setTarget t x).pair = s.pair := rfl
@[simp] theorem State.setTarget_boot (t : Nat) (x : EvicTarget) : (s.setTarget t x).boot = s.boot := rfl
@[simp] theorem State.setTarget_cfg (t : Nat) (x : EvicTarget) : (s.setTarget t x).cfg = s.cfg := rfl
@[simp] theorem State.setTarget_jr (t : Nat) (x : EvicTarget) : (s.setTarget t x).jr = s.jr := rfl

/-! State.setEvPin writes one event pin. -/

@[simp] theorem State.setEvPin_pending (n : Nat) (p : EvPin) : (s.setEvPin n p).pending = s.pending := rfl
@[simp] theorem State.setEvPin_outs (n : Nat) (p : EvPin) : (s.setEvPin n p).outs = s.outs := rfl
@[simp] theorem State.setEvPin_freeIdx (n : Nat) (p : EvPin) : (s.setEvPin n p).freeIdx = s.freeIdx := rfl
@[simp] theorem State.setEvPin_now (n : Nat) (p : EvPin) : (s.setEvPin n p).now = s.now := rfl
@[simp] theorem State.setEvPin_ident (n : Nat) (p : EvPin) : (s.setEvPin n p).ident = s.ident := rfl
@[simp] theorem State.setEvPin_tick (n : Nat) (p : EvPin) : (s.setEvPin n p).tick = s.tick := rfl
@[simp] theorem State.setEvPin_line (n : Nat) (p : EvPin) : (s.setEvPin n p).line = s.line := rfl
@[simp] theorem State.setEvPin_sdh (n : Nat) (p : EvPin) : (s.setEvPin n p).sdh = s.sdh := rfl
@[simp] theorem State.setEvPin_fab (n : Nat) (p : EvPin) : (s.setEvPin n p).fab = s.fab := rfl
@[simp] theorem State.setEvPin_cmd (n : Nat) (p : EvPin) : (s.setEvPin n p).cmd = s.cmd := rfl
@[simp] theorem State.setEvPin_host (n : Nat) (p : EvPin) : (s.setEvPin n p).host = s.host := rfl
@[simp] theorem State.setEvPin_mem (n : Nat) (p : EvPin) : (s.setEvPin n p).mem = s.mem := rfl
@[simp] theorem State.setEvPin_fram (n : Nat) (p : EvPin) : (s.setEvPin n p).fram = s.fram := rfl
@[simp] theorem State.setEvPin_bush (n : Nat) (p : EvPin) : (s.setEvPin n p).bush = s.bush := rfl
@[simp] theorem State.setEvPin_prot (n : Nat) (p : EvPin) : (s.setEvPin n p).prot = s.prot := rfl
@[simp] theorem State.setEvPin_align (n : Nat) (p : EvPin) : (s.setEvPin n p).align = s.align := rfl
@[simp] theorem State.setEvPin_pie (n : Nat) (p : EvPin) : (s.setEvPin n p).pie = s.pie := rfl
@[simp] theorem State.setEvPin_tim (n : Nat) (p : EvPin) : (s.setEvPin n p).tim = s.tim := rfl
@[simp] theorem State.setEvPin_pwr (n : Nat) (p : EvPin) : (s.setEvPin n p).pwr = s.pwr := rfl
@[simp] theorem State.setEvPin_pair (n : Nat) (p : EvPin) : (s.setEvPin n p).pair = s.pair := rfl
@[simp] theorem State.setEvPin_boot (n : Nat) (p : EvPin) : (s.setEvPin n p).boot = s.boot := rfl
@[simp] theorem State.setEvPin_cfg (n : Nat) (p : EvPin) : (s.setEvPin n p).cfg = s.cfg := rfl
@[simp] theorem State.setEvPin_jr (n : Nat) (p : EvPin) : (s.setEvPin n p).jr = s.jr := rfl

/-! State.setEvRing writes one event ring. -/

@[simp] theorem State.setEvRing_pending (n : Nat) (x : EvRing) : (s.setEvRing n x).pending = s.pending := rfl
@[simp] theorem State.setEvRing_outs (n : Nat) (x : EvRing) : (s.setEvRing n x).outs = s.outs := rfl
@[simp] theorem State.setEvRing_freeIdx (n : Nat) (x : EvRing) : (s.setEvRing n x).freeIdx = s.freeIdx := rfl
@[simp] theorem State.setEvRing_now (n : Nat) (x : EvRing) : (s.setEvRing n x).now = s.now := rfl
@[simp] theorem State.setEvRing_ident (n : Nat) (x : EvRing) : (s.setEvRing n x).ident = s.ident := rfl
@[simp] theorem State.setEvRing_tick (n : Nat) (x : EvRing) : (s.setEvRing n x).tick = s.tick := rfl
@[simp] theorem State.setEvRing_line (n : Nat) (x : EvRing) : (s.setEvRing n x).line = s.line := rfl
@[simp] theorem State.setEvRing_sdh (n : Nat) (x : EvRing) : (s.setEvRing n x).sdh = s.sdh := rfl
@[simp] theorem State.setEvRing_fab (n : Nat) (x : EvRing) : (s.setEvRing n x).fab = s.fab := rfl
@[simp] theorem State.setEvRing_cmd (n : Nat) (x : EvRing) : (s.setEvRing n x).cmd = s.cmd := rfl
@[simp] theorem State.setEvRing_host (n : Nat) (x : EvRing) : (s.setEvRing n x).host = s.host := rfl
@[simp] theorem State.setEvRing_mem (n : Nat) (x : EvRing) : (s.setEvRing n x).mem = s.mem := rfl
@[simp] theorem State.setEvRing_fram (n : Nat) (x : EvRing) : (s.setEvRing n x).fram = s.fram := rfl
@[simp] theorem State.setEvRing_bush (n : Nat) (x : EvRing) : (s.setEvRing n x).bush = s.bush := rfl
@[simp] theorem State.setEvRing_prot (n : Nat) (x : EvRing) : (s.setEvRing n x).prot = s.prot := rfl
@[simp] theorem State.setEvRing_align (n : Nat) (x : EvRing) : (s.setEvRing n x).align = s.align := rfl
@[simp] theorem State.setEvRing_pie (n : Nat) (x : EvRing) : (s.setEvRing n x).pie = s.pie := rfl
@[simp] theorem State.setEvRing_tim (n : Nat) (x : EvRing) : (s.setEvRing n x).tim = s.tim := rfl
@[simp] theorem State.setEvRing_pwr (n : Nat) (x : EvRing) : (s.setEvRing n x).pwr = s.pwr := rfl
@[simp] theorem State.setEvRing_pair (n : Nat) (x : EvRing) : (s.setEvRing n x).pair = s.pair := rfl
@[simp] theorem State.setEvRing_boot (n : Nat) (x : EvRing) : (s.setEvRing n x).boot = s.boot := rfl
@[simp] theorem State.setEvRing_cfg (n : Nat) (x : EvRing) : (s.setEvRing n x).cfg = s.cfg := rfl
@[simp] theorem State.setEvRing_jr (n : Nat) (x : EvRing) : (s.setEvRing n x).jr = s.jr := rfl

/-! State.setCounter writes one counter. -/

@[simp] theorem State.setCounter_pending (i : Nat) (c : Counter) : (s.setCounter i c).pending = s.pending := rfl
@[simp] theorem State.setCounter_outs (i : Nat) (c : Counter) : (s.setCounter i c).outs = s.outs := rfl
@[simp] theorem State.setCounter_freeIdx (i : Nat) (c : Counter) : (s.setCounter i c).freeIdx = s.freeIdx := rfl
@[simp] theorem State.setCounter_now (i : Nat) (c : Counter) : (s.setCounter i c).now = s.now := rfl
@[simp] theorem State.setCounter_ident (i : Nat) (c : Counter) : (s.setCounter i c).ident = s.ident := rfl
@[simp] theorem State.setCounter_tick (i : Nat) (c : Counter) : (s.setCounter i c).tick = s.tick := rfl
@[simp] theorem State.setCounter_line (i : Nat) (c : Counter) : (s.setCounter i c).line = s.line := rfl
@[simp] theorem State.setCounter_sdh (i : Nat) (c : Counter) : (s.setCounter i c).sdh = s.sdh := rfl
@[simp] theorem State.setCounter_fab (i : Nat) (c : Counter) : (s.setCounter i c).fab = s.fab := rfl
@[simp] theorem State.setCounter_cmd (i : Nat) (c : Counter) : (s.setCounter i c).cmd = s.cmd := rfl
@[simp] theorem State.setCounter_host (i : Nat) (c : Counter) : (s.setCounter i c).host = s.host := rfl
@[simp] theorem State.setCounter_mem (i : Nat) (c : Counter) : (s.setCounter i c).mem = s.mem := rfl
@[simp] theorem State.setCounter_fram (i : Nat) (c : Counter) : (s.setCounter i c).fram = s.fram := rfl
@[simp] theorem State.setCounter_bush (i : Nat) (c : Counter) : (s.setCounter i c).bush = s.bush := rfl
@[simp] theorem State.setCounter_prot (i : Nat) (c : Counter) : (s.setCounter i c).prot = s.prot := rfl
@[simp] theorem State.setCounter_align (i : Nat) (c : Counter) : (s.setCounter i c).align = s.align := rfl
@[simp] theorem State.setCounter_pie (i : Nat) (c : Counter) : (s.setCounter i c).pie = s.pie := rfl
@[simp] theorem State.setCounter_tim (i : Nat) (c : Counter) : (s.setCounter i c).tim = s.tim := rfl
@[simp] theorem State.setCounter_pwr (i : Nat) (c : Counter) : (s.setCounter i c).pwr = s.pwr := rfl
@[simp] theorem State.setCounter_pair (i : Nat) (c : Counter) : (s.setCounter i c).pair = s.pair := rfl
@[simp] theorem State.setCounter_boot (i : Nat) (c : Counter) : (s.setCounter i c).boot = s.boot := rfl
@[simp] theorem State.setCounter_cfg (i : Nat) (c : Counter) : (s.setCounter i c).cfg = s.cfg := rfl
@[simp] theorem State.setCounter_jr (i : Nat) (c : Counter) : (s.setCounter i c).jr = s.jr := rfl

/-! State.setEcc marks one word. -/

@[simp] theorem State.setEcc_pending (st a : Nat) (e : Ecc) : (s.setEcc st a e).pending = s.pending := rfl
@[simp] theorem State.setEcc_outs (st a : Nat) (e : Ecc) : (s.setEcc st a e).outs = s.outs := rfl
@[simp] theorem State.setEcc_freeIdx (st a : Nat) (e : Ecc) : (s.setEcc st a e).freeIdx = s.freeIdx := rfl
@[simp] theorem State.setEcc_now (st a : Nat) (e : Ecc) : (s.setEcc st a e).now = s.now := rfl
@[simp] theorem State.setEcc_ident (st a : Nat) (e : Ecc) : (s.setEcc st a e).ident = s.ident := rfl
@[simp] theorem State.setEcc_tick (st a : Nat) (e : Ecc) : (s.setEcc st a e).tick = s.tick := rfl
@[simp] theorem State.setEcc_line (st a : Nat) (e : Ecc) : (s.setEcc st a e).line = s.line := rfl
@[simp] theorem State.setEcc_sdh (st a : Nat) (e : Ecc) : (s.setEcc st a e).sdh = s.sdh := rfl
@[simp] theorem State.setEcc_fab (st a : Nat) (e : Ecc) : (s.setEcc st a e).fab = s.fab := rfl
@[simp] theorem State.setEcc_cmd (st a : Nat) (e : Ecc) : (s.setEcc st a e).cmd = s.cmd := rfl
@[simp] theorem State.setEcc_host (st a : Nat) (e : Ecc) : (s.setEcc st a e).host = s.host := rfl
@[simp] theorem State.setEcc_ev (st a : Nat) (e : Ecc) : (s.setEcc st a e).ev = s.ev := rfl
@[simp] theorem State.setEcc_fram (st a : Nat) (e : Ecc) : (s.setEcc st a e).fram = s.fram := rfl
@[simp] theorem State.setEcc_bush (st a : Nat) (e : Ecc) : (s.setEcc st a e).bush = s.bush := rfl
@[simp] theorem State.setEcc_prot (st a : Nat) (e : Ecc) : (s.setEcc st a e).prot = s.prot := rfl
@[simp] theorem State.setEcc_align (st a : Nat) (e : Ecc) : (s.setEcc st a e).align = s.align := rfl
@[simp] theorem State.setEcc_pie (st a : Nat) (e : Ecc) : (s.setEcc st a e).pie = s.pie := rfl
@[simp] theorem State.setEcc_tim (st a : Nat) (e : Ecc) : (s.setEcc st a e).tim = s.tim := rfl
@[simp] theorem State.setEcc_pwr (st a : Nat) (e : Ecc) : (s.setEcc st a e).pwr = s.pwr := rfl
@[simp] theorem State.setEcc_pair (st a : Nat) (e : Ecc) : (s.setEcc st a e).pair = s.pair := rfl
@[simp] theorem State.setEcc_boot (st a : Nat) (e : Ecc) : (s.setEcc st a e).boot = s.boot := rfl
@[simp] theorem State.setEcc_cfg (st a : Nat) (e : Ecc) : (s.setEcc st a e).cfg = s.cfg := rfl
@[simp] theorem State.setEcc_jr (st a : Nat) (e : Ecc) : (s.setEcc st a e).jr = s.jr := rfl

/-! State.setStoreCounts writes one store's counts. -/

@[simp] theorem State.setStoreCounts_pending (st : Nat) (c : StoreCounts) : (s.setStoreCounts st c).pending = s.pending := rfl
@[simp] theorem State.setStoreCounts_outs (st : Nat) (c : StoreCounts) : (s.setStoreCounts st c).outs = s.outs := rfl
@[simp] theorem State.setStoreCounts_freeIdx (st : Nat) (c : StoreCounts) : (s.setStoreCounts st c).freeIdx = s.freeIdx := rfl
@[simp] theorem State.setStoreCounts_now (st : Nat) (c : StoreCounts) : (s.setStoreCounts st c).now = s.now := rfl
@[simp] theorem State.setStoreCounts_ident (st : Nat) (c : StoreCounts) : (s.setStoreCounts st c).ident = s.ident := rfl
@[simp] theorem State.setStoreCounts_tick (st : Nat) (c : StoreCounts) : (s.setStoreCounts st c).tick = s.tick := rfl
@[simp] theorem State.setStoreCounts_line (st : Nat) (c : StoreCounts) : (s.setStoreCounts st c).line = s.line := rfl
@[simp] theorem State.setStoreCounts_sdh (st : Nat) (c : StoreCounts) : (s.setStoreCounts st c).sdh = s.sdh := rfl
@[simp] theorem State.setStoreCounts_fab (st : Nat) (c : StoreCounts) : (s.setStoreCounts st c).fab = s.fab := rfl
@[simp] theorem State.setStoreCounts_cmd (st : Nat) (c : StoreCounts) : (s.setStoreCounts st c).cmd = s.cmd := rfl
@[simp] theorem State.setStoreCounts_host (st : Nat) (c : StoreCounts) : (s.setStoreCounts st c).host = s.host := rfl
@[simp] theorem State.setStoreCounts_ev (st : Nat) (c : StoreCounts) : (s.setStoreCounts st c).ev = s.ev := rfl
@[simp] theorem State.setStoreCounts_fram (st : Nat) (c : StoreCounts) : (s.setStoreCounts st c).fram = s.fram := rfl
@[simp] theorem State.setStoreCounts_bush (st : Nat) (c : StoreCounts) : (s.setStoreCounts st c).bush = s.bush := rfl
@[simp] theorem State.setStoreCounts_prot (st : Nat) (c : StoreCounts) : (s.setStoreCounts st c).prot = s.prot := rfl
@[simp] theorem State.setStoreCounts_align (st : Nat) (c : StoreCounts) : (s.setStoreCounts st c).align = s.align := rfl
@[simp] theorem State.setStoreCounts_pie (st : Nat) (c : StoreCounts) : (s.setStoreCounts st c).pie = s.pie := rfl
@[simp] theorem State.setStoreCounts_tim (st : Nat) (c : StoreCounts) : (s.setStoreCounts st c).tim = s.tim := rfl
@[simp] theorem State.setStoreCounts_pwr (st : Nat) (c : StoreCounts) : (s.setStoreCounts st c).pwr = s.pwr := rfl
@[simp] theorem State.setStoreCounts_pair (st : Nat) (c : StoreCounts) : (s.setStoreCounts st c).pair = s.pair := rfl
@[simp] theorem State.setStoreCounts_boot (st : Nat) (c : StoreCounts) : (s.setStoreCounts st c).boot = s.boot := rfl
@[simp] theorem State.setStoreCounts_cfg (st : Nat) (c : StoreCounts) : (s.setStoreCounts st c).cfg = s.cfg := rfl
@[simp] theorem State.setStoreCounts_jr (st : Nat) (c : StoreCounts) : (s.setStoreCounts st c).jr = s.jr := rfl

end Sys2Proof.Machine
end

