-- ==== Sys2Proof/Laws/Memory.lean ====
section
/-!
SUPPORT. Sparse tables and the memory: what is read back after a write, and that every memory operation keeps the canonical form (Memory.wf).
-/
namespace Sys2Proof.Machine

/-! Tables -/

theorem Tab.rising_mono {α : Type} : ∀ {t : Tab α} {a b : Nat}, a ≤ b → Tab.rising b t = true → Tab.rising a t = true
  | [], _, _, _, _ => rfl
  | (k, _) :: t, a, b, h, hr => by
    simp only [Tab.rising, Bool.and_eq_true, decide_eq_true_eq] at hr ⊢
    exact ⟨Nat.le_trans h hr.1, hr.2⟩

theorem Tab.rising_ins {α : Type} : ∀ {t : Tab α} {lo i : Nat} {a : α}, lo ≤ i → Tab.rising lo t = true → Tab.rising lo (t.ins i a) = true
  | [], lo, i, a, h, _ => by simp [Tab.ins, Tab.rising, h]
  | (k, v) :: t, lo, i, a, h, hr => by
    simp only [Tab.rising, Bool.and_eq_true, decide_eq_true_eq] at hr
    unfold Tab.ins
    split
    · next e => subst e; simp [Tab.rising, h, hr.2]
    · split
      · next hi => simp [Tab.rising, h, hr.2]; omega
      · next hi hne => simpa [Tab.rising, hr.1] using Tab.rising_ins (by omega) hr.2

theorem Tab.rising_drop {α : Type} : ∀ {t : Tab α} {lo i : Nat}, Tab.rising lo t = true → Tab.rising lo (t.drop' i) = true
  | [], _, _, _ => rfl
  | (k, v) :: t, lo, i, hr => by
    simp only [Tab.rising, Bool.and_eq_true, decide_eq_true_eq] at hr
    unfold Tab.drop'
    split
    · exact Tab.rising_mono (by omega) hr.2
    · split
      · simp [Tab.rising, hr]
      · simpa [Tab.rising, hr.1] using Tab.rising_drop hr.2

theorem Tab.mem_ins {α : Type} {e : Nat × α} : ∀ {t : Tab α} {i : Nat} {a : α}, e ∈ t.ins i a → e = (i, a) ∨ e ∈ t
  | [], i, a, h => by simpa [Tab.ins] using h
  | (k, v) :: t, i, a, h => by
    unfold Tab.ins at h
    split at h
    · simp only [List.mem_cons] at h ⊢; exact h.imp id .inr
    · split at h
      · simpa only [List.mem_cons] using h
      · rcases List.mem_cons.1 h with h | h
        · exact .inr (h ▸ List.mem_cons_self ..)
        · rcases Tab.mem_ins h with h | h
          · exact .inl h
          · exact .inr (List.mem_cons_of_mem _ h)

theorem Tab.mem_drop {α : Type} {e : Nat × α} : ∀ {t : Tab α} {i : Nat}, e ∈ t.drop' i → e ∈ t
  | [], _, h => h
  | (k, v) :: t, i, h => by
    unfold Tab.drop' at h
    split at h
    · exact List.mem_cons_of_mem _ h
    · split at h
      · exact h
      · rcases List.mem_cons.1 h with h | h
        · exact h ▸ List.mem_cons_self ..
        · exact List.mem_cons_of_mem _ (Tab.mem_drop h)

theorem Tab.wf_iff {α : Type} [DecidableEq α] {d : α} {t : Tab α} : Tab.wf d t = true ↔ Tab.rising 0 t = true ∧ ∀ e ∈ t, e.2 ≠ d := by
  simp [Tab.wf]

/-- A write keeps the canonical form of a table. -/
theorem Tab.wf_put {α : Type} [DecidableEq α] {d a : α} {t : Tab α} {i : Nat} (h : Tab.wf d t = true) : Tab.wf d (Tab.put d t i a) = true := by
  rw [Tab.wf_iff] at h ⊢
  unfold Tab.put
  split
  · exact ⟨Tab.rising_drop h.1, fun e he => h.2 e (Tab.mem_drop he)⟩
  · next hne =>
    refine ⟨Tab.rising_ins (Nat.zero_le _) h.1, fun e he => ?_⟩
    rcases Tab.mem_ins he with rfl | he
    · exact hne
    · exact h.2 e he

theorem Tab.rising_filter {α : Type} (p : Nat × α → Bool) : ∀ {t : Tab α} {lo : Nat}, Tab.rising lo t = true → Tab.rising lo (t.filter p) = true
  | [], _, _ => rfl
  | (k, v) :: t, lo, hr => by
    simp only [Tab.rising, Bool.and_eq_true, decide_eq_true_eq] at hr
    have := Tab.rising_filter p hr.2
    rw [List.filter_cons]
    split
    · simpa [Tab.rising, hr.1] using this
    · exact Tab.rising_mono (by omega) this

/-- Entries taken out leave a canonical table. -/
theorem Tab.wf_filter {α : Type} [DecidableEq α] {d : α} {t : Tab α} (p : Nat × α → Bool) (h : Tab.wf d t = true) : Tab.wf d (t.filter p) = true := by
  rw [Tab.wf_iff] at h ⊢
  exact ⟨Tab.rising_filter p h.1, fun e he => h.2 e ((List.mem_filter.1 he).1)⟩

/-- An index below every entry reads as the default. -/
theorem Tab.look_below {α : Type} {d : α} : ∀ {t : Tab α} {lo i : Nat}, Tab.rising lo t = true → i < lo → t.look d i = d
  | [], _, _, _, _ => rfl
  | (k, v) :: t, lo, i, hr, h => by
    simp only [Tab.rising, Bool.and_eq_true, decide_eq_true_eq] at hr
    rw [Tab.look, if_neg (by omega), if_pos (by omega)]

theorem Tab.look_ins_same {α : Type} {d a : α} {i : Nat} : ∀ {t : Tab α}, (t.ins i a).look d i = a
  | [] => by simp [Tab.ins, Tab.look]
  | (k, v) :: t => by
    unfold Tab.ins
    split
    · simp [Tab.look]
    · split
      · simp [Tab.look]
      · next h1 h2 => rw [Tab.look, if_neg h1, if_neg h2]; exact Tab.look_ins_same

theorem Tab.look_ins_ne {α : Type} {d a : α} {i j : Nat} (h : i ≠ j) : ∀ {t : Tab α} {lo : Nat}, Tab.rising lo t = true →
    (t.ins i a).look d j = t.look d j
  | [], _, _ => by simp [Tab.ins, Tab.look, h]
  | (k, v) :: t, lo, hr => by
    simp only [Tab.rising, Bool.and_eq_true, decide_eq_true_eq] at hr
    unfold Tab.ins
    split
    · next e => subst e; rw [Tab.look, Tab.look, if_neg h, if_neg h]
    · split
      · rw [Tab.look, if_neg h]
        split
        · rw [Tab.look, if_neg (by omega), if_pos (by omega)]
        · rfl
      · rw [Tab.look, Tab.look, Tab.look_ins_ne h hr.2]

theorem Tab.look_drop_same {α : Type} {d : α} {i : Nat} : ∀ {t : Tab α} {lo : Nat}, Tab.rising lo t = true → (t.drop' i).look d i = d
  | [], _, _ => rfl
  | (k, v) :: t, lo, hr => by
    simp only [Tab.rising, Bool.and_eq_true, decide_eq_true_eq] at hr
    unfold Tab.drop'
    split
    · exact Tab.look_below hr.2 (by omega)
    · split
      · rw [Tab.look, if_neg ‹_›, if_pos ‹_›]
      · rw [Tab.look, if_neg ‹_›, if_neg ‹_›]; exact Tab.look_drop_same hr.2

theorem Tab.look_drop_ne {α : Type} {d : α} {i j : Nat} (h : i ≠ j) : ∀ {t : Tab α} {lo : Nat}, Tab.rising lo t = true →
    (t.drop' i).look d j = t.look d j
  | [], _, _ => rfl
  | (k, v) :: t, lo, hr => by
    simp only [Tab.rising, Bool.and_eq_true, decide_eq_true_eq] at hr
    unfold Tab.drop'
    split
    · next e =>
      rw [Tab.look, if_neg (by omega)]
      split
      · exact Tab.look_below hr.2 (by omega)
      · rfl
    · split
      · rfl
      · rw [Tab.look, Tab.look, Tab.look_drop_ne h hr.2]

/-- What is written is read back. -/
theorem Tab.look_put_same {α : Type} [DecidableEq α] {d a : α} {t : Tab α} {i : Nat} (h : Tab.wf d t = true) : (Tab.put d t i a).look d i = a := by
  unfold Tab.put
  split
  · next e => rw [e]; exact Tab.look_drop_same (Tab.wf_iff.1 h).1
  · exact Tab.look_ins_same

/-- A write leaves every other index alone. -/
theorem Tab.look_put_ne {α : Type} [DecidableEq α] {d a : α} {t : Tab α} {i j : Nat} (h : Tab.wf d t = true) (n : i ≠ j) :
    (Tab.put d t i a).look d j = t.look d j := by
  unfold Tab.put
  split
  · exact Tab.look_drop_ne n (Tab.wf_iff.1 h).1
  · exact Tab.look_ins_ne n (Tab.wf_iff.1 h).1

/-! The octets of the stores -/

theorem Memory.wf_put {t : List Host.Cell} {a : Nat} {b : Byte} (h : Memory.wf t = true) : Memory.wf (Tab.put 0 t a b) = true := Tab.wf_put h

/-- A run of octets keeps the canonical form. -/
theorem Memory.wf_putOctets {store : Nat} : ∀ {l : List Byte} {off : Nat} {t : List Host.Cell}, Memory.wf t = true →
    Memory.wf (putOctets store off l t) = true
  | [], _, _, h => h
  | _ :: l, _, _, h => Memory.wf_putOctets (l := l) (Memory.wf_put h)

/-- A run of octets changes no octet outside it. -/
theorem Memory.look_putOctets_ne {store a : Nat} : ∀ {l : List Byte} {off : Nat} {t : List Host.Cell}, Memory.wf t = true →
    (∀ k, k < l.length → a ≠ octetKey store (off + k)) → Tab.look (0 : Byte) (putOctets store off l t) a = Tab.look (0 : Byte) t a
  | [], _, _, _, _ => rfl
  | b :: l, off, t, h, n => by
    have h0 := n 0 (by simp)
    rw [putOctets, Memory.look_putOctets_ne (l := l) (Memory.wf_put h) fun k hk => ?_, Tab.look_put_ne h (by simpa using h0.symm)]
    have := n (k + 1) (by simpa using hk)
    rwa [Nat.add_comm k 1, ← Nat.add_assoc] at this

/-! Events touch no memory -/

section Events
variable (s : State)

@[simp] theorem State.sendVector_mem (b : Bool) (v : Nat) : (s.sendVector b v).mem = s.mem := by unfold State.sendVector; dsimp only; split <;> rfl
@[simp] theorem State.stage_mem (r : EvRec) : (s.stage r).mem = s.mem := by unfold State.stage; split <;> rfl

@[simp] theorem State.notifyOne_mem (t : Nat) : (s.notifyOne t).mem = s.mem := by
  unfold State.notifyOne
  dsimp only
  split
  · rfl
  · split
    · rfl
    · split
      · simp
      · split <;> simp

@[simp] theorem State.notify_mem : s.notify.mem = s.mem := by simp [State.notify]

@[simp] theorem State.fire_mem (src : Nat) : (s.fire src).mem = s.mem := by
  unfold State.fire
  dsimp only
  split
  · rfl
  · split <;> simp

@[simp] theorem State.raise_mem (e : Event) : (s.raise e).mem = s.mem := by simp [State.raise]

end Events

/-! Every operation on the stores keeps the canonical form -/

section Octets
variable (s : State)

@[simp] theorem State.setEcc_octets (st a : Nat) (e : Ecc) : (s.setEcc st a e).mem.octets = s.mem.octets := rfl
@[simp] theorem State.setStoreCounts_octets (st : Nat) (c : StoreCounts) : (s.setStoreCounts st c).mem.octets = s.mem.octets := rfl

@[simp] theorem State.eccCapture_octets (st k m a : Nat) : (s.eccCapture st k m a).mem.octets = s.mem.octets := by
  unfold State.eccCapture; dsimp only; split <;> rfl

@[simp] theorem State.noteCe_octets (st m a : Nat) : (s.noteCe st m a).mem.octets = s.mem.octets := by simp [State.noteCe]
@[simp] theorem State.noteUe_octets (st m a : Nat) : (s.noteUe st m a).mem.octets = s.mem.octets := by simp [State.noteUe]
@[simp] theorem State.notePoisonRead_octets (st m a : Nat) : (s.notePoisonRead st m a).mem.octets = s.mem.octets := by simp [State.notePoisonRead]
@[simp] theorem State.notePoisonWrite_octets (st m a : Nat) : (s.notePoisonWrite st m a).mem.octets = s.mem.octets := by simp [State.notePoisonWrite]

@[simp] theorem State.noteMap_octets (st a : Nat) : (s.noteMap st a).mem.octets = s.mem.octets := by unfold State.noteMap; split <;> rfl

/-- What a block, the scrub or an engine finds in a word changes no octet. -/
@[simp] theorem State.eccFound_octets (e : EccEvent) : (s.eccFound e).mem.octets = s.mem.octets := by
  unfold State.eccFound
  dsimp only
  split
  · rfl
  · simp
  · simp
  · split
    · simp
    · split <;> simp

/-- A read changes no octet (Table 15.2). -/
@[simp] theorem State.memRead_octets (st a m : Nat) : (s.memRead st a m).2.2.mem.octets = s.mem.octets := by
  unfold State.memRead; dsimp only; split <;> simp

end Octets

variable {s : State}

theorem State.memRead_memWf {st a m : Nat} (h : s.memWf = true) : (s.memRead st a m).2.2.memWf = true := by
  simpa [State.memWf] using h

/-- An injection keeps the canonical form. -/
theorem State.injected_memWf {st a : Nat} (h : s.memWf = true) : (s.injected st a).memWf = true := by
  unfold State.memWf at h ⊢
  unfold State.injected
  split
  · exact h
  · dsimp only
    split
    · exact h
    · split
      · exact h
      · exact Memory.wf_putOctets h

/-- A write of a word keeps the canonical form (R487, R489). -/
theorem State.memWrite_memWf {st a m : Nat} {k : WriteKind} {os : List Byte} {es : List Bool} (h : s.memWf = true) :
    (s.memWrite st a m k os es).2.memWf = true := by
  unfold State.memWrite
  dsimp only
  split
  · exact State.injected_memWf (by simpa [State.memWf] using Memory.wf_putOctets h)
  · split <;> exact State.injected_memWf (by simpa [State.memWf] using Memory.wf_putOctets h)

theorem foldl_keeps {α β : Type} (P : β → Prop) {f : β → α → β} (hf : ∀ b a, P b → P (f b a)) : ∀ (l : List α) {b : β}, P b → P (l.foldl f b)
  | [], _, h => h
  | a :: l, _, h => foldl_keeps P hf l (hf _ a h)

/-- A write of any run of octets keeps the canonical form. -/
theorem State.memWriteRun_memWf {st off m : Nat} {k : WriteKind} {os : List Byte} {es : List Bool} (h : s.memWf = true) :
    (s.memWriteRun st off m k os es).2.memWf = true := by
  unfold State.memWriteRun
  split
  · exact h
  · refine foldl_keeps (fun r : Bool × State => r.2.memWf = true) (fun _ _ hb => ?_) _ (b := (false, s)) h
    exact State.memWrite_memWf hb

/-- Reset memory lists nothing. -/
theorem State.reset_memWf : State.reset.memWf = true := rfl

end Sys2Proof.Machine
end

