-- ==== Sys2Proof/Laws/Packets.lean ====
section
/-!
SUPPORT. exec on each command packet: the operation of its opcode on a well-formed packet. Each equation is exec's arm and the meaning it calls.
-/
namespace Sys2Proof.Machine

theorem exec_laneSet {c : Cmd} {s : State} (h : c.wf = true) : exec (.laneSet c) s = .next (s.laneSet c) :=
  packet_wf (f := fun s => s.laneSet c) h
theorem exec_laneGet {c : Cmd} {s : State} (h : c.wf = true) : exec (.laneGet c) s = .next (s.laneGet c) :=
  packet_wf (f := fun s => s.laneGet c) h
theorem exec_laneStatus {c : Cmd} {s : State} (h : c.wf = true) : exec (.laneStatus c) s = .next (s.laneStatus c) :=
  packet_wf (f := fun s => s.laneStatus c) h
theorem exec_laneLoop {c : Cmd} {s : State} (h : c.wf = true) : exec (.laneLoop c) s = .next (s.laneLoop c) :=
  packet_wf (f := fun s => s.laneLoop c) h
theorem exec_lanePrbs {c : Cmd} {s : State} (h : c.wf = true) : exec (.lanePrbs c) s = .next (s.lanePrbs c) :=
  packet_wf (f := fun s => s.lanePrbs c) h
theorem exec_mateSet {c : Cmd} {s : State} (h : c.wf = true) : exec (.mateSet c) s = .next (s.mateSet c) :=
  packet_wf (f := fun s => s.mateSet c) h
theorem exec_mateStatus {c : Cmd} {s : State} (h : c.wf = true) : exec (.mateStatus c) s = .next (s.mateStatus c) :=
  packet_wf (f := fun s => s.mateStatus c) h
theorem exec_tribSet {c : Cmd} {s : State} (h : c.wf = true) : exec (.tribSet c) s = .next (s.tribSet c) :=
  packet_wf (f := fun s => s.tribSet c) h
theorem exec_tribGet {c : Cmd} {s : State} (h : c.wf = true) : exec (.tribGet c) s = .next (s.tribGet c) :=
  packet_wf (f := fun s => s.tribGet c) h
theorem exec_tribStatus {c : Cmd} {s : State} (h : c.wf = true) : exec (.tribStatus c) s = .next (s.tribStatus c) :=
  packet_wf (f := fun s => s.tribStatus c) h
theorem exec_tribLoop {c : Cmd} {s : State} (h : c.wf = true) : exec (.tribLoop c) s = .next (s.tribLoop c) :=
  packet_wf (f := fun s => s.tribLoop c) h
theorem exec_sdhOhSet {c : Cmd} {s : State} (h : c.wf = true) : exec (.sdhOhSet c) s = .next (s.sdhOhSet c) :=
  packet_wf (f := fun s => s.sdhOhSet c) h
theorem exec_sdhOhGet {c : Cmd} {s : State} (h : c.wf = true) : exec (.sdhOhGet c) s = .next (s.sdhOhGet c) :=
  packet_wf (f := fun s => s.sdhOhGet c) h
theorem exec_sdhStatus {c : Cmd} {s : State} (h : c.wf = true) : exec (.sdhStatus c) s = .next (s.sdhStatus c) :=
  packet_wf (f := fun s => s.sdhStatus c) h
theorem exec_sdhCapture {c : Cmd} {s : State} (h : c.wf = true) : exec (.sdhCapture c) s = .next (s.sdhCapture c) :=
  packet_wf (f := fun s => s.sdhCapture c) h
theorem exec_pathOhSet {c : Cmd} {s : State} (h : c.wf = true) : exec (.pathOhSet c) s = .next (s.pathOhSet c) :=
  packet_wf (f := fun s => s.pathOhSet c) h
theorem exec_pathStatus {c : Cmd} {s : State} (h : c.wf = true) : exec (.pathStatus c) s = .next (s.pathStatus c) :=
  packet_wf (f := fun s => s.pathStatus c) h
theorem exec_pathCapture {c : Cmd} {s : State} (h : c.wf = true) : exec (.pathCapture c) s = .next (s.pathCapture c) :=
  packet_wf (f := fun s => s.pathCapture c) h
theorem exec_traceSet {c : Cmd} {s : State} (h : c.wf = true) : exec (.traceSet c) s = .next (s.traceSet c) :=
  packet_wf (f := fun s => s.traceSet c) h
theorem exec_traceGet {c : Cmd} {s : State} (h : c.wf = true) : exec (.traceGet c) s = .next (s.traceGet c) :=
  packet_wf (f := fun s => s.traceGet c) h
theorem exec_sdhThreshGet {c : Cmd} {s : State} (h : c.wf = true) : exec (.sdhThreshGet c) s = .next (s.sdhThreshGet c) :=
  packet_wf (f := fun s => s.sdhThreshGet c) h
theorem exec_e1Set {c : Cmd} {s : State} (h : c.wf = true) : exec (.e1Set c) s = .next (s.e1Set c) :=
  packet_wf (f := fun s => s.e1Set c) h
theorem exec_e1Get {c : Cmd} {s : State} (h : c.wf = true) : exec (.e1Get c) s = .next (s.e1Get c) :=
  packet_wf (f := fun s => s.e1Get c) h
theorem exec_e1Status {c : Cmd} {s : State} (h : c.wf = true) : exec (.e1Status c) s = .next (s.e1Status c) :=
  packet_wf (f := fun s => s.e1Status c) h
theorem exec_e1FramerBind {c : Cmd} {s : State} (h : c.wf = true) : exec (.e1FramerBind c) s = .next (s.e1FramerBind c) :=
  packet_wf (f := fun s => s.e1FramerBind c) h
theorem exec_c37Status {c : Cmd} {s : State} (h : c.wf = true) : exec (.c37Status c) s = .next (s.c37Status c) :=
  packet_wf (f := fun s => s.c37Status c) h
theorem exec_gfpSet {c : Cmd} {s : State} (h : c.wf = true) : exec (.gfpSet c) s = .next (s.gfpSet c) :=
  packet_wf (f := fun s => s.gfpSet c) h
theorem exec_gfpGet {c : Cmd} {s : State} (h : c.wf = true) : exec (.gfpGet c) s = .next (s.gfpGet c) :=
  packet_wf (f := fun s => s.gfpGet c) h
theorem exec_gfpBind {c : Cmd} {s : State} (h : c.wf = true) : exec (.gfpBind c) s = .next (s.gfpBindOp c) :=
  packet_wf (f := fun s => s.gfpBindOp c) h
theorem exec_gfpStatus {c : Cmd} {s : State} (h : c.wf = true) : exec (.gfpStatus c) s = .next (s.gfpStatus c) :=
  packet_wf (f := fun s => s.gfpStatus c) h
theorem exec_vcatSet {c : Cmd} {s : State} (h : c.wf = true) : exec (.vcatSet c) s = .next (s.vcatSet c) :=
  packet_wf (f := fun s => s.vcatSet c) h
theorem exec_vcatGet {c : Cmd} {s : State} (h : c.wf = true) : exec (.vcatGet c) s = .next (s.vcatGet c) :=
  packet_wf (f := fun s => s.vcatGet c) h
theorem exec_vcatMemberAdd {c : Cmd} {s : State} (h : c.wf = true) : exec (.vcatMemberAdd c) s = .next (s.memberAdd c) :=
  packet_wf (f := fun s => s.memberAdd c) h
theorem exec_vcatMemberRemove {c : Cmd} {s : State} (h : c.wf = true) : exec (.vcatMemberRemove c) s = .next (s.memberRemove c) :=
  packet_wf (f := fun s => s.memberRemove c) h
theorem exec_vcatStatus {c : Cmd} {s : State} (h : c.wf = true) : exec (.vcatStatus c) s = .next (s.vcatStatus c) :=
  packet_wf (f := fun s => s.vcatStatus c) h
theorem exec_connAdd {c : Cmd} {s : State} (h : c.wf = true) : exec (.connAdd c) s = .next (s.changeOp c 3 1) :=
  packet_wf (f := fun s => s.changeOp c 3 1) h
theorem exec_connSet {c : Cmd} {s : State} (h : c.wf = true) : exec (.connSet c) s = .next (s.changeOp c 3 2) :=
  packet_wf (f := fun s => s.changeOp c 3 2) h
theorem exec_connDel {c : Cmd} {s : State} (h : c.wf = true) : exec (.connDel c) s = .next (s.changeOp c 3 3) :=
  packet_wf (f := fun s => s.changeOp c 3 3) h
theorem exec_connGet {c : Cmd} {s : State} (h : c.wf = true) : exec (.connGet c) s = .next (s.connGet c) :=
  packet_wf (f := fun s => s.connGet c) h
theorem exec_connFind {c : Cmd} {s : State} (h : c.wf = true) : exec (.connFind c) s = .next (s.connFind c) :=
  packet_wf (f := fun s => s.connFind c) h
theorem exec_connLatency {c : Cmd} {s : State} (h : c.wf = true) : exec (.connLatency c) s = .next (s.connLatency c) :=
  packet_wf (f := fun s => s.connLatency c) h
theorem exec_structSet {c : Cmd} {s : State} (h : c.wf = true) : exec (.structSet c) s = .next (s.changeOp c 3 7) :=
  packet_wf (f := fun s => s.changeOp c 3 7) h
theorem exec_structGet {c : Cmd} {s : State} (h : c.wf = true) : exec (.structGet c) s = .next (s.structGet c) :=
  packet_wf (f := fun s => s.structGet c) h
theorem exec_tugSet {c : Cmd} {s : State} (h : c.wf = true) : exec (.tugSet c) s = .next (s.changeOp c 3 9) :=
  packet_wf (f := fun s => s.changeOp c 3 9) h
theorem exec_tugGet {c : Cmd} {s : State} (h : c.wf = true) : exec (.tugGet c) s = .next (s.tugGet c) :=
  packet_wf (f := fun s => s.tugGet c) h
theorem exec_mapRead {c : Cmd} {s : State} (h : c.wf = true) : exec (.mapRead c) s = .next (s.mapRead c) :=
  packet_wf (f := fun s => s.mapRead c) h
theorem exec_bushelOpen {c : Cmd} {s : State} (h : c.wf = true) : exec (.bushelOpen c) s = .next (s.bushelOpen c) :=
  packet_wf (f := fun s => s.bushelOpen c) h
theorem exec_bushelCommit {c : Cmd} {s : State} (h : c.wf = true) : exec (.bushelCommit c) s = .next (s.bushelCommit c) :=
  packet_wf (f := fun s => s.bushelCommit c) h
theorem exec_bushelCancel {c : Cmd} {s : State} (h : c.wf = true) : exec (.bushelCancel c) s = .next (s.bushelCancel c) :=
  packet_wf (f := fun s => s.bushelCancel c) h
theorem exec_bushelStatus {c : Cmd} {s : State} (h : c.wf = true) : exec (.bushelStatus c) s = .next (s.bushelStatus c) :=
  packet_wf (f := fun s => s.bushelStatus c) h
theorem exec_bushelFetch {c : Cmd} {s : State} {list : List Byte} (h : c.wf = true) : exec (.bushelFetch c list) s = .next (s.bushelFetch c list) :=
  packet_wf (f := fun s => s.bushelFetch c list) h
theorem exec_shed {c : Cmd} {s : State} (h : c.wf = true) : exec (.shed c) s = .next (s.shed c) :=
  packet_wf (f := fun s => s.shed c) h
theorem exec_usageGet {c : Cmd} {s : State} (h : c.wf = true) : exec (.usageGet c) s = .next (s.usageGet c) :=
  packet_wf (f := fun s => s.usageGet c) h
theorem exec_bushelList {c : Cmd} {s : State} (h : c.wf = true) : exec (.bushelList c) s = .next (s.bushelList c) :=
  packet_wf (f := fun s => s.bushelList c) h
theorem exec_pgAdd {c : Cmd} {s : State} (h : c.wf = true) : exec (.pgAdd c) s = .next (s.changeOp c 5 1) :=
  packet_wf (f := fun s => s.changeOp c 5 1) h
theorem exec_pgSet {c : Cmd} {s : State} (h : c.wf = true) : exec (.pgSet c) s = .next (s.changeOp c 5 2) :=
  packet_wf (f := fun s => s.changeOp c 5 2) h
theorem exec_pgDel {c : Cmd} {s : State} (h : c.wf = true) : exec (.pgDel c) s = .next (s.changeOp c 5 3) :=
  packet_wf (f := fun s => s.changeOp c 5 3) h
theorem exec_pgGet {c : Cmd} {s : State} (h : c.wf = true) : exec (.pgGet c) s = .next (s.pgGet c) :=
  packet_wf (f := fun s => s.pgGet c) h
theorem exec_pgCmd {c : Cmd} {s : State} (h : c.wf = true) : exec (.pgCmd c) s = .next (s.pgCmd c) :=
  packet_wf (f := fun s => s.pgCmd c) h
theorem exec_pgStatus {c : Cmd} {s : State} (h : c.wf = true) : exec (.pgStatus c) s = .next (s.pgStatus c) :=
  packet_wf (f := fun s => s.pgStatus c) h
theorem exec_lpSet {c : Cmd} {s : State} (h : c.wf = true) : exec (.lpSet c) s = .next (s.changeOp c 5 7) :=
  packet_wf (f := fun s => s.changeOp c 5 7) h
theorem exec_lpDel {c : Cmd} {s : State} (h : c.wf = true) : exec (.lpDel c) s = .next (s.changeOp c 5 8) :=
  packet_wf (f := fun s => s.changeOp c 5 8) h
theorem exec_lpGet {c : Cmd} {s : State} (h : c.wf = true) : exec (.lpGet c) s = .next (s.lpGet c) :=
  packet_wf (f := fun s => s.lpGet c) h
theorem exec_lpCmd {c : Cmd} {s : State} (h : c.wf = true) : exec (.lpCmd c) s = .next (s.lpCmd c) :=
  packet_wf (f := fun s => s.lpCmd c) h
theorem exec_lpStatus {c : Cmd} {s : State} (h : c.wf = true) : exec (.lpStatus c) s = .next (s.lpStatus c) :=
  packet_wf (f := fun s => s.lpStatus c) h
theorem exec_pgScan {c : Cmd} {s : State} (h : c.wf = true) : exec (.pgScan c) s = .next (s.pgScan c) :=
  packet_wf (f := fun s => s.pgScan c) h
theorem exec_alignSet {c : Cmd} {s : State} (h : c.wf = true) : exec (.alignSet c) s = .next (s.changeOp c 6 1) :=
  packet_wf (f := fun s => s.changeOp c 6 1) h
theorem exec_alignGet {c : Cmd} {s : State} (h : c.wf = true) : exec (.alignGet c) s = .next (s.alignGet c) :=
  packet_wf (f := fun s => s.alignGet c) h
theorem exec_alignStatus {c : Cmd} {s : State} (h : c.wf = true) : exec (.alignStatus c) s = .next (s.alignStatus c) :=
  packet_wf (f := fun s => s.alignStatus c) h
theorem exec_alignRestart {c : Cmd} {s : State} (h : c.wf = true) : exec (.alignRestart c) s = .next (s.alignRestart c) :=
  packet_wf (f := fun s => s.alignRestart c) h
theorem exec_symSet {c : Cmd} {s : State} (h : c.wf = true) : exec (.symSet c) s = .next (s.changeOp c 6 5) :=
  packet_wf (f := fun s => s.changeOp c 6 5) h
theorem exec_symGet {c : Cmd} {s : State} (h : c.wf = true) : exec (.symGet c) s = .next (s.symGet c) :=
  packet_wf (f := fun s => s.symGet c) h
theorem exec_symStatus {c : Cmd} {s : State} (h : c.wf = true) : exec (.symStatus c) s = .next (s.symStatus c) :=
  packet_wf (f := fun s => s.symStatus c) h
theorem exec_markSet {c : Cmd} {s : State} (h : c.wf = true) : exec (.markSet c) s = .next (s.markSet c) :=
  packet_wf (f := fun s => s.markSet c) h
theorem exec_markCapture {c : Cmd} {s : State} (h : c.wf = true) : exec (.markCapture c) s = .next (s.markCapture c) :=
  packet_wf (f := fun s => s.markCapture c) h
theorem exec_vcatAlignSet {c : Cmd} {s : State} (h : c.wf = true) : exec (.vcatAlignSet c) s = .next (s.vcatAlignSet c) :=
  packet_wf (f := fun s => s.vcatAlignSet c) h
theorem exec_fathomMap {c : Cmd} {s : State} (h : c.wf = true) : exec (.fathomMap c) s = .next (s.fathomMap c) :=
  packet_wf (f := fun s => s.fathomMap c) h
theorem exec_queueAdd {c : Cmd} {s : State} (h : c.wf = true) : exec (.queueAdd c) s = .next (s.changeOp c 7 1) :=
  packet_wf (f := fun s => s.changeOp c 7 1) h
theorem exec_queueSet {c : Cmd} {s : State} (h : c.wf = true) : exec (.queueSet c) s = .next (s.changeOp c 7 2) :=
  packet_wf (f := fun s => s.changeOp c 7 2) h
theorem exec_queueDel {c : Cmd} {s : State} (h : c.wf = true) : exec (.queueDel c) s = .next (s.changeOp c 7 3) :=
  packet_wf (f := fun s => s.changeOp c 7 3) h
theorem exec_queueGet {c : Cmd} {s : State} (h : c.wf = true) : exec (.queueGet c) s = .next (s.queueGet c) :=
  packet_wf (f := fun s => s.queueGet c) h
theorem exec_queueStatus {c : Cmd} {s : State} (h : c.wf = true) : exec (.queueStatus c) s = .next (s.queueStatus c) :=
  packet_wf (f := fun s => s.queueStatus c) h
theorem exec_hdrSet {c : Cmd} {s : State} (h : c.wf = true) : exec (.hdrSet c) s = .next (s.hdrSet c) :=
  packet_wf (f := fun s => s.hdrSet c) h
theorem exec_hdrGet {c : Cmd} {s : State} (h : c.wf = true) : exec (.hdrGet c) s = .next (s.hdrGet c) :=
  packet_wf (f := fun s => s.hdrGet c) h
theorem exec_psnSet {c : Cmd} {s : State} (h : c.wf = true) : exec (.psnSet c) s = .next (s.psnSet c) :=
  packet_wf (f := fun s => s.psnSet c) h
theorem exec_psnGet {c : Cmd} {s : State} (h : c.wf = true) : exec (.psnGet c) s = .next (s.psnGet c) :=
  packet_wf (f := fun s => s.psnGet c) h
theorem exec_fwdSet {c : Cmd} {s : State} (h : c.wf = true) : exec (.fwdSet c) s = .next (s.fwdSet c) :=
  packet_wf (f := fun s => s.fwdSet c) h
theorem exec_fwdGet {c : Cmd} {s : State} (h : c.wf = true) : exec (.fwdGet c) s = .next (s.fwdGet c) :=
  packet_wf (f := fun s => s.fwdGet c) h
theorem exec_pieStatus {c : Cmd} {s : State} (h : c.wf = true) : exec (.pieStatus c) s = .next (s.pieStatus c) :=
  packet_wf (f := fun s => s.pieStatus c) h
theorem exec_timSysSet {c : Cmd} {s : State} (h : c.wf = true) : exec (.timSysSet c) s = .next (s.timSysSet c) :=
  packet_wf (f := fun s => s.timSysSet c) h
theorem exec_timSysGet {c : Cmd} {s : State} (h : c.wf = true) : exec (.timSysGet c) s = .next (s.timSysGet c) :=
  packet_wf (f := fun s => s.timSysGet c) h
theorem exec_timInSet {c : Cmd} {s : State} (h : c.wf = true) : exec (.timInSet c) s = .next (s.timInSet c) :=
  packet_wf (f := fun s => s.timInSet c) h
theorem exec_timInGet {c : Cmd} {s : State} (h : c.wf = true) : exec (.timInGet c) s = .next (s.timInGet c) :=
  packet_wf (f := fun s => s.timInGet c) h
theorem exec_timInStatus {c : Cmd} {s : State} (h : c.wf = true) : exec (.timInStatus c) s = .next (s.timInStatus c) :=
  packet_wf (f := fun s => s.timInStatus c) h
theorem exec_timStatus {c : Cmd} {s : State} (h : c.wf = true) : exec (.timStatus c) s = .next (s.timStatus c) :=
  packet_wf (f := fun s => s.timStatus c) h
theorem exec_timHoldover {c : Cmd} {s : State} (h : c.wf = true) : exec (.timHoldover c) s = .next (s.timHoldover c) :=
  packet_wf (f := fun s => s.timHoldover c) h
theorem exec_timModelSet {c : Cmd} {s : State} (h : c.wf = true) : exec (.timModelSet c) s = .next (s.timModelSet c) :=
  packet_wf (f := fun s => s.timModelSet c) h
theorem exec_timModelGet {c : Cmd} {s : State} (h : c.wf = true) : exec (.timModelGet c) s = .next (s.timModelGet c) :=
  packet_wf (f := fun s => s.timModelGet c) h
theorem exec_timModelLearn {c : Cmd} {s : State} (h : c.wf = true) : exec (.timModelLearn c) s = .next (s.timModelLearn c) :=
  packet_wf (f := fun s => s.timModelLearn c) h
theorem exec_timOutSet {c : Cmd} {s : State} (h : c.wf = true) : exec (.timOutSet c) s = .next (s.timOutSet c) :=
  packet_wf (f := fun s => s.timOutSet c) h
theorem exec_timOutGet {c : Cmd} {s : State} (h : c.wf = true) : exec (.timOutGet c) s = .next (s.timOutGet c) :=
  packet_wf (f := fun s => s.timOutGet c) h
theorem exec_timMonSet {c : Cmd} {s : State} (h : c.wf = true) : exec (.timMonSet c) s = .next (s.timMonSet c) :=
  packet_wf (f := fun s => s.timMonSet c) h
theorem exec_todSet {c : Cmd} {s : State} (h : c.wf = true) : exec (.todSet c) s = .next (s.todSet c) :=
  packet_wf (f := fun s => s.todSet c) h
theorem exec_ptpSet {c : Cmd} {s : State} (h : c.wf = true) : exec (.ptpSet c) s = .next (s.ptpSet c) :=
  packet_wf (f := fun s => s.ptpSet c) h
theorem exec_ptpPortSet {c : Cmd} {s : State} (h : c.wf = true) : exec (.ptpPortSet c) s = .next (s.ptpPortSet c) :=
  packet_wf (f := fun s => s.ptpPortSet c) h
theorem exec_ptpStatus {c : Cmd} {s : State} (h : c.wf = true) : exec (.ptpStatus c) s = .next (s.ptpStatus c) :=
  packet_wf (f := fun s => s.ptpStatus c) h
theorem exec_timThermSet {c : Cmd} {s : State} (h : c.wf = true) : exec (.timThermSet c) s = .next (s.timThermSet c) :=
  packet_wf (f := fun s => s.timThermSet c) h
theorem exec_devInfo {c : Cmd} {s : State} (h : c.wf = true) : exec (.devInfo c) s = .next (s.devInfo c) :=
  packet_wf (f := fun s => s.devInfo c) h
theorem exec_seqSync {c : Cmd} {s : State} (h : c.wf = true) : exec (.seqSync c) s = .next (s.seqSync c) :=
  packet_wf (f := fun s => s.seqSync c) h
theorem exec_echo {c : Cmd} {s : State} (h : c.wf = true) : exec (.echo c) s = .next (s.echo c) :=
  packet_wf (f := fun s => s.echo c) h
theorem exec_fnGet {c : Cmd} {s : State} (h : c.wf = true) : exec (.fnGet c) s = .next (s.fnGet c) :=
  packet_wf (f := fun s => s.fnGet c) h
theorem exec_cmdPortSet {c : Cmd} {s : State} (h : c.wf = true) : exec (.cmdPortSet c) s = .next (s.cmdPortSet c) :=
  packet_wf (f := fun s => s.cmdPortSet c) h
theorem exec_cmdPortStatus {c : Cmd} {s : State} (h : c.wf = true) : exec (.cmdPortStatus c) s = .next (s.cmdPortStatus c) :=
  packet_wf (f := fun s => s.cmdPortStatus c) h
theorem exec_tenantSet {c : Cmd} {s : State} (h : c.wf = true) : exec (.tenantSet c) s = .next (s.tenantSet c) :=
  packet_wf (f := fun s => s.tenantSet c) h
theorem exec_tenantGet {c : Cmd} {s : State} (h : c.wf = true) : exec (.tenantGet c) s = .next (s.tenantGet c) :=
  packet_wf (f := fun s => s.tenantGet c) h
theorem exec_tenantDel {c : Cmd} {s : State} (h : c.wf = true) : exec (.tenantDel c) s = .next (s.tenantDel c) :=
  packet_wf (f := fun s => s.tenantDel c) h
theorem exec_tenantList {c : Cmd} {s : State} (h : c.wf = true) : exec (.tenantList c) s = .next (s.tenantList c) :=
  packet_wf (f := fun s => s.tenantList c) h
theorem exec_keyLoad {c : Cmd} {s : State} (h : c.wf = true) : exec (.keyLoad c) s = .next (s.keyLoad c) :=
  packet_wf (f := fun s => s.keyLoad c) h
theorem exec_keyRetire {c : Cmd} {s : State} (h : c.wf = true) : exec (.keyRetire c) s = .next (s.keyRetire c) :=
  packet_wf (f := fun s => s.keyRetire c) h
theorem exec_authLogGet {c : Cmd} {s : State} (h : c.wf = true) : exec (.authLogGet c) s = .next (s.authLogGet c) :=
  packet_wf (f := fun s => s.authLogGet c) h
theorem exec_counterSet {c : Cmd} {s : State} (h : c.wf = true) : exec (.counterSet c) s = .next (s.counterSet c) :=
  packet_wf (f := fun s => s.counterSet c) h
theorem exec_counterGet {c : Cmd} {s : State} (h : c.wf = true) : exec (.counterGet c) s = .next (s.counterGet c) :=
  packet_wf (f := fun s => s.counterGet c) h
theorem exec_counterRead {c : Cmd} {s : State} (h : c.wf = true) : exec (.counterRead c) s = .next (s.counterRead c) :=
  packet_wf (f := fun s => s.counterRead c) h
theorem exec_counterClear {c : Cmd} {s : State} (h : c.wf = true) : exec (.counterClear c) s = .next (s.counterClear c) :=
  packet_wf (f := fun s => s.counterClear c) h
theorem exec_snapshot {c : Cmd} {s : State} (h : c.wf = true) : exec (.snapshot c) s = .next (s.snapshotCmd c) :=
  packet_wf (f := fun s => s.snapshotCmd c) h
theorem exec_counterDump {c : Cmd} {s : State} (h : c.wf = true) : exec (.counterDump c) s = .next (s.counterDump c) :=
  packet_wf (f := fun s => s.counterDump c) h
theorem exec_filterSet {c : Cmd} {s : State} (h : c.wf = true) : exec (.filterSet c) s = .next (s.filterSet c) :=
  packet_wf (f := fun s => s.filterSet c) h
theorem exec_filterGet {c : Cmd} {s : State} (h : c.wf = true) : exec (.filterGet c) s = .next (s.filterGet c) :=
  packet_wf (f := fun s => s.filterGet c) h
theorem exec_userSlotSet {c : Cmd} {s : State} (h : c.wf = true) : exec (.userSlotSet c) s = .next (s.userSlotSet c) :=
  packet_wf (f := fun s => s.userSlotSet c) h
theorem exec_wordTraceSet {c : Cmd} {s : State} (h : c.wf = true) : exec (.wordTraceSet c) s = .next (s.wordTraceSet c) :=
  packet_wf (f := fun s => s.wordTraceSet c) h
theorem exec_traceRead {c : Cmd} {s : State} (h : c.wf = true) : exec (.traceRead c) s = .next (s.traceRead c) :=
  packet_wf (f := fun s => s.traceRead c) h
theorem exec_traceClear {c : Cmd} {s : State} (h : c.wf = true) : exec (.traceClear c) s = .next (s.traceClear c) :=
  packet_wf (f := fun s => s.traceClear c) h
theorem exec_eventRead {c : Cmd} {s : State} (h : c.wf = true) : exec (.eventRead c) s = .next (s.eventRead c) :=
  packet_wf (f := fun s => s.eventRead c) h
theorem exec_eventLogStatus {c : Cmd} {s : State} (h : c.wf = true) : exec (.eventLogStatus c) s = .next (s.eventLogStatus c) :=
  packet_wf (f := fun s => s.eventLogStatus c) h
theorem exec_evicRegRead {c : Cmd} {s : State} (h : c.wf = true) : exec (.evicRegRead c) s = .next (s.evicRegRead c) :=
  packet_wf (f := fun s => s.evicRegRead c) h
theorem exec_evicRegWrite {c : Cmd} {s : State} (h : c.wf = true) : exec (.evicRegWrite c) s = .next (s.evicRegWrite c) :=
  packet_wf (f := fun s => s.evicRegWrite c) h
theorem exec_memStatus {c : Cmd} {s : State} (h : c.wf = true) : exec (.memStatus c) s = .next (s.memStatus c) :=
  packet_wf (f := fun s => s.memStatus c) h
theorem exec_memErrLog {c : Cmd} {s : State} (h : c.wf = true) : exec (.memErrLog c) s = .next (s.memErrLog c) :=
  packet_wf (f := fun s => s.memErrLog c) h
theorem exec_journalStatus {c : Cmd} {s : State} (h : c.wf = true) : exec (.journalStatus c) s = .next (s.journalStatus c) :=
  packet_wf (f := fun s => s.journalStatus c) h
theorem exec_journalCompact {c : Cmd} {s : State} (h : c.wf = true) : exec (.journalCompact c) s = .next (s.journalCompact c) :=
  packet_wf (f := fun s => s.journalCompact c) h
theorem exec_journalRead {c : Cmd} {s : State} (h : c.wf = true) : exec (.journalRead c) s = .next (s.journalRead c) :=
  packet_wf (f := fun s => s.journalRead c) h
theorem exec_ckptNow {c : Cmd} {s : State} (h : c.wf = true) : exec (.ckptNow c) s = .next (s.ckptNow c) :=
  packet_wf (f := fun s => s.ckptNow c) h
theorem exec_memInject {c : Cmd} {s : State} (h : c.wf = true) : exec (.memInject c) s = .next (s.memInject c) :=
  packet_wf (f := fun s => s.memInject c) h
theorem exec_pairSet {c : Cmd} {s : State} (h : c.wf = true) : exec (.pairSet c) s = .next (s.pairSet c) :=
  packet_wf (f := fun s => s.pairSet c) h
theorem exec_pairGet {c : Cmd} {s : State} (h : c.wf = true) : exec (.pairGet c) s = .next (s.pairGet c) :=
  packet_wf (f := fun s => s.pairGet c) h
theorem exec_pairStatus {c : Cmd} {s : State} (h : c.wf = true) : exec (.pairStatus c) s = .next (s.pairStatus c) :=
  packet_wf (f := fun s => s.pairStatus c) h
theorem exec_pairSwitch {c : Cmd} {s : State} (h : c.wf = true) : exec (.pairSwitch c) s = .next (s.pairSwitch c) :=
  packet_wf (f := fun s => s.pairSwitch c) h
theorem exec_pairHold {c : Cmd} {s : State} (h : c.wf = true) : exec (.pairHold c) s = .next (s.pairHold c) :=
  packet_wf (f := fun s => s.pairHold c) h
theorem exec_pairResync {c : Cmd} {s : State} (h : c.wf = true) : exec (.pairResync c) s = .next (s.pairResync c) :=
  packet_wf (f := fun s => s.pairResync c) h
theorem exec_pairForce {c : Cmd} {s : State} (h : c.wf = true) : exec (.pairForce c) s = .next (s.pairForce c) :=
  packet_wf (f := fun s => s.pairForce c) h
theorem exec_pwrState {c : Cmd} {s : State} (h : c.wf = true) : exec (.pwrState c) s = .next (s.pwrState c) :=
  packet_wf (f := fun s => s.pwrState c) h
theorem exec_pwrSet {c : Cmd} {s : State} (h : c.wf = true) : exec (.pwrSet c) s = .next (s.pwrSet c) :=
  packet_wf (f := fun s => s.pwrSet c) h
theorem exec_pwrGet {c : Cmd} {s : State} (h : c.wf = true) : exec (.pwrGet c) s = .next (s.pwrGet c) :=
  packet_wf (f := fun s => s.pwrGet c) h
theorem exec_wakeSet {c : Cmd} {s : State} (h : c.wf = true) : exec (.wakeSet c) s = .next (s.wakeSet c) :=
  packet_wf (f := fun s => s.wakeSet c) h
theorem exec_wakeGet {c : Cmd} {s : State} (h : c.wf = true) : exec (.wakeGet c) s = .next (s.wakeGet c) :=
  packet_wf (f := fun s => s.wakeGet c) h
theorem exec_pwrStatus {c : Cmd} {s : State} (h : c.wf = true) : exec (.pwrStatus c) s = .next (s.pwrStatus c) :=
  packet_wf (f := fun s => s.pwrStatus c) h
theorem exec_wakeLog {c : Cmd} {s : State} (h : c.wf = true) : exec (.wakeLog c) s = .next (s.wakeLogGet c) :=
  packet_wf (f := fun s => s.wakeLogGet c) h
theorem exec_sleepGapGet {c : Cmd} {s : State} (h : c.wf = true) : exec (.sleepGapGet c) s = .next (s.sleepGapGet c) :=
  packet_wf (f := fun s => s.sleepGapGet c) h
theorem exec_voscCtrl {c : Cmd} {s : State} (h : c.wf = true) : exec (.voscCtrl c) s = .next (s.voscCtrl c) :=
  packet_wf (f := fun s => s.voscCtrl c) h
theorem exec_firkinCheck {c : Cmd} {s : State} (h : c.wf = true) : exec (.firkinCheck c) s = .next (s.firkinCheck c) :=
  packet_wf (f := fun s => s.firkinCheck c) h
theorem exec_wakeSend {c : Cmd} {s : State} (h : c.wf = true) : exec (.wakeSend c) s = .next (s.wakeSend c) :=
  packet_wf (f := fun s => s.wakeSend c) h
theorem exec_sysReset {c : Cmd} {s : State} (h : c.wf = true) : exec (.sysReset c) s = .next (s.sysReset c) :=
  packet_wf (f := fun s => s.sysReset c) h
theorem exec_resetLog {c : Cmd} {s : State} (h : c.wf = true) : exec (.resetLog c) s = .next (s.resetLog c) :=
  packet_wf (f := fun s => s.resetLog c) h
theorem exec_wdtSet {c : Cmd} {s : State} (h : c.wf = true) : exec (.wdtSet c) s = .next (s.wdtSet c) :=
  packet_wf (f := fun s => s.wdtSet c) h
theorem exec_tamperSet {c : Cmd} {s : State} (h : c.wf = true) : exec (.tamperSet c) s = .next (s.tamperSet c) :=
  packet_wf (f := fun s => s.tamperSet c) h
theorem exec_tamperGet {c : Cmd} {s : State} (h : c.wf = true) : exec (.tamperGet c) s = .next (s.tamperGet c) :=
  packet_wf (f := fun s => s.tamperGet c) h
theorem exec_tamperClear {c : Cmd} {s : State} (h : c.wf = true) : exec (.tamperClear c) s = .next (s.tamperClear c) :=
  packet_wf (f := fun s => s.tamperClear c) h
theorem exec_tamperLog {c : Cmd} {s : State} (h : c.wf = true) : exec (.tamperLog c) s = .next (s.tamperLogGet c) :=
  packet_wf (f := fun s => s.tamperLogGet c) h
theorem exec_returnCapture {c : Cmd} {s : State} (h : c.wf = true) : exec (.returnCapture c) s = .next (s.returnCapture c) :=
  packet_wf (f := fun s => s.returnCapture c) h
theorem exec_captureStatus {c : Cmd} {s : State} (h : c.wf = true) : exec (.captureStatus c) s = .next (s.captureStatus c) :=
  packet_wf (f := fun s => s.captureStatus c) h
theorem exec_recSet {c : Cmd} {s : State} (h : c.wf = true) : exec (.recSet c) s = .next (s.recSet c) :=
  packet_wf (f := fun s => s.recSet c) h
theorem exec_fwStage {c : Cmd} {s : State} {image : List Byte} (h : c.wf = true) : exec (.fwStage c image) s = .next (s.fwStage c image) :=
  packet_wf (f := fun s => s.fwStage c image) h

end Sys2Proof.Machine
end

