-- ==== Sys2Proof/Laws/PerInstr.lean ====
section
/-!
SUPPORT. The family Operands, one lemma per command: a command is well formed exactly when the packet it carries is (R376).
-/
namespace Sys2Proof.Laws.Operands

open Sys2Proof.Machine

/-- What is said of each command: its well-formedness is that of its packet, and of nothing else. -/
def Statement (i : Instr) : Prop := i.wf = (match i.packet with | some c => c.wf | none => true)

theorem registerWrite (w : BusWrite) : Statement (.registerWrite w) := rfl
theorem frameTick (t : TickIn) : Statement (.frameTick t) := rfl
theorem flipCheck : Statement (.flipCheck) := rfl
theorem loadBegin : Statement (.loadBegin) := rfl
theorem loadDone : Statement (.loadDone) := rfl
theorem copyForwardDone : Statement (.copyForwardDone) := rfl
theorem frameStep (cause : BitVec 4) (loadFn : Option (BitVec 48)) (phaseError : Nat) (short : Bool) : Statement (.frameStep cause loadFn phaseError short) := rfl
theorem stepArm (w : RegW) : Statement (.stepArm w) := rfl
theorem slewEn (w : RegW) : Statement (.slewEn w) := rfl
theorem stepArmLapse : Statement (.stepArmLapse) := rfl
theorem fnLoRead (master : BitVec 3) : Statement (.fnLoRead master) := rfl
theorem lastFlipLoRead (master : BitVec 3) : Statement (.lastFlipLoRead master) := rfl
theorem tickStatusRead (master : BitVec 3) : Statement (.tickStatusRead master) := rfl
theorem laneSet (c : Cmd) : Statement (.laneSet c) := rfl
theorem laneGet (c : Cmd) : Statement (.laneGet c) := rfl
theorem laneStatus (c : Cmd) : Statement (.laneStatus c) := rfl
theorem laneLoop (c : Cmd) : Statement (.laneLoop c) := rfl
theorem lanePrbs (c : Cmd) : Statement (.lanePrbs c) := rfl
theorem mateSet (c : Cmd) : Statement (.mateSet c) := rfl
theorem mateStatus (c : Cmd) : Statement (.mateStatus c) := rfl
theorem tribSet (c : Cmd) : Statement (.tribSet c) := rfl
theorem tribGet (c : Cmd) : Statement (.tribGet c) := rfl
theorem tribStatus (c : Cmd) : Statement (.tribStatus c) := rfl
theorem tribLoop (c : Cmd) : Statement (.tribLoop c) := rfl
theorem laneConfigDone (lane : Fin 40) : Statement (.laneConfigDone lane) := rfl
theorem signalLevelChange (lane : Fin 40) (millivolts : Nat) : Statement (.signalLevelChange lane millivolts) := rfl
theorem transitionDetectChange (lane : Fin 40) (noTrans : Bool) : Statement (.transitionDetectChange lane noTrans) := rfl
theorem cdrLockChange (lane : Fin 40) (inWindow : Bool) : Statement (.cdrLockChange lane inWindow) := rfl
theorem laneActivity (lane : Fin 40) (windows : List Nat) : Statement (.laneActivity lane windows) := rfl
theorem ethLinkDown (lane : Fin 40) (p : PcsCond) : Statement (.ethLinkDown lane p) := rfl
theorem ethLinkUp (lane : Fin 40) (p : PcsCond) : Statement (.ethLinkUp lane p) := rfl
theorem lanePrbsLock (lane : Fin 40) (lock : Bool) (errors : Nat) : Statement (.lanePrbsLock lane lock errors) := rfl
theorem mateLaneChange (lane : Fin 4) (m : MateLane) : Statement (.mateLaneChange lane m) := rfl
theorem tribClkLoss (port : Fin 64) : Statement (.tribClkLoss port) := rfl
theorem tribClkRestore (port : Fin 64) : Statement (.tribClkRestore port) := rfl
theorem tribTxSlip (port : Fin 64) (fill : Nat) : Statement (.tribTxSlip port fill) := rfl
theorem tribAlignChange (port : Fin 64) : Statement (.tribAlignChange port) := rfl
theorem alignerSlip (port : Fin 64) (phase : BitVec 8) : Statement (.alignerSlip port phase) := rfl
theorem sdhFrameReceive (f : SdhRx) : Statement (.sdhFrameReceive f) := rfl
theorem apsInconsistency (lane : Fin 40) : Statement (.apsInconsistency lane) := rfl
theorem losDeclare (lane : Fin 40) : Statement (.losDeclare lane) := rfl
theorem losClear (lane : Fin 40) : Statement (.losClear lane) := rfl
theorem tuMultiframeReceive (t : TuRx) : Statement (.tuMultiframeReceive t) := rfl
theorem bipWindowEnd (path : Option (BitVec 32)) (lane : Fin 40) (deg : Bool) : Statement (.bipWindowEnd path lane deg) := rfl
theorem sdhFrameTransmit (t : SdhTx) : Statement (.sdhFrameTransmit t) := rfl
theorem sdhOhSet (c : Cmd) : Statement (.sdhOhSet c) := rfl
theorem sdhOhGet (c : Cmd) : Statement (.sdhOhGet c) := rfl
theorem sdhStatus (c : Cmd) : Statement (.sdhStatus c) := rfl
theorem sdhCapture (c : Cmd) : Statement (.sdhCapture c) := rfl
theorem pathOhSet (c : Cmd) : Statement (.pathOhSet c) := rfl
theorem pathStatus (c : Cmd) : Statement (.pathStatus c) := rfl
theorem pathCapture (c : Cmd) : Statement (.pathCapture c) := rfl
theorem traceSet (c : Cmd) : Statement (.traceSet c) := rfl
theorem traceGet (c : Cmd) : Statement (.traceGet c) := rfl
theorem sdhThreshGet (c : Cmd) : Statement (.sdhThreshGet c) := rfl
theorem e1FrameReceive (f : E1Rx) : Statement (.e1FrameReceive f) := rfl
theorem crc4SearchTimeout (eid : BitVec 32) : Statement (.crc4SearchTimeout eid) := rfl
theorem crc4Fallback (eid : BitVec 32) : Statement (.crc4Fallback eid) := rfl
theorem e1ExclusionEnd (eid : BitVec 32) : Statement (.e1ExclusionEnd eid) := rfl
theorem e1CrcBlockEnd (eid : BitVec 32) : Statement (.e1CrcBlockEnd eid) := rfl
theorem e1WindowEnd (eid : BitVec 32) (deg : Bool) : Statement (.e1WindowEnd eid deg) := rfl
theorem c37FrameReceive (f : C37Rx) : Statement (.c37FrameReceive f) := rfl
theorem gfpFrameReceive (f : GfpRx) : Statement (.gfpFrameReceive f) := rfl
theorem gfpLfd (chan : Fin 4096) : Statement (.gfpLfd chan) := rfl
theorem gfpCsfTimeout (chan : Fin 4096) : Statement (.gfpCsfTimeout chan) := rfl
theorem gfpFrameTransmit (chan : Fin 4096) : Statement (.gfpFrameTransmit chan) := rfl
theorem vcatControlPacket (p : VcatRx) : Statement (.vcatControlPacket p) := rfl
theorem lcasRemoveTimeout (group : Fin 4096) : Statement (.lcasRemoveTimeout group) := rfl
theorem lcasHoldoffExpiry (group : Fin 4096) (eid : BitVec 32) : Statement (.lcasHoldoffExpiry group eid) := rfl
theorem lcasWtrExpiry (group : Fin 4096) (eid : BitVec 32) : Statement (.lcasWtrExpiry group eid) := rfl
theorem e1Set (c : Cmd) : Statement (.e1Set c) := rfl
theorem e1Get (c : Cmd) : Statement (.e1Get c) := rfl
theorem e1Status (c : Cmd) : Statement (.e1Status c) := rfl
theorem e1FramerBind (c : Cmd) : Statement (.e1FramerBind c) := rfl
theorem c37Status (c : Cmd) : Statement (.c37Status c) := rfl
theorem gfpSet (c : Cmd) : Statement (.gfpSet c) := rfl
theorem gfpGet (c : Cmd) : Statement (.gfpGet c) := rfl
theorem gfpBind (c : Cmd) : Statement (.gfpBind c) := rfl
theorem gfpStatus (c : Cmd) : Statement (.gfpStatus c) := rfl
theorem vcatSet (c : Cmd) : Statement (.vcatSet c) := rfl
theorem vcatGet (c : Cmd) : Statement (.vcatGet c) := rfl
theorem vcatMemberAdd (c : Cmd) : Statement (.vcatMemberAdd c) := rfl
theorem vcatMemberRemove (c : Cmd) : Statement (.vcatMemberRemove c) := rfl
theorem vcatStatus (c : Cmd) : Statement (.vcatStatus c) := rfl
theorem testAnalyserLock (inst : Fin 64) (lock : Bool) (errors : Nat) : Statement (.testAnalyserLock inst lock errors) := rfl
theorem connAdd (c : Cmd) : Statement (.connAdd c) := rfl
theorem connSet (c : Cmd) : Statement (.connSet c) := rfl
theorem connDel (c : Cmd) : Statement (.connDel c) := rfl
theorem connGet (c : Cmd) : Statement (.connGet c) := rfl
theorem connFind (c : Cmd) : Statement (.connFind c) := rfl
theorem connLatency (c : Cmd) : Statement (.connLatency c) := rfl
theorem structSet (c : Cmd) : Statement (.structSet c) := rfl
theorem structGet (c : Cmd) : Statement (.structGet c) := rfl
theorem tugSet (c : Cmd) : Statement (.tugSet c) := rfl
theorem tugGet (c : Cmd) : Statement (.tugGet c) := rfl
theorem mapRead (c : Cmd) : Statement (.mapRead c) := rfl
theorem bushelOpen (c : Cmd) : Statement (.bushelOpen c) := rfl
theorem bushelCommit (c : Cmd) : Statement (.bushelCommit c) := rfl
theorem bushelCancel (c : Cmd) : Statement (.bushelCancel c) := rfl
theorem bushelStatus (c : Cmd) : Statement (.bushelStatus c) := rfl
theorem bushelFetch (c : Cmd) (list : List Byte) : Statement (.bushelFetch c list) := rfl
theorem shed (c : Cmd) : Statement (.shed c) := rfl
theorem usageGet (c : Cmd) : Statement (.usageGet c) := rfl
theorem bushelList (c : Cmd) : Statement (.bushelList c) := rfl
theorem bushelAbandoned : Statement (.bushelAbandoned) := rfl
theorem pgAdd (c : Cmd) : Statement (.pgAdd c) := rfl
theorem pgSet (c : Cmd) : Statement (.pgSet c) := rfl
theorem pgDel (c : Cmd) : Statement (.pgDel c) := rfl
theorem pgGet (c : Cmd) : Statement (.pgGet c) := rfl
theorem pgCmd (c : Cmd) : Statement (.pgCmd c) := rfl
theorem pgStatus (c : Cmd) : Statement (.pgStatus c) := rfl
theorem lpSet (c : Cmd) : Statement (.lpSet c) := rfl
theorem lpDel (c : Cmd) : Statement (.lpDel c) := rfl
theorem lpGet (c : Cmd) : Statement (.lpGet c) := rfl
theorem lpCmd (c : Cmd) : Statement (.lpCmd c) := rfl
theorem lpStatus (c : Cmd) : Statement (.lpStatus c) := rfl
theorem pgScan (c : Cmd) : Statement (.pgScan c) := rfl
theorem holdoffExpiry (group : Bool) (n : Nat) (crit : Fin 4) : Statement (.holdoffExpiry group n crit) := rfl
theorem wtrExpiry (group : Bool) (n : Nat) : Statement (.wtrExpiry group n) := rfl
theorem apsService (pair : Fin 20) : Statement (.apsService pair) := rfl
theorem apsFop (pair : Fin 20) : Statement (.apsFop pair) := rfl
theorem protFwStall : Statement (.protFwStall) := rfl
theorem mergedSelection (x : BlockIn) : Statement (.mergedSelection x) := rfl
theorem signatureSpan (x : SigRx) : Statement (.signatureSpan x) := rfl
theorem markMessageReceive (m : MarkRx) : Statement (.markMessageReceive m) := rfl
theorem verifyTimeout (pg : Fin 16384) : Statement (.verifyTimeout pg) := rfl
theorem alignStuck (pg : Fin 16384) : Statement (.alignStuck pg) := rfl
theorem alignSet (c : Cmd) : Statement (.alignSet c) := rfl
theorem alignGet (c : Cmd) : Statement (.alignGet c) := rfl
theorem alignStatus (c : Cmd) : Statement (.alignStatus c) := rfl
theorem alignRestart (c : Cmd) : Statement (.alignRestart c) := rfl
theorem symSet (c : Cmd) : Statement (.symSet c) := rfl
theorem symGet (c : Cmd) : Statement (.symGet c) := rfl
theorem symStatus (c : Cmd) : Statement (.symStatus c) := rfl
theorem markSet (c : Cmd) : Statement (.markSet c) := rfl
theorem markCapture (c : Cmd) : Statement (.markCapture c) := rfl
theorem vcatAlignSet (c : Cmd) : Statement (.vcatAlignSet c) := rfl
theorem fathomMap (c : Cmd) : Statement (.fathomMap c) := rfl
theorem ethernetFrameReceive (f : EthRx) : Statement (.ethernetFrameReceive f) := rfl
theorem jitterBufferPlayout (q : BitVec 16) : Statement (.jitterBufferPlayout q) := rfl
theorem pwWindowEnd (q : BitVec 16) : Statement (.pwWindowEnd q) := rfl
theorem pwPacketSend (q : BitVec 16) : Statement (.pwPacketSend q) := rfl
theorem ethernetFrameTransmit (lane : Fin 40) (credit : List Nat) : Statement (.ethernetFrameTransmit lane credit) := rfl
theorem queueAdd (c : Cmd) : Statement (.queueAdd c) := rfl
theorem queueSet (c : Cmd) : Statement (.queueSet c) := rfl
theorem queueDel (c : Cmd) : Statement (.queueDel c) := rfl
theorem queueGet (c : Cmd) : Statement (.queueGet c) := rfl
theorem queueStatus (c : Cmd) : Statement (.queueStatus c) := rfl
theorem hdrSet (c : Cmd) : Statement (.hdrSet c) := rfl
theorem hdrGet (c : Cmd) : Statement (.hdrGet c) := rfl
theorem psnSet (c : Cmd) : Statement (.psnSet c) := rfl
theorem psnGet (c : Cmd) : Statement (.psnGet c) := rfl
theorem fwdSet (c : Cmd) : Statement (.fwdSet c) := rfl
theorem fwdGet (c : Cmd) : Statement (.fwdGet c) := rfl
theorem pieStatus (c : Cmd) : Statement (.pieStatus c) := rfl
theorem candidateFault (cand : Fin 113) (noEdge : Bool) : Statement (.candidateFault cand noEdge) := rfl
theorem frequencyGate (cand : Fin 113) (offset : Int) : Statement (.frequencyGate cand offset) := rfl
theorem qualificationExpiry (cand : Fin 113) : Statement (.qualificationExpiry cand) := rfl
theorem hitExpiry (cand : Fin 113) : Statement (.hitExpiry cand) := rfl
theorem selectorEvaluation (steer : Int) (temp : Int) : Statement (.selectorEvaluation steer temp) := rfl
theorem dpllLock : Statement (.dpllLock) := rfl
theorem holdoverQlTimer : Statement (.holdoverQlTimer) := rfl
theorem modelRecord : Statement (.modelRecord) := rfl
theorem modelFit : Statement (.modelFit) := rfl
theorem oscAgeJournal : Statement (.oscAgeJournal) := rfl
theorem ppsPulse (p : PpsRx) : Statement (.ppsPulse p) := rfl
theorem todMessage (t : TodRx) : Statement (.todMessage t) := rfl
theorem ptpMessageSend (port : Fin 16) (kind : Fin 3) (cycle : BitVec 17) : Statement (.ptpMessageSend port kind cycle) := rfl
theorem announceTimeout (port : Fin 16) : Statement (.announceTimeout port) := rfl
theorem ptpServoLock : Statement (.ptpServoLock) := rfl
theorem ptpOffsetTimeout : Statement (.ptpOffsetTimeout) := rfl
theorem timSysSet (c : Cmd) : Statement (.timSysSet c) := rfl
theorem timSysGet (c : Cmd) : Statement (.timSysGet c) := rfl
theorem timInSet (c : Cmd) : Statement (.timInSet c) := rfl
theorem timInGet (c : Cmd) : Statement (.timInGet c) := rfl
theorem timInStatus (c : Cmd) : Statement (.timInStatus c) := rfl
theorem timStatus (c : Cmd) : Statement (.timStatus c) := rfl
theorem timHoldover (c : Cmd) : Statement (.timHoldover c) := rfl
theorem timModelSet (c : Cmd) : Statement (.timModelSet c) := rfl
theorem timModelGet (c : Cmd) : Statement (.timModelGet c) := rfl
theorem timModelLearn (c : Cmd) : Statement (.timModelLearn c) := rfl
theorem timOutSet (c : Cmd) : Statement (.timOutSet c) := rfl
theorem timOutGet (c : Cmd) : Statement (.timOutGet c) := rfl
theorem timMonSet (c : Cmd) : Statement (.timMonSet c) := rfl
theorem todSet (c : Cmd) : Statement (.todSet c) := rfl
theorem ptpSet (c : Cmd) : Statement (.ptpSet c) := rfl
theorem ptpPortSet (c : Cmd) : Statement (.ptpPortSet c) := rfl
theorem ptpStatus (c : Cmd) : Statement (.ptpStatus c) := rfl
theorem timThermSet (c : Cmd) : Statement (.timThermSet c) := rfl
theorem devInfo (c : Cmd) : Statement (.devInfo c) := rfl
theorem seqSync (c : Cmd) : Statement (.seqSync c) := rfl
theorem echo (c : Cmd) : Statement (.echo c) := rfl
theorem fnGet (c : Cmd) : Statement (.fnGet c) := rfl
theorem cmdPortSet (c : Cmd) : Statement (.cmdPortSet c) := rfl
theorem cmdPortStatus (c : Cmd) : Statement (.cmdPortStatus c) := rfl
theorem tenantSet (c : Cmd) : Statement (.tenantSet c) := rfl
theorem tenantGet (c : Cmd) : Statement (.tenantGet c) := rfl
theorem tenantDel (c : Cmd) : Statement (.tenantDel c) := rfl
theorem tenantList (c : Cmd) : Statement (.tenantList c) := rfl
theorem keyLoad (c : Cmd) : Statement (.keyLoad c) := rfl
theorem keyRetire (c : Cmd) : Statement (.keyRetire c) := rfl
theorem authLogGet (c : Cmd) : Statement (.authLogGet c) := rfl
theorem portQuietEnd (port : Fin 4) : Statement (.portQuietEnd port) := rfl
theorem barrierRelease (port : Fin 4) (fetched : List Byte) : Statement (.barrierRelease port fetched) := rfl
theorem deferredReply (port : Fin 4) (seq : BitVec 32) : Statement (.deferredReply port seq) := rfl
theorem hostPortReset (portB : Bool) (flr : Bool) : Statement (.hostPortReset portB flr) := rfl
theorem mgmtFrameReceive (f : MgmtRx) : Statement (.mgmtFrameReceive f) := rfl
theorem craftWrite (n : BitVec 16) (data fetched : List Byte) : Statement (.craftWrite n data fetched) := rfl
theorem craftStatus : Statement (.craftStatus) := rfl
theorem craftRead (clocked : Nat) : Statement (.craftRead clocked) := rfl
theorem opticalFrameReceive (chars : List Byte) (gap : Bool) (fetched : List Byte) : Statement (.opticalFrameReceive chars gap fetched) := rfl
theorem opticalLineFault (noise : Bool) : Statement (.opticalLineFault noise) := rfl
theorem opticalQuietEnd : Statement (.opticalQuietEnd) := rfl
theorem opticalReplySend : Statement (.opticalReplySend) := rfl
theorem matrixLockBroken (target : Fin 7) : Statement (.matrixLockBroken target) := rfl
theorem matrixCtrlWrite (w : RegW) : Statement (.matrixCtrlWrite w) := rfl
theorem matrixErrClear (w : RegW) : Statement (.matrixErrClear w) := rfl
theorem matrixErrCountRead (master : BitVec 3) : Statement (.matrixErrCountRead master) := rfl
theorem doorbell (ring : Fin 64) (w : RegW) : Statement (.doorbell ring w) := rfl
theorem ringPoll (ring : Fin 64) : Statement (.ringPoll ring) := rfl
theorem ringDescriptor (ring : Fin 64) (d : DescRx) (replyFree : Nat) (fetched : List Byte) : Statement (.ringDescriptor ring d replyFree fetched) := rfl
theorem ringEnable (ring : Fin 64) (w : RegW) : Statement (.ringEnable ring w) := rfl
theorem ringDisable (ring : Fin 64) (w : RegW) : Statement (.ringDisable ring w) := rfl
theorem ringIdle (ring : Fin 64) : Statement (.ringIdle ring) := rfl
theorem hostReceiveFrame (ring : Fin 64) (ds : List DescRx) : Statement (.hostReceiveFrame ring ds) := rfl
theorem grainCaptureBlock (ring : Fin 64) (d : DescRx) (fn : BitVec 48) (grains : List Byte) (qb : Bool) : Statement (.grainCaptureBlock ring d fn grains qb) := rfl
theorem grainPlaybackBlock (ring : Fin 64) (d : DescRx) (fn : BitVec 48) : Statement (.grainPlaybackBlock ring d fn) := rfl
theorem ringDropsRead (ring : Fin 64) (master : BitVec 3) : Statement (.ringDropsRead ring master) := rfl
theorem chStart (ch : Fin 8) (w : RegW) (program : Option (List Word)) : Statement (.chStart ch w program) := rfl
theorem chAbort (ch : Fin 8) (w : RegW) : Statement (.chAbort ch w) := rfl
theorem chDoorbell (ch : Fin 8) (w : RegW) : Statement (.chDoorbell ch w) := rfl
theorem pdmaMove (ch : Fin 8) (words : Nat) (source : List Word) : Statement (.pdmaMove ch words source) := rfl
theorem pdmaLoop (ch : Fin 8) : Statement (.pdmaLoop ch) := rfl
theorem pdmaWait (ch : Fin 8) : Statement (.pdmaWait ch) := rfl
theorem pdmaWaitEnd (ch : Fin 8) : Statement (.pdmaWaitEnd ch) := rfl
theorem pdmaSignal (ch : Fin 8) : Statement (.pdmaSignal ch) := rfl
theorem eventStagingDrain : Statement (.eventStagingDrain) := rfl
theorem eventRingFlush (ering : Fin 8) : Statement (.eventRingFlush ering) := rfl
theorem eringStatRead (ering : Fin 8) (master : BitVec 3) : Statement (.eringStatRead ering master) := rfl
theorem evicSrcWrite (src : Fin 512) (w : RegW) : Statement (.evicSrcWrite src w) := rfl
theorem tgtClaim (t : Fin 4) (master : BitVec 3) : Statement (.tgtClaim t master) := rfl
theorem tgtEoi (t : Fin 4) (w : RegW) : Statement (.tgtEoi t w) := rfl
theorem evicSoft (w : RegW) : Statement (.evicSoft w) := rfl
theorem moderationExpiry (t : Fin 4) : Statement (.moderationExpiry t) := rfl
theorem extEvent (pin : Fin 8) (level : Bool) : Statement (.extEvent pin level) := rfl
theorem frzNEdge (level : Bool) : Statement (.frzNEdge level) := rfl
theorem snapReq (w : RegW) : Statement (.snapReq w) := rfl
theorem snapshotDone : Statement (.snapshotDone) := rfl
theorem counterHubRead (portB user : Bool) (offset : BitVec 16) (octets : Nat) : Statement (.counterHubRead portB user offset octets) := rfl
theorem counterCheckpoint : Statement (.counterCheckpoint) := rfl
theorem traceTimeout (index : BitVec 32) : Statement (.traceTimeout index) := rfl
theorem counterSet (c : Cmd) : Statement (.counterSet c) := rfl
theorem counterGet (c : Cmd) : Statement (.counterGet c) := rfl
theorem counterRead (c : Cmd) : Statement (.counterRead c) := rfl
theorem counterClear (c : Cmd) : Statement (.counterClear c) := rfl
theorem snapshot (c : Cmd) : Statement (.snapshot c) := rfl
theorem counterDump (c : Cmd) : Statement (.counterDump c) := rfl
theorem filterSet (c : Cmd) : Statement (.filterSet c) := rfl
theorem filterGet (c : Cmd) : Statement (.filterGet c) := rfl
theorem userSlotSet (c : Cmd) : Statement (.userSlotSet c) := rfl
theorem wordTraceSet (c : Cmd) : Statement (.wordTraceSet c) := rfl
theorem traceRead (c : Cmd) : Statement (.traceRead c) := rfl
theorem traceClear (c : Cmd) : Statement (.traceClear c) := rfl
theorem eventRead (c : Cmd) : Statement (.eventRead c) := rfl
theorem eventLogStatus (c : Cmd) : Statement (.eventLogStatus c) := rfl
theorem evicRegRead (c : Cmd) : Statement (.evicRegRead c) := rfl
theorem evicRegWrite (c : Cmd) : Statement (.evicRegWrite c) := rfl
theorem mapRepair (addr : BitVec 32) (bothBad : Bool) : Statement (.mapRepair addr bothBad) := rfl
theorem refreshBandCheck (temp : Option Int) : Statement (.refreshBandCheck temp) := rfl
theorem journalVerify (found : List EccEvent) : Statement (.journalVerify found) := rfl
theorem journalCompactionStart : Statement (.journalCompactionStart) := rfl
theorem journalCompacted : Statement (.journalCompacted) := rfl
theorem pfwCheckpoint : Statement (.pfwCheckpoint) := rfl
theorem pfwReturn : Statement (.pfwReturn) := rfl
theorem eccErrClear (w : RegW) : Statement (.eccErrClear w) := rfl
theorem memEccStatRead (master : BitVec 3) : Statement (.memEccStatRead master) := rfl
theorem memStatus (c : Cmd) : Statement (.memStatus c) := rfl
theorem memErrLog (c : Cmd) : Statement (.memErrLog c) := rfl
theorem journalStatus (c : Cmd) : Statement (.journalStatus c) := rfl
theorem journalCompact (c : Cmd) : Statement (.journalCompact c) := rfl
theorem journalRead (c : Cmd) : Statement (.journalRead c) := rfl
theorem ckptNow (c : Cmd) : Statement (.ckptNow c) := rfl
theorem memInject (c : Cmd) : Statement (.memInject c) := rfl
theorem tokenClaim : Statement (.tokenClaim) := rfl
theorem claimReadback (high : Bool) : Statement (.claimReadback high) := rfl
theorem tokenRelease : Statement (.tokenRelease) := rfl
theorem statusBlockReceive (words : List Word) : Statement (.statusBlockReceive words) := rfl
theorem mirrorMessageReceive (words : List Word) (image : Option MateImage) : Statement (.mirrorMessageReceive words image) := rfl
theorem mirrorTimeout : Statement (.mirrorTimeout) := rfl
theorem pairStep (err : Int) (frames : Nat) : Statement (.pairStep err frames) := rfl
theorem handbackWtrExpiry : Statement (.handbackWtrExpiry) := rfl
theorem handoverTick : Statement (.handoverTick) := rfl
theorem bootWaitExpiry : Statement (.bootWaitExpiry) := rfl
theorem pairSet (c : Cmd) : Statement (.pairSet c) := rfl
theorem pairGet (c : Cmd) : Statement (.pairGet c) := rfl
theorem pairStatus (c : Cmd) : Statement (.pairStatus c) := rfl
theorem pairSwitch (c : Cmd) : Statement (.pairSwitch c) := rfl
theorem pairHold (c : Cmd) : Statement (.pairHold c) := rfl
theorem pairResync (c : Cmd) : Statement (.pairResync c) := rfl
theorem pairForce (c : Cmd) : Statement (.pairForce c) := rfl
theorem pwrState (c : Cmd) : Statement (.pwrState c) := rfl
theorem gillEntryComplete : Statement (.gillEntryComplete) := rfl
theorem gillEntryTimeout : Statement (.gillEntryTimeout) := rfl
theorem wakeSource (src : BitVec 4) (obj : BitVec 8) (active : Bool) : Statement (.wakeSource src obj active) := rfl
theorem wakeStepReady (time ticks : Nat) : Statement (.wakeStepReady time ticks) := rfl
theorem wakeStepTimeout (code : BitVec 4) (time : Nat) : Statement (.wakeStepTimeout code time) := rfl
theorem wakeRetry : Statement (.wakeRetry) := rfl
theorem gillTimebaseSwitch (ticks : Nat) : Statement (.gillTimebaseSwitch ticks) := rfl
theorem timebaseCalibration (xtal : Option Nat) (rc : Nat) : Statement (.timebaseCalibration xtal rc) := rfl
theorem avsRequestDone (mv : BitVec 10) : Statement (.avsRequestDone mv) := rfl
theorem avsTimeout : Statement (.avsTimeout) := rfl
theorem avsAdjust (up : Bool) : Statement (.avsAdjust up) := rfl
theorem voscLatchOff : Statement (.voscLatchOff) := rfl
theorem voscRetry : Statement (.voscRetry) := rfl
theorem oscinLoss : Statement (.oscinLoss) := rfl
theorem oscinReturn (inFrame : Bool) : Statement (.oscinReturn inFrame) := rfl
theorem pwrSet (c : Cmd) : Statement (.pwrSet c) := rfl
theorem pwrGet (c : Cmd) : Statement (.pwrGet c) := rfl
theorem wakeSet (c : Cmd) : Statement (.wakeSet c) := rfl
theorem wakeGet (c : Cmd) : Statement (.wakeGet c) := rfl
theorem pwrStatus (c : Cmd) : Statement (.pwrStatus c) := rfl
theorem wakeLog (c : Cmd) : Statement (.wakeLog c) := rfl
theorem sleepGapGet (c : Cmd) : Statement (.sleepGapGet c) := rfl
theorem voscCtrl (c : Cmd) : Statement (.voscCtrl c) := rfl
theorem firkinCheck (c : Cmd) : Statement (.firkinCheck c) := rfl
theorem wakeSend (c : Cmd) : Statement (.wakeSend c) := rfl
theorem powerOnReset (straps : Straps) (flash : Flash) (tampers : BitVec 4) (claimHigh : Bool) : Statement (.powerOnReset straps flash tampers claimHigh) := rfl
theorem brownOutReset : Statement (.brownOutReset) := rfl
theorem watchdogExpiry : Statement (.watchdogExpiry) := rfl
theorem bootComplete (ms : BitVec 16) (r : Restore) : Statement (.bootComplete ms r) := rfl
theorem bootFail (hardware : Bool) : Statement (.bootFail hardware) := rfl
theorem bootGo (w : RegW) (octets : List Byte) : Statement (.bootGo w octets) := rfl
theorem bootGoTimeout : Statement (.bootGoTimeout) := rfl
theorem svnAdvance : Statement (.svnAdvance) := rfl
theorem recStatus (arg : Half) (crcOk : Bool) : Statement (.recStatus arg crcOk) := rfl
theorem arm (arg : Half) (crcOk : Bool) : Statement (.arm arg crcOk) := rfl
theorem freeze (arg : Half) (crcOk : Bool) (since : Nat) : Statement (.freeze arg crcOk since) := rfl
theorem journalTail (arg : Half) (crcOk : Bool) : Statement (.journalTail arg crcOk) := rfl
theorem forceStandby (arg : Half) (crcOk : Bool) (since : Nat) : Statement (.forceStandby arg crcOk since) := rfl
theorem hardReset (arg : Half) (crcOk : Bool) (since : Nat) (straps : Straps) : Statement (.hardReset arg crcOk since straps) := rfl
theorem gillRead (arg : Half) (crcOk : Bool) : Statement (.gillRead arg crcOk) := rfl
theorem mboxRead (arg : Half) (crcOk : Bool) : Statement (.mboxRead arg crcOk) := rfl
theorem mboxWrite (arg : Half) (data : List Word) (crcOk : Bool) (since : Nat) : Statement (.mboxWrite arg data crcOk since) := rfl
theorem tamper (input : Fin 4) (active : Bool) : Statement (.tamper input active) := rfl
theorem sysReset (c : Cmd) : Statement (.sysReset c) := rfl
theorem resetLog (c : Cmd) : Statement (.resetLog c) := rfl
theorem wdtSet (c : Cmd) : Statement (.wdtSet c) := rfl
theorem tamperSet (c : Cmd) : Statement (.tamperSet c) := rfl
theorem tamperGet (c : Cmd) : Statement (.tamperGet c) := rfl
theorem tamperClear (c : Cmd) : Statement (.tamperClear c) := rfl
theorem tamperLog (c : Cmd) : Statement (.tamperLog c) := rfl
theorem returnCapture (c : Cmd) : Statement (.returnCapture c) := rfl
theorem captureStatus (c : Cmd) : Statement (.captureStatus c) := rfl
theorem recSet (c : Cmd) : Statement (.recSet c) := rfl
theorem fwStage (c : Cmd) (image : List Byte) : Statement (.fwStage c image) := rfl
theorem cmdSecRead (master : BitVec 3) : Statement (.cmdSecRead master) := rfl
theorem hostPortLinkUp (portB : Bool) (msix : Bool) : Statement (.hostPortLinkUp portB msix) := rfl
theorem cp2LinkChange (up : Bool) : Statement (.cp2LinkChange up) := rfl
theorem e1FrameTransmit (eid : BitVec 32) (grains : List Byte) : Statement (.e1FrameTransmit eid grains) := rfl
theorem watchdogKick (proc : Bool) : Statement (.watchdogKick proc) := rfl
theorem shortRunCountClear : Statement (.shortRunCountClear) := rfl
theorem actClaimChange (high : Bool) : Statement (.actClaimChange high) := rfl
theorem avsNack (again : Bool) : Statement (.avsNack again) := rfl
theorem vcoreOutOfRange (mv : BitVec 10) : Statement (.vcoreOutOfRange mv) := rfl
theorem vddNvLoss : Statement (.vddNvLoss) := rfl

end Sys2Proof.Laws.Operands
end

