-- ==== Sys2Proof/Tests/Slice0.lean ====
section
/-!
SUPPORT. Tests: ill-formed commands are refused, worked values of the spec, and for every statement with hypotheses a state that meets them.
-/
namespace Sys2Proof.Tests

set_option Elab.async false

open Sys2Proof Sys2Proof.Machine Sys2Proof.Claims

/-- Words of zeros. -/
def zs (n : Nat) : List Word := List.replicate n 0

/-- A packet of port 0 from tenant 0 as supervisor, with these parameter words. -/
def cmd (ws : List Word) : Cmd :=
  { port := 0, tid := 0, priv := 2, slot := false, key := none, tag := 0, seq := 0, quiet := false, barrier := false, bushel := 0,
    plen := 8 * ws.length, words := ws ++ zs (2 - ws.length), ret := .ring }

abbrev S0 : State := State.reset
/-- Lanes 0 and 1 run STM-16. -/
def sLanes : State := { S0 with cfg.line.lane := [(0, 3), (1, 3)] }
/-- An open bushel 1 of tenant 0 with one change, and one committed record: the VC-4 at 0 of lane 0 to lane 1. -/
def conn01 : Conn := ⟨0x0000_0000_0100_0000, 0x0400_0000_0080_0000⟩
def oneBushel : Bushel := { Bushel.make 1 0 false [⟨3, 1, 0, [0, conn01.w0, conn01.w1]⟩] with deadline := 480000 }
def sOpen : State := { sLanes with bush.list := [oneBushel], bush.lastId := 1 }
def sConn : State := { sLanes with cfg.b.fab.conn := [(0, conn01)] }
def pg01 : PgRec := ⟨0x0000_0000_0100_0000, 0x0000_4212_C000_0000⟩
def sGroup : State := { sLanes with cfg.b.prot.pg := [(0, some pg01)] }
/-- In a bushel. -/
def inB (ws : List Word) : Cmd := { cmd ws with bushel := 1 }

/-- Lane 0 runs Gigabit Ethernet, with its link up; lane 1 runs STM-16. -/
def sEth : State := { S0 with cfg.line.lane := [(0, 5), (1, 3)], line.lanes := [(0, { Lane.reset with linkUp := true })] }
/-- Port 0 is an E1 that runs, in CRC-4 mode 1; port 1 runs C37.94; port 2 unframed. -/
def sTrib : State := { S0 with cfg.line.trib := [(0, 1), (1, 0x0010_0003), (2, 2)] }
def e0 : Eid := mkEid 0x40 2 0
def sE1 (x : E1State) : State := { sTrib with fram.e1 := [(e0.toNat, x)] }
def goodE1 : E1State := { E1State.reset with inFrame := true, crc4 := .searching }
def e1In : E1Rx := { eid := e0, bits := 0, phase := 0, quiet := false, qb := false }
/-- Channel 0 is bound to the VC-4 at 0 of lane 0. -/
def sGfp (x : GfpChan) : State := { sLanes with cfg.fram.gfpBind := [(0, some (.path 0))], fram.gfp := [(0, x)], sdh.lanes := [(0, { SdhLane.reset with framer := .sync })] }
def gfpIn : GfpRx := { chan := 0, header := coreMask, octets := [], qb := false }
def member0 : Member := Member.make 0 0 ctrlIdle .steady
def sVcat (cfg : Word) (m : Member) : State := { sLanes with cfg.fram.vcat := [(0, cfg)], fram.vcat := [(0, { VcatGroup.reset with members := [m] })] }
def vcatIn (ok : Bool) : VcatRx := { group := 0, eid := 0, mfi := 0, sq := 0, ctrl := 0, gid := false, mst := [], rsAck := false, crcOk := ok }
def sdhIn (pat : BitVec 48) : SdhRx :=
  { lane := 0, pattern := pat, j0 := 0, b1 := 0, b1Calc := 0, e1 := 0, f1 := 0, b2 := 0, b2Calc := 0, k1 := 0, k2 := 0, d := [], s1 := 0, m1 := 0, e2 := 0, paths := [] }
/-- Queue 0 is a grain pseudowire on lane 0. -/
def rec1 : QueueRec := ⟨0x1000_0000_0000_0000, 0x0420_1004_07F8_0000, 0x100⟩
def sPw (x : Queue) : State := { sEth with cfg.b.queues := [(0, rec1)], pie.queues := [(0, x)] }
def prot0 : Prot := Prot.reset
def lp0 : Word := lpCfgReset ||| 0x4000_0000_0000
def sPair (x : Prot) : State := { sLanes with cfg.b.prot.lp := [(0, some lp0)], prot.pairs := [(0, x)] }
def ethIn (octets : List Byte) (ok : Bool) : EthRx := { lane := 0, octets := octets, fcsOk := ok, fn := 0, cycle := 0 }
def frame (etype : List Byte) : List Byte := List.replicate 12 1 ++ etype ++ List.replicate 50 0

def sRun : State := { S0 with boot.mode := .running, jr.valid := true }
def sTok : State := { sRun with pair.token := true }
def rep0 : Reply := { port := 0, ret := .ring, cls := 0, op := 1, tid := 0, priv := 2, flags := 0, seq := 0, status := 0, detail := 0, data := [], key := none }
def waitCmd0 : WaitCmd := ⟨0, 1, cmd []⟩
def mgmtIn (o : List Byte) (ok : Bool) : MgmtRx := { octets := o, fcsOk := ok, fn := 0, cycle := 0, fetched := [] }
def sCp2 : State := { sRun with host.craft.cp2Link := true, host.craft.mgmtVid := 0xFFF, host.craft.mgmtMac := 0x0101_0101_0101 }
def sCraft : State := { sRun with host.craft.craftCfg := 3 }
def ringOf (cfg bind : Half) : Ring := { Ring.reset 4 with cfg := cfg, bind := bind }
def sRing (n : Nat) (cfg bind : Half) : State := { sRun with host.rings := [(n, ringOf cfg bind)] }
def desc0 : DescRx := { w0 := 0, w1 := 0x0040_0000_0000_0000, w3 := 0x8000_0000_0000_0000, octets := [], failed := false }
def sChan (m : ChanMode) (i : DmaInstr) : State := { sRun with host.chans := [(4, { Chan.reset with mode := m, code := [i] })] }
def dma (op mode : Nat) : DmaInstr := ⟨mkWord [(63, 60, op), (59, 56, mode)], 0, 0⟩
def sMatePair : State := { sRun with cfg.pair := pairCfgReset ||| 0x8000_0000_0000_0000, pair.mateUp := true, pair.mode := .standby, line.mates := (List.range 4).map fun n => (n, { MateLane.reset with locked := true, identified := true, deskewed := true }) }
def withCrc (ws : List Word) : List Word := ws ++ [BitVec.ofNat 64 (crc32 ws)]
def flash0 : Flash := ⟨some ⟨0, 5⟩, ⟨true, true, true, true, 1, 1⟩, Image.none⟩
def straps0 : Straps := ⟨0, false, false, true⟩
def okImage : Image := ⟨true, true, true, true, 1, 1⟩
def sBoot : State := { S0 with jr.kept.block := some ⟨0, 5⟩, jr.kept.imageA := okImage }
def regW (m : BitVec 3) (v : Half) : RegW := ⟨m, v, true⟩

/-- An active member whose mate is up and healthy. -/
def sActive : State := { sTok with pair.mode := .active, pair.mateUp := true, pair.peer := ⟨0x0100_0000_0000_0000, 0, 0, 0⟩ }
/-- Tenant 0 holds a record and has no quota. -/
def sShed : State := { sConn with cfg.cmd.tenants := [(0, (0x6F00_0000_0000_0000, 0))], bush.overQuota := [(0, true)] }


/-- A packet with zeros in every word its opcode has. -/
def plain (r : OpRow) : Cmd := cmd (zs (r.spec S0 (cmd [])).masks.length)

/-- Each row's hypotheses hold of the state and packet listed for it, and where none is listed of the state after reset and a packet of zeros. -/
def rowsMet (ws : List (Nat × State × Cmd)) : Nat → List OpRow → Bool
  | _, [] => true
  | i, r :: rs =>
    (match ws.lookup i with
      | some (s, c) => r.met s c
      | none => r.met S0 (plain r)) && rowsMet ws (i + 1) rs

theorem rowsMet_all {ws : List (Nat × State × Cmd)} : ∀ {i : Nat} {rs : List OpRow}, rowsMet ws i rs = true → ∀ r ∈ rs, ∃ s c, r.met s c = true
  | _, [], _, _, hr => by simp at hr
  | i, r :: rs, h, x, hx => by
    simp only [rowsMet, Bool.and_eq_true] at h
    rcases List.mem_cons.1 hx with rfl | hx
    · revert h
      cases ws.lookup i with
      | some p => exact fun h => ⟨p.1, p.2, h.1⟩
      | none => exact fun h => ⟨_, _, h.1⟩
    · exact rowsMet_all h.2 x hx

def w0 : List (Nat × State × Cmd) := [(4, S0, cmd [1, mkWord [(27, 16, 60), (15, 8, 5)]])]
def w2 : List (Nat × State × Cmd) :=
  [(0, S0, cmd [0, laneOhReset]), (4, S0, cmd [0, pathOhReset]), (5, sLanes, cmd [0]), (6, S0, cmd (1 :: zs 8)), (8, sLanes, cmd [0, 0]),
   (9, S0, cmd [0x40_0900, e1CfgReset]), (10, S0, cmd [0x40_0900]), (11, S0, cmd [0x40_0900]), (12, S0, cmd [0x40_0900, 1]),
   (14, S0, cmd [0, gfpCfgReset]), (16, sLanes, cmd [0, 0]), (18, S0, cmd [0, vcatCfgReset]),
   (20, { sLanes with cfg.fram.vcat := [(0, vcatCfgReset)] }, cmd [0, 0]),
   (21, { sLanes with fram.vcat := [(0, { VcatGroup.reset with members := [Member.make 0 0 ctrlIdle .steady] })] }, cmd [0, 0])]
def w3 : List (Nat × State × Cmd) :=
  [(0, sOpen, inB [5, conn01.w0, conn01.w1]), (1, sOpen, inB [5, conn01.w0, conn01.w1]), (2, sOpen, inB [5]), (4, sConn, cmd [0x0100_0000]),
   (5, sConn, cmd [0]), (6, sOpen, inB [0, 0]), (8, sOpen, inB [0, 0]), (10, S0, cmd [0x0100_0000])]
def w4 : List (Nat × State × Cmd) :=
  [(1, { sOpen with bush.list := [oneBushel, { oneBushel with id := 2, mode := .queued, changes := [] }] }, cmd [1, 0]), (2, sOpen, cmd [1]), (3, sOpen, cmd [1])]
def w5 : List (Nat × State × Cmd) :=
  [(0, sOpen, inB [5, pg01.w0, pg01.w1]), (1, sOpen, inB [5, pg01.w0, pg01.w1]), (2, sOpen, inB [5]), (4, sGroup, cmd [0]),
   (5, sOpen, inB [0, lpCfgReset ||| 0x4000_0000_0000]), (6, sOpen, inB [0]), (8, { sLanes with cfg.b.prot.lp := [(0, some (lpCfgReset ||| 0x4000_0000_0000))] }, cmd [0])]
def w6 : List (Nat × State × Cmd) :=
  [(0, sOpen, inB [0, alignCfgReset]), (2, sGroup, cmd [0]), (3, sOpen, inB [0, symCfgReset]), (6, { sLanes with cfg.sdh.pathOh := [(0, pathOhReset ||| 0x40000000)] }, cmd [0, 1]), (8, S0, cmd [0, 16])]
def w7 : List (Nat × State × Cmd) :=
  [(0, sOpen, inB [5, 0x1000_0000_0000_0000, QueueRec.reset.w1, QueueRec.reset.w2]), (1, sOpen, inB [5, 0x1000_0000_0000_0000, QueueRec.reset.w1, QueueRec.reset.w2]),
   (2, sOpen, inB [5]),
   (5, S0, cmd ([0, 18, 0, 0x0000_0000_8847_0000, 0x0100_0000_0000_0000] ++ zs 5)), (7, S0, cmd [0, PsnRec.reset.w0, PsnRec.reset.w1, PsnRec.reset.w2])]
def w8 : List (Nat × State × Cmd) :=
  [(1, S0, cmd [0, timInReset]), (11, { S0 with cfg.tim.inputs := [(104, timInReset ||| 0x0200_0000)] }, cmd [0, 0]), (12, S0, cmd [0, 0x1800_0000_0000_0000, 0]), (13, S0, cmd [0, ptpPortReset])]
def w9 : List (Nat × State × Cmd) :=
  [(0, S0, cmd [0, (S0.tenant 0).1, (S0.tenant 0).2]), (2, { S0 with cfg.cmd.tenants := S0.cfg.cmd.tenants ++ [(5, (0x5F00_0000_0000_0000, 0))] }, cmd [5]),
   (4, S0, cmd [0, 0, 0, 0, 1, kcvOf 1]), (5, { S0 with cmd.keys := [(0, { TenantKeys.reset with key0 := some 1, key1 := some 2 })] }, cmd [0])]
def w10 : List (Nat × State × Cmd) :=
  [(0, S0, cmd [0, 0x0100_0000_0000_0000, 0]), (2, S0, cmd [0x1_0000]), (3, S0, cmd [0x1_0000]), (7, S0, cmd [0, 0x800]), (8, S0, cmd [0x1_0000_0000])]
def w11 : List (Nat × State × Cmd) := [(3, S0, cmd [0x10_0000]), (4, S0, cmd [0x10, 0])]
def w12 : List (Nat × State × Cmd) := [(0, S0, cmd [0, pairCfgReset])]
def w13 : List (Nat × State × Cmd) := [(0, S0, cmd [0, 0x0019_0000_0000_0000]), (7, { S0 with pwr.voscLatched := true }, cmd [0, 1])]
def w14 : List (Nat × State × Cmd) := [(2, S0, cmd [0, 1000]), (3, S0, cmd [0, 0x0032_0001]), (6, S0, cmd [0x200])]
def w15 : List (Nat × State × Cmd) := [(0, S0, cmd [0x1_0000_0000]), (2, S0, cmd [0x1_8000]), (3, S0, cmd [0x8000, 0])]

/-! A witness for each row of the opcode tables -/

theorem witness_rows0 : ∀ r ∈ rows0, ∃ s c, r.met s c = true := rowsMet_all (ws := w0) (i := 0) (by decide +kernel)
theorem witness_rows1 : ∀ r ∈ rows1, ∃ s c, r.met s c = true := rowsMet_all (ws := []) (i := 0) (by decide +kernel)
theorem witness_rows2 : ∀ r ∈ rows2, ∃ s c, r.met s c = true := rowsMet_all (ws := w2) (i := 0) (by decide +kernel)
theorem witness_rows3 : ∀ r ∈ rows3, ∃ s c, r.met s c = true := rowsMet_all (ws := w3) (i := 0) (by decide +kernel)
theorem witness_rows4 : ∀ r ∈ rows4, ∃ s c, r.met s c = true := rowsMet_all (ws := w4) (i := 0) (by decide +kernel)
theorem witness_rows5 : ∀ r ∈ rows5, ∃ s c, r.met s c = true := rowsMet_all (ws := w5) (i := 0) (by decide +kernel)
theorem witness_rows6 : ∀ r ∈ rows6, ∃ s c, r.met s c = true := rowsMet_all (ws := w6) (i := 0) (by decide +kernel)
theorem witness_rows7 : ∀ r ∈ rows7, ∃ s c, r.met s c = true := rowsMet_all (ws := w7) (i := 0) (by decide +kernel)
theorem witness_rows8 : ∀ r ∈ rows8, ∃ s c, r.met s c = true := rowsMet_all (ws := w8) (i := 0) (by decide +kernel)
theorem witness_rows9 : ∀ r ∈ rows9, ∃ s c, r.met s c = true := rowsMet_all (ws := w9) (i := 0) (by decide +kernel)
theorem witness_rows10 : ∀ r ∈ rows10, ∃ s c, r.met s c = true := rowsMet_all (ws := w10) (i := 0) (by decide +kernel)
theorem witness_rows11 : ∀ r ∈ rows11, ∃ s c, r.met s c = true := rowsMet_all (ws := w11) (i := 0) (by decide +kernel)
theorem witness_rows12 : ∀ r ∈ rows12, ∃ s c, r.met s c = true := rowsMet_all (ws := w12) (i := 0) (by decide +kernel)
theorem witness_rows13 : ∀ r ∈ rows13, ∃ s c, r.met s c = true := rowsMet_all (ws := w13) (i := 0) (by decide +kernel)
theorem witness_rows14 : ∀ r ∈ rows14, ∃ s c, r.met s c = true := rowsMet_all (ws := w14) (i := 0) (by decide +kernel)
theorem witness_rows15 : ∀ r ∈ rows15, ∃ s c, r.met s c = true := rowsMet_all (ws := w15) (i := 0) (by decide +kernel)

theorem witness_shedRow : shedRow.met sShed (cmd [0]) = true := by decide +kernel

/-- A packet with zeros in every word its opcode has. -/
def plainLater (r : LaterRow) : Cmd := cmd (zs r.spec.masks.length)

/-- As rowsMet. -/
def latersMet (ws : List (Nat × State × Cmd)) : Nat → List LaterRow → Bool
  | _, [] => true
  | i, r :: rs =>
    (match ws.lookup i with
      | some (s, c) => r.met s c
      | none => r.met S0 (plainLater r)) && latersMet ws (i + 1) rs

theorem latersMet_all {ws : List (Nat × State × Cmd)} :
    ∀ {i : Nat} {rs : List LaterRow}, latersMet ws i rs = true → ∀ r ∈ rs, ∃ s c, r.met s c = true
  | _, [], _, _, hr => by simp at hr
  | i, r :: rs, h, x, hx => by
    simp only [latersMet, Bool.and_eq_true] at h
    rcases List.mem_cons.1 hx with rfl | hx
    · revert h
      cases ws.lookup i with
      | some p => exact fun h => ⟨p.1, p.2, h.1⟩
      | none => exact fun h => ⟨_, _, h.1⟩
    · exact latersMet_all h.2 x hx

def sLp : State := { sLanes with cfg.b.prot.lp := [(0, some (lpCfgReset ||| 0x4000_0000_0000))] }

theorem witness_later2 : ∀ r ∈ later2, ∃ s c, r.met s c = true := latersMet_all (ws := [(0, sLanes, cmd [0, 0])]) (i := 0) (by decide +kernel)
theorem witness_later5 : ∀ r ∈ later5, ∃ s c, r.met s c = true := latersMet_all (ws := [(0, sGroup, cmd [0, 0]), (1, sLp, cmd [0, 0])]) (i := 0) (by decide +kernel)
theorem witness_later6 : ∀ r ∈ later6, ∃ s c, r.met s c = true := latersMet_all (ws := [(0, sGroup, cmd [0])]) (i := 0) (by decide +kernel)
theorem witness_later8 : ∀ r ∈ later8, ∃ s c, r.met s c = true := latersMet_all (ws := [(0, S0, cmd [0, S0.cfg.tim.sys])]) (i := 0) (by decide +kernel)
theorem witness_later10 : ∀ r ∈ later10, ∃ s c, r.met s c = true := latersMet_all (ws := []) (i := 0) (by decide +kernel)
theorem witness_later11 : ∀ r ∈ later11, ∃ s c, r.met s c = true := latersMet_all (ws := []) (i := 0) (by decide +kernel)
theorem witness_later12 : ∀ r ∈ later12, ∃ s c, r.met s c = true := latersMet_all (ws := []) (i := 0) (by decide +kernel)

/-! A witness for each row of the other commands -/

theorem witness_regRows : ∀ r ∈ regRows, ∃ s a, r.can s a = true := by
  simp only [regRows, List.forall_mem_cons]
  exact ⟨⟨sRun, ((), regW 0 2), by decide +kernel⟩,
    ⟨sRun, ((), regW 0 1), by decide +kernel⟩,
    ⟨sRun, ((), regW 0 1), by decide +kernel⟩,
    ⟨sRun, ((), regW 0 0x8000_0000), by decide +kernel⟩,
    ⟨sRun, ((), regW 0 1), by decide +kernel⟩,
    ⟨sRun, ((), regW 0 0x8000_0000), by decide +kernel⟩,
    ⟨sRing 8 0x4800_0000 0, (8, regW 0 0), by decide +kernel⟩,
    ⟨sRun, (3, regW 0 1), by decide +kernel⟩,
    ⟨sRun, (2, regW 0 0), by decide +kernel⟩,
    ⟨sRun, ((), regW 0 1), by decide +kernel⟩,
    ⟨sRun, (8, regW 0 0x4800_0010), by decide +kernel⟩,
    ⟨sRing 8 0x4800_0000 0, (8, regW 0 0x4000_0000), by decide +kernel⟩,
    ⟨sRun, ((4, some [0]), regW 0 1), by decide +kernel⟩,
    ⟨{ sRun with host.chans := [(4, { Chan.reset with mode := .waiting })] }, (4, regW 0 2), by decide +kernel⟩,
    ⟨sRun, (4, regW 0 4), by decide +kernel⟩,
    ⟨{ S0 with boot.mode := .hostWait, host.ports := [(0, { HostPort.reset with linkUp := true })] }, (regW 0 1, []), by decide +kernel⟩,
    ⟨sRun, regW 0 64, by decide +kernel⟩,
    by simp⟩

theorem witness_tickRows : ∀ r ∈ tickRows, ∃ s a, r.can s a = true := by
  simp only [tickRows, List.forall_mem_cons]
  exact ⟨⟨S0, ⟨[], [], [], [], [], [], []⟩, by decide +kernel⟩,
    ⟨S0, (), by decide +kernel⟩,
    ⟨{ sOpen with bush.list := [{ oneBushel with mode := .queued, direct := true }] }, { oneBushel with mode := .queued, direct := true }, by decide +kernel⟩,
    ⟨{ sOpen with bush.list := [{ oneBushel with mode := .loading }], tick.loading := some 1 }, { oneBushel with mode := .loading }, by decide +kernel⟩,
    ⟨{ S0 with tick.copyLeft := 1 }, (), by decide +kernel⟩,
    ⟨{ S0 with tim.timeCand := some 104 }, (5, 0, false), by decide +kernel⟩,
    ⟨{ S0 with tick.stepArm := true, tim.timeCand := some 104 }, (none, 2000, false), by decide +kernel⟩,
    ⟨{ S0 with tick.stepArm := true }, (), by decide +kernel⟩,
    ⟨S0, 0, by decide +kernel⟩,
    ⟨S0, 0, by decide +kernel⟩,
    ⟨S0, 0, by decide +kernel⟩,
    by simp⟩

theorem witness_lineRows : ∀ r ∈ lineRows, ∃ s a, r.can s a = true := by
  simp only [lineRows, List.forall_mem_cons]
  exact ⟨⟨{ S0 with line.lanes := [(0, { Lane.reset with config := true })] }, 0, by decide +kernel⟩,
    ⟨sLanes, (0, 0), by decide +kernel⟩,
    ⟨sLanes, (0, 1000), by decide +kernel⟩,
    ⟨sLanes, (0, true), by decide +kernel⟩,
    ⟨sLanes, (0, true), by decide +kernel⟩,
    ⟨sLanes, (0, List.replicate 8 1000), by decide +kernel⟩,
    ⟨S0, (0, ⟨false, false, false, false⟩), by decide +kernel⟩,
    ⟨{ sEth with line.lanes := [(0, { Lane.reset with sigLow := false, noTrans := false })] }, (0, ⟨true, true, true, false⟩), by decide +kernel⟩,
    ⟨{ S0 with line.lanes := [(0, { Lane.reset with chk := 1 })] }, (0, true, 0), by decide +kernel⟩,
    ⟨S0, (0, { MateLane.reset with locked := true }), by decide +kernel⟩,
    ⟨sTrib, 2, by decide +kernel⟩,
    ⟨{ S0 with line.tribs := [(0, { TribPort.reset with clkLoss := true })] }, 0, by decide +kernel⟩,
    ⟨{ S0 with cfg.line.trib := [(0, 0x401)] }, (0, 0), by decide +kernel⟩,
    ⟨{ sTrib with line.tribs := [(0, { TribPort.reset with phi0 := some 5, count := 64 })] }, (0, 5), by decide +kernel⟩,
    ⟨{ sTrib with line.tribs := [(0, { TribPort.reset with phi0 := some 5, aligned := true })] }, (0, 100, 5), by decide +kernel⟩,
    by simp⟩

theorem witness_sdhRows : ∀ r ∈ sdhRows, ∃ s a, r.can s a = true := by
  simp only [sdhRows, List.forall_mem_cons]
  exact ⟨⟨sLanes, sdhIn 0, by decide +kernel⟩,
    ⟨{ sLanes with sdh.lanes := [(0, { SdhLane.reset with framer := .sync })] }, sdhIn alignPattern, by decide +kernel⟩,
    ⟨{ sLanes with sdh.lanes := [(0, { SdhLane.reset with apsWait := some 12 })] }, (0, 12), by decide +kernel⟩,
    ⟨{ sLanes with line.lanes := [(0, { Lane.reset with sigLow := true })] }, 0, by decide +kernel⟩,
    ⟨{ sLanes with sdh.lanes := [(0, { SdhLane.reset with los := true })], line.lanes := [(0, { Lane.reset with sigLow := false, noTrans := false })] }, 0, by decide +kernel⟩,
    ⟨{ sLanes with cfg.b.fab.struct := [(0, 4)], sdh.lanes := [(0, { SdhLane.reset with framer := .sync })] }, { eid := 0x40_0900, ptr := 0, v5 := 0, bip2Calc := 0, j2 := 0, n2 := 0, k4 := 0, drift := 0, qb := false }, by decide +kernel⟩,
    ⟨sLanes, (0, true), by decide +kernel⟩,
    ⟨sLanes, (0, 0, true), by decide +kernel⟩,
    ⟨sLanes, { lane := 0, b1 := 0, b2 := 0, paths := [] }, by decide +kernel⟩,
    by simp⟩

def val1 : State := { sGfp GfpChan.reset with cfg.b.queues := [(0, ⟨0x3000_0000_0000_0000, QueueRec.reset.w1, 0x100⟩)], pie.queues := [(0, { Queue.reset with rxStore := [[1, 2]] })] }
theorem witness_framingRows : ∀ r ∈ framingRows, ∃ s a, r.can s a = true := by
  simp only [framingRows, List.forall_mem_cons]
  exact ⟨⟨sE1 E1State.reset, e1In, by decide +kernel⟩,
    ⟨sE1 { E1State.reset with cand2 := BitVec.allOnes 256, prev := (0x1B : BitVec 256) <<< 248 }, ({ e1In with bits := (0x1B : BitVec 256) <<< 248 }, 0), by decide +kernel⟩,
    ⟨sE1 { goodE1 with crc4 := .off }, e1In, by decide +kernel⟩,
    ⟨{ sE1 goodE1 with now := 100 }, e0, by decide +kernel⟩,
    ⟨{ sE1 goodE1 with now := 100, cfg.fram.e1 := [(e0.toNat, 2)] }, e0, by decide +kernel⟩,
    ⟨{ sE1 goodE1 with now := 4000 }, e0, by decide +kernel⟩,
    ⟨sE1 { E1State.reset with excluded := some 3 }, e0, by decide +kernel⟩,
    ⟨sE1 { goodE1 with crc4 := .aligned, blockEnded := some 915 }, (e0, 915), by decide +kernel⟩,
    ⟨sE1 { goodE1 with blockEnded := some 0 }, (e0, 0), by decide +kernel⟩,
    ⟨sE1 goodE1, (e0, true), by decide +kernel⟩,
    ⟨sTrib, { port := 1, heads := 0, phase := 0, viol := 0, count := 0, yellow := false, quiet := false, lively := true, qb := false }, by decide +kernel⟩,
    ⟨sGfp GfpChan.reset, (gfpIn, .path 0), by decide +kernel⟩,
    ⟨sGfp { GfpChan.reset with state := .presync }, (gfpIn, .path 0), by decide +kernel⟩,
    ⟨sGfp { GfpChan.reset with state := .sync }, (gfpIn, .path 0), by decide +kernel⟩,
    ⟨{ sGfp { GfpChan.reset with state := .sync } with cfg.fram.gfp := [(0, 0x0000_2580_0100_0100)] }, ({ gfpIn with header := 0 }, .path 0), by decide +kernel⟩,
    ⟨{ sGfp GfpChan.reset with now := 100 }, 0, by decide +kernel⟩,
    ⟨sGfp { GfpChan.reset with csf := true }, 0, by decide +kernel⟩,
    ⟨sGfp GfpChan.reset, 0, by decide +kernel⟩,
    ⟨val1, (0, [1, 2], val1.setQueue 0 { Queue.reset with rxStore := [] }), by decide +kernel⟩,
    ⟨sVcat vcatCfgReset member0, vcatIn false, by decide +kernel⟩,
    ⟨sVcat 0x0000_000A_0000_0040 member0, (vcatIn true, member0, nth member0 (vcatRead (sVcat 0x0000_000A_0000_0040 member0) (vcatIn true)) 0), by decide +kernel⟩,
    ⟨sVcat vcatCfgReset { member0 with phase := .removing }, (0, { member0 with phase := .removing }), by decide +kernel⟩,
    ⟨{ sVcat vcatCfgReset { member0 with mstTx := true, failSince := some 0 } with now := 9000 }, (0, 0), by decide +kernel⟩,
    ⟨{ sVcat vcatCfgReset { member0 with mstTx := false, cleanSince := some 0 } with now := 600000 }, (0, 0), by decide +kernel⟩,
    ⟨{ sLanes with cfg.b.fab.conn := [(0, ⟨0x0000_0000_F000_0000, 0x0400_0000_0080_0000⟩)] }, (0, true, 0), by decide +kernel⟩,
    by simp⟩

def val2 : List Byte := 0x7E :: 0x10 :: List.replicate 28 0
theorem witness_protRows : ∀ r ∈ protRows, ∃ s a, r.can s a = true := by
  simp only [protRows, List.forall_mem_cons]
  exact ⟨⟨{ sOpen with now := 500000 }, oneBushel, by decide +kernel⟩,
    ⟨sPair { prot0 with sfW := { present := true, run := 5, need := 3, raised := false } }, (false, 0, 0), by decide +kernel⟩,
    ⟨sPair { prot0 with wtrEnd := some 0 }, (false, 0), by decide +kernel⟩,
    ⟨sPair prot0, (0, lp0), by decide +kernel⟩,
    ⟨sPair { prot0 with fopBad := 400 }, 0, by decide +kernel⟩,
    ⟨sPair { prot0 with fopGood := 400 }, 0, by decide +kernel⟩,
    ⟨{ sPair { prot0 with kWait := some 0 } with now := 80 }, (), by decide +kernel⟩,
    ⟨{ sGroup with cfg.b.prot.pg := [(0, some { pg01 with w1 := pg01.w1 ||| 0x1000_0000_0000 })], align.groups := [(0, { AlignGroup.reset with mode := .locked, judged0 := [true], judged1 := [true] })] }, ({ pg := 0, qb0 := false, qb1 := false, skew := false, covered := true }, { pg01 with w1 := pg01.w1 ||| 0x1000_0000_0000 }), by decide +kernel⟩,
    ⟨{ sGroup with cfg.b.prot.pg := [(0, some { pg01 with w1 := pg01.w1 ||| 0x1000_0000_0000 })], align.groups := [(0, { AlignGroup.reset with mode := .locked, judged0 := [false], judged1 := [true] })] }, ({ pg := 0, qb0 := false, qb1 := false, skew := false, covered := true }, { pg01 with w1 := pg01.w1 ||| 0x1000_0000_0000 }), by decide +kernel⟩,
    ⟨sGroup, ({ pg := 0, leg1 := false, octets := [], qb := true }, pg01), by decide +kernel⟩,
    ⟨{ sGroup with cfg.sdh.pathOh := [(0, pathOhReset ||| 0x4000_0000)], sdh.lanes := [(0, { SdhLane.reset with framer := .sync })] }, { eid := 0, octets := 0x7E :: List.replicate 31 0, fn := 0, cycle := 0, dIn := 0, dOut := 0 }, by decide +kernel⟩,
    ⟨{ sConn with cfg.b.fab.conn := [(0, { conn01 with w1 := conn01.w1 ||| 0x6000_0000 })], cfg.sdh.pathOh := [(0, pathOhReset ||| 0x4000_0000)], sdh.lanes := [(0, { SdhLane.reset with framer := .sync })] }, { eid := 0, octets := val2 ++ octetsOf 2 (markCrc (val2 ++ [0, 0])), fn := 0, cycle := 0, dIn := 0, dOut := 0 }, by decide +kernel⟩,
    ⟨{ sGroup with align.groups := [(0, { AlignGroup.reset with mode := .verify })] }, 0, by decide +kernel⟩,
    ⟨{ S0 with now := 16000, align.groups := [(0, { AlignGroup.reset with freeSince := some 0 })] }, 0, by decide +kernel⟩,
    by simp⟩

theorem witness_packetRows : ∀ r ∈ packetRows, ∃ s a, r.can s a = true := by
  simp only [packetRows, List.forall_mem_cons]
  exact ⟨⟨sEth, ethIn [] false, by decide +kernel⟩,
    ⟨sEth, ethIn (frame [0x88, 0x08]) true, by decide +kernel⟩,
    ⟨sEth, ethIn (frame [0x88, 0xF7]) true, by decide +kernel⟩,
    ⟨sEth, ethIn (frame [0x08, 0x00]) true, by decide +kernel⟩,
    ⟨sPw { Queue.reset with mode := .play }, 0, by decide +kernel⟩,
    ⟨sPw { Queue.reset with mode := .fill, refFn := 5 }, 0, by decide +kernel⟩,
    ⟨sPw { Queue.reset with mode := .fill }, 0, by decide +kernel⟩,
    ⟨sPw { Queue.reset with winEnded := some 3 }, (0, 3), by decide +kernel⟩,
    ⟨{ sPw { Queue.reset with txFrames := List.replicate 8 [0] } with cfg.pie.hdr := [(0, [1])] }, 0, by decide +kernel⟩,
    ⟨{ sEth with pie.pw := [(0, [[1], [2]])] }, (0, [], [1], [[2]]), by decide +kernel⟩,
    by simp⟩

theorem witness_timingRows : ∀ r ∈ timingRows, ∃ s a, r.can s a = true := by
  simp only [timingRows, List.forall_mem_cons]
  exact ⟨⟨{ S0 with tim.cands := [(104, { Cand.reset with mode := .qualified })], cfg.tim.inputs := [(104, 0xA001_0280_A300_0000)] }, (104, true), by decide +kernel⟩,
    ⟨S0, (0, false), by decide +kernel⟩,
    ⟨{ S0 with cfg.tim.inputs := [(104, 0xA001_0280_A300_0000)] }, (104, 0), by decide +kernel⟩,
    ⟨{ S0 with now := 100000, tim.cands := [(104, { Cand.reset with mode := .qualifying })], cfg.tim.inputs := [(104, 0xA001_0280_A300_0000)] }, 104, by decide +kernel⟩,
    ⟨{ S0 with now := 100000, tim.cands := [(104, { Cand.reset with mode := .hit, noEdge := true })], cfg.tim.inputs := [(104, 0xA001_0280_A300_0000)] }, 104, by decide +kernel⟩,
    ⟨S0, (0, 0), by decide +kernel⟩,
    ⟨{ S0 with now := 1000000000, tim.sys := .acquire, tim.selected := some 104, tim.cands := [(104, { Cand.reset with mode := .qualified })], cfg.tim.inputs := [(104, 0xA001_0280_A300_0000)] }, 104, by decide +kernel⟩,
    ⟨{ S0 with now := 100, tim.sys := .holdover, tim.qlHeld := true }, (), by decide +kernel⟩,
    ⟨{ S0 with now := 1000000, tim.sys := .locked, tim.selected := some 104, cfg.tim.model := .valid, cfg.tim.sys := 0 }, 104, by decide +kernel⟩,
    ⟨{ S0 with now := 28800000, tim.records := [⟨0, 0, 0⟩] }, (0, 0), by decide +kernel⟩,
    ⟨{ S0 with now := 80000000, tim.oscFrom := 0, tim.oscBase := 8000 }, (), by decide +kernel⟩,
    ⟨{ S0 with cfg.tim.inputs := [(104, 0xA001_0280_A100_0000)] }, { refin := 0, fn := 0, cycle := 0, elapsed := 0 }, by decide +kernel⟩,
    ⟨{ S0 with cfg.tim.inputs := [(104, 0xA001_0280_A100_0000)] }, { refin := 0, octets := [], after := 0 }, by decide +kernel⟩,
    ⟨{ S0 with tim.ports := [(0, { PtpPort.reset with mode := .master })] }, (0, 0), by decide +kernel⟩,
    ⟨{ S0 with tim.ports := [(0, { PtpPort.reset with mode := .slave })] }, (0, 0), by decide +kernel⟩,
    ⟨{ S0 with now := 3000, tim.ports := [(0, { PtpPort.reset with mode := .slave })] }, 0, by decide +kernel⟩,
    ⟨{ S0 with now := 600000, tim.goodSince := some 0, cfg.tim.ports := [(0, ptpPortReset)], tim.ports := [(0, { PtpPort.reset with mode := .slave, best := some ⟨6, 0, 0, 0, 1, 0, 0, 0⟩ })] }, (), by decide +kernel⟩,
    ⟨{ S0 with now := 16000, tim.dpll := .locked }, (), by decide +kernel⟩,
    by simp⟩

def val3 : Deferred := ⟨cmd [], 0, 1, .timSys, some (0, [])⟩
def val4 : List Byte := List.replicate 48 0
def val5 : List Byte := [0, 0] ++ octetsOf 2 (craftCrc [0, 0])
theorem witness_portRows : ∀ r ∈ portRows, ∃ s a, r.can s a = true := by
  simp only [portRows, List.forall_mem_cons]
  exact ⟨⟨{ sRun with cmd.ports := [(0, { CmdPort.reset with quietEnd := some 0 })] }, (0, 0), by decide +kernel⟩,
    ⟨{ sRun with cmd.waiting := [waitCmd0] }, (0, [], waitCmd0), by decide +kernel⟩,
    ⟨{ sRun with cmd.arrived := [⟨0, [], .ring⟩] }, (0, [], ⟨0, [], .ring⟩), by decide +kernel⟩,
    ⟨{ sRun with cmd.deferred := [val3] }, (0, 0, val3, val3, 0, []), by decide +kernel⟩,
    ⟨sCp2, mgmtIn [] false, by decide +kernel⟩,
    ⟨sCp2, mgmtIn (frame [0x88, 0xB5]) true, by decide +kernel⟩,
    ⟨{ sCp2 with cfg.tim.ports := [(0, 0x9428_0000_0000_0000)] }, mgmtIn (frame [0x88, 0xF7]) true, by decide +kernel⟩,
    ⟨sCraft, (48, val4 ++ octetsOf 2 (craftCrc val4), []), by decide +kernel⟩,
    ⟨sCraft, (4, [], []), by decide +kernel⟩,
    ⟨sCraft, (), by decide +kernel⟩,
    ⟨{ sCraft with host.craft.spiReply := some [1, 2] }, 100, by decide +kernel⟩,
    ⟨{ sCraft with host.craft.spiReply := some [1, 2] }, 0, by decide +kernel⟩,
    ⟨sCraft, ((val5.flatMap fun b => [nibbleChar (b.toNat / 16), nibbleChar (b.toNat % 16)]), []), by decide +kernel⟩,
    ⟨sCraft, ([0x30], []), by decide +kernel⟩,
    ⟨sCraft, true, by decide +kernel⟩,
    ⟨{ sCraft with host.craft.optState := .quietNoise }, (), by decide +kernel⟩,
    ⟨{ sCraft with host.craft.optReply := some [1] }, [1], by decide +kernel⟩,
    ⟨sRun, true, by decide +kernel⟩,
    by simp⟩

def val6 : State := { sRing 8 0x4800_0000 0 with host.rings := [(8, { ringOf 0x4800_0000 0 with rung := true })], cfg.b.queues := [(0, ⟨0x4000_0000_0000_0000, QueueRec.reset.w1, 0x100⟩)], pie.queues := [(0, { Queue.reset with rxStore := [[1, 2]] })] }
def val7 : Conn := ⟨0x0000_0000_F080_0000, 0x0400_0000_0080_0000⟩
def val8 : Conn := ⟨0xF080_0000_0080_0009, 0x0400_0000_0080_0000⟩
theorem witness_hostRows : ∀ r ∈ hostRows, ∃ s a, r.can s a = true := by
  simp only [hostRows, List.forall_mem_cons]
  exact ⟨⟨sRun, (false, false), by decide +kernel⟩,
    ⟨{ sRun with host.ports := [(0, { HostPort.reset with linkUp := true })] }, (false, true), by decide +kernel⟩,
    ⟨sRun, (false, true), by decide +kernel⟩,
    ⟨{ sRun with host.matrix.locks := [⟨0, 4⟩] }, (0, ⟨0, 4⟩), by decide +kernel⟩,
    ⟨sRun, 0, by decide +kernel⟩,
    ⟨sRing 8 0x4800_0010 0, 8, by decide +kernel⟩,
    ⟨sRing 8 0x4800_0010 0, (8, desc0, 1, []), by decide +kernel⟩,
    ⟨{ sRun with host.rings := [(0, ringOf 0x1800_0000 0), (1, ringOf 0x2800_0000 0)] }, (0, desc0, 1, []), by decide +kernel⟩,
    ⟨sRing 8 0x4000_0000 0, 8, by decide +kernel⟩,
    ⟨val6, (8, [desc0], [1, 2], []), by decide +kernel⟩,
    ⟨{ sRing 8 0x6800_0000 0x0000_0800 with host.rings := [(8, { ringOf 0x6800_0000 0x0000_0800 with rung := true })], cfg.b.fab.conn := [(0, val7)] }, (8, desc0, 8, [], false, (0, val7)), by decide +kernel⟩,
    ⟨{ sRing 8 0x7800_0000 0x0000_0800 with host.rings := [(8, { ringOf 0x7800_0000 0x0000_0800 with rung := true })], cfg.b.fab.conn := [(0, val8)] }, (8, desc0, 8, (0, val8)), by decide +kernel⟩,
    ⟨sRun, (0, 4), by decide +kernel⟩,
    ⟨sChan .running (dma 1 0), (4, 0, [], dma 1 0), by decide +kernel⟩,
    ⟨{ sChan .running (dma 1 1) with host.chans := [(4, { Chan.reset with mode := .running, code := [{ dma 1 1 with w0 := (dma 1 1).w0 ||| 0x0000_0001_0001_0000 }] })] }, (4, 0, [], { dma 1 1 with w0 := (dma 1 1).w0 ||| 0x0000_0001_0001_0000 }), by decide +kernel⟩,
    ⟨sChan .running (dma 2 0), (4, dma 2 0), by decide +kernel⟩,
    ⟨sChan .running (dma 3 3), (4, dma 3 3), by decide +kernel⟩,
    ⟨{ sChan .waiting (dma 3 1) with now := 5 }, (4, dma 3 1), by decide +kernel⟩,
    ⟨sChan .running (dma 4 0), (4, dma 4 0), by decide +kernel⟩,
    by simp⟩

theorem witness_eventRows : ∀ r ∈ eventRows, ∃ s a, r.can s a = true := by
  simp only [eventRows, List.forall_mem_cons]
  exact ⟨⟨{ sRun with ev.staging := [⟨0, 0⟩] }, (⟨0, 0⟩, []), by decide +kernel⟩,
    ⟨{ sRun with host.rings := [(8, { ringOf 0x3800_0000 0 with open_ := some ⟨0, 0, 64, false, [1]⟩ })] }, (0, 8, ⟨0, 0, 64, false, [1]⟩), by decide +kernel⟩,
    ⟨sRun, (0, 4), by decide +kernel⟩,
    ⟨sRun, (0, 4), by decide +kernel⟩,
    ⟨sRun, 0, by decide +kernel⟩,
    ⟨sRun, (0, true), by decide +kernel⟩,
    ⟨sRun, false, by decide +kernel⟩,
    ⟨{ sRun with ev.snapRunning := true }, (), by decide +kernel⟩,
    ⟨sRun, (false, 0), by decide +kernel⟩,
    ⟨sRun, (false, 0), by decide +kernel⟩,
    ⟨sRun, (), by decide +kernel⟩,
    ⟨sRun, 0, by decide +kernel⟩,
    by simp⟩

theorem witness_memoryRows : ∀ r ∈ memoryRows, ∃ s a, r.can s a = true := by
  simp only [memoryRows, List.forall_mem_cons]
  exact ⟨⟨{ sRun with bush.badMapWords := [5] }, (5, false), by decide +kernel⟩,
    ⟨{ sRun with pwr.mode := .gill }, none, by decide +kernel⟩,
    ⟨sRun, (), by decide +kernel⟩,
    ⟨{ sRun with jr.log := [⟨1, 1000000000, sRun.jr.base⟩] }, (), by decide +kernel⟩,
    ⟨{ sRun with jr.compacting := true }, (), by decide +kernel⟩,
    ⟨sRun, (), by decide +kernel⟩,
    ⟨{ sRun with pwr.pfwLow := true }, (), by decide +kernel⟩,
    ⟨sRun, 0, by decide +kernel⟩,
    ⟨sRun, (), by decide +kernel⟩,
    by simp⟩

def val9 : MirrorWait := ⟨1, cmd [], 0, 1, 0, 0, [], 0⟩
theorem witness_pairRows : ∀ r ∈ pairRows, ∃ s a, r.can s a = true := by
  simp only [pairRows, List.forall_mem_cons]
  exact ⟨⟨{ sRun with pair.claimCause := 1 }, (), by decide +kernel⟩,
    ⟨{ sMatePair with pair.mateUp := false }, (), by decide +kernel⟩,
    ⟨{ sRun with pair.readback := true }, (), by decide +kernel⟩,
    ⟨sTok, (), by decide +kernel⟩,
    ⟨sRun, (), by decide +kernel⟩,
    ⟨sMatePair, withCrc (zs 15), by decide +kernel⟩,
    ⟨sMatePair, [], by decide +kernel⟩,
    ⟨sMatePair, (withCrc [0x0B00_0000_0000_0001], none), by decide +kernel⟩,
    ⟨{ sMatePair with pair.waits := [val9] }, val9, by decide +kernel⟩,
    ⟨sMatePair, (0, 0), by decide +kernel⟩,
    ⟨{ sMatePair with pair.wtrEnd := some 0 }, 0, by decide +kernel⟩,
    ⟨{ sTok with pair.hand := some 1, pair.handAgreed := true }, 1, by decide +kernel⟩,
    ⟨{ sTok with pair.hand := some 0, pair.handAgreed := true, pair.handGive := true }, 0, by decide +kernel⟩,
    ⟨{ sRun with pair.hand := some 0, pair.handAgreed := true }, 0, by decide +kernel⟩,
    ⟨{ sRun with pair.bootWaitEnd := some 0 }, 0, by decide +kernel⟩,
    ⟨{ sRun with pair.home := true }, true, by decide +kernel⟩,
    by simp⟩

theorem witness_powerRows : ∀ r ∈ powerRows, ∃ s a, r.can s a = true := by
  simp only [powerRows, List.forall_mem_cons]
  exact ⟨⟨{ sRun with pwr.mode := .entry, pwr.entryEnd := 5 }, (), by decide +kernel⟩,
    ⟨{ sRun with pwr.mode := .entry }, (), by decide +kernel⟩,
    ⟨{ sRun with pwr.mode := .gill, cfg.power.wake3 := 0x8000_0000_0000_0000, pwr.armMgmt := true }, (4, 0), by decide +kernel⟩,
    ⟨{ sRun with pwr.mode := .gill, cfg.power.wake3 := 0x8000_0000_0000_0000 }, (4, 0), by decide +kernel⟩,
    ⟨{ sRun with pwr.mode := .waking 1 }, (0, 0), by decide +kernel⟩,
    ⟨{ sRun with pwr.mode := .waking 2 }, (0, 0), by decide +kernel⟩,
    ⟨{ sRun with pwr.mode := .waking 3 }, (0, 0), by decide +kernel⟩,
    ⟨{ sRun with pwr.mode := .waking 4 }, (0, 0), by decide +kernel⟩,
    ⟨{ sRun with pwr.mode := .waking 5 }, (0, 0), by decide +kernel⟩,
    ⟨{ sRun with pwr.mode := .waking 1 }, (1, 0, 1), by decide +kernel⟩,
    ⟨{ sRun with pwr.mode := .gill, pwr.wakePending := true }, (), by decide +kernel⟩,
    ⟨{ sRun with pwr.mode := .gill }, 5, by decide +kernel⟩,
    ⟨sRun, (32768, 1), by decide +kernel⟩,
    ⟨{ sRun with pwr.avsBusy := true }, 750, by decide +kernel⟩,
    ⟨{ sRun with pwr.avsBusy := true }, (), by decide +kernel⟩,
    ⟨{ sRun with pwr.avsBusy := true, pwr.avsTimeouts := 2 }, (), by decide +kernel⟩,
    ⟨{ sRun with pwr.avsBusy := false }, true, by decide +kernel⟩,
    ⟨{ sRun with pwr.avsBusy := true }, (), by decide +kernel⟩,
    ⟨sRun, (), by decide +kernel⟩,
    ⟨sRun, 600, by decide +kernel⟩,
    ⟨sRun, (), by decide +kernel⟩,
    ⟨{ sRun with pwr.voscLatched := true }, (), by decide +kernel⟩,
    ⟨sRun, (), by decide +kernel⟩,
    ⟨{ sRun with pwr.mode := .gill }, (), by decide +kernel⟩,
    ⟨{ sRun with pwr.oscRunning := false }, (), by decide +kernel⟩,
    by simp⟩

theorem witness_bootRows : ∀ r ∈ bootRows, ∃ s a, r.can s a = true := by
  simp only [bootRows, List.forall_mem_cons]
  exact ⟨⟨sRun, (straps0, flash0, 0, false), by decide +kernel⟩,
    ⟨sRun, (), by decide +kernel⟩,
    ⟨S0, (), by decide +kernel⟩,
    ⟨{ sRun with now := 480000 }, (), by decide +kernel⟩,
    ⟨{ S0 with boot.mode := .hostFetch }, (0, ⟨false, none, []⟩), by decide +kernel⟩,
    ⟨sBoot, (0, ⟨false, none, []⟩, false, false, okImage, ⟨0, 5⟩), by decide +kernel⟩,
    ⟨S0, (), by decide +kernel⟩,
    ⟨S0, 8, by decide +kernel⟩,
    ⟨{ S0 with boot.mode := .hostWait }, (), by decide +kernel⟩,
    ⟨{ sRun with now := 691200000, boot.svn := 5 }, (), by decide +kernel⟩,
    ⟨{ sRun with now := 480000 }, (), by decide +kernel⟩,
    ⟨{ sRun with boot.wdtArmed := true }, false, by decide +kernel⟩,
    ⟨sRun, 0, by decide +kernel⟩,
    ⟨sRun, 0xFE01, by decide +kernel⟩,
    ⟨{ sRun with boot.armed := some 3 }, (1, 0), by decide +kernel⟩,
    ⟨sRun, 0, by decide +kernel⟩,
    ⟨{ sRun with boot.armed := some 5 }, (0, 0), by decide +kernel⟩,
    ⟨{ sTok with boot.armed := some 5, cfg.pair := pairCfgReset ||| 0x8000_0000_0000_0000 }, (1, 0), by decide +kernel⟩,
    ⟨{ sRun with boot.armed := some 6 }, (0, 0, straps0), by decide +kernel⟩,
    ⟨sRun, 0x0001_0000, by decide +kernel⟩,
    ⟨sRun, 0x100, by decide +kernel⟩,
    ⟨{ sRun with boot.armed := some 9 }, (0x100, [7], 0), by decide +kernel⟩,
    ⟨{ sRun with jr.base.cfg.boot.tamper := [(0, 0x8032_0001)] }, 0, by decide +kernel⟩,
    ⟨{ sRun with boot.tamperActive := 1, jr.base.cfg.boot.tamper := [(0, 0x8032_0001)] }, 0, by decide +kernel⟩,
    ⟨sRun, 4, by decide +kernel⟩,
    ⟨{ sLanes with cfg.fram.bank := [(0, some 0x0040_0900)], cfg.b.fab.struct := [(0, 4)] }, (0x0040_0900, []), by decide +kernel⟩,
    ⟨sTrib, (mkEid 0x41 2 0, []), by decide +kernel⟩,
    by simp⟩


/-! Witnesses of the statements that stand by themselves -/

/-- The state of an outcome, or the state after reset. -/
def nextOf : Host.Outcome State Fault Refusal → State
  | .next t => t
  | _ => S0

/-- A list with one change: record 5 is deleted. -/
def list1 : List Byte := [3, 3, 0, 0, 0, 0, 0, 0, 0, 0, 0, 0, 0, 0, 0, 5] ++ List.replicate 16 0
def fetch1 : Cmd := cmd [0x1_0001, 0, 0x887DF0491425B538, 0xD257B70F6A7E1452]

theorem witness_FetchAppends :
    Accepts sOpen fetch1 fetchSpec (fetchBad fetch1) ∧ fetch1.port.val < 2 ∧
      sOpen.namedBushel fetch1 (fld (fetch1.word 0) 15 0) = .inl oneBushel ∧ 32 * fld (fetch1.word 0) 28 16 ≤ list1.length ∧
      (sha256 (list1.take (32 * fld (fetch1.word 0) 28 16))).take 16 = wordOctets (fetch1.word 2) ++ wordOctets (fetch1.word 3) ∧
      sOpen.listFail fetch1 (sOpen.bushelView oneBushel.id) 0 (listEntries (fld (fetch1.word 0) 28 16)
        (list1.take (32 * fld (fetch1.word 0) 28 16))) = .inr [⟨3, 3, 5, [5, 0, 0]⟩] ∧ oneBushel.changes.length + 1 ≤ 4096 := by
  decide +kernel

theorem witness_SwitchProposes :
    Accepts sActive (cmd [0, 10000]) (plainOp 0x0C 0x04 OPR [0, maskOf [(47, 0)]])
      [(!sActive.handInTime (switchFn sActive (cmd [0, 10000])) sActive.fnNat, 1)] ∧
      sActive.pair.hand = none ∧ sActive.pair.mode = .active ∧ sActive.pair.mateUp = true ∧ sActive.pair.peer.healthy = true ∧
      sActive.slotsFull 0 = false := by
  decide +kernel

theorem witness_PowerStateMoves :
    Accepts S0 (cmd [0, 0]) pwrSpec [(decide (fld ((cmd [0, 0]).word 1) 1 0 = 3), 1)] ∧ S0.pwr.goal = none ∧
      decide (S0.pwr.mode = .firkin) = decide (fld ((cmd [0, 0]).word 1) 1 0 = 1) ∧ S0.pwr.mode = .run ∧
      Accepts S0 (cmd [0, 1]) pwrSpec [(decide (fld ((cmd [0, 1]).word 1) 1 0 = 3), 1)] ∧
      decide (S0.pwr.mode = .firkin) ≠ decide (fld ((cmd [0, 1]).word 1) 1 0 = 1) ∧ S0.slotsFull 0 = false := by
  decide +kernel

theorem witness_GillBegins :
    Accepts S0 (cmd [0, 2]) pwrSpec [(decide (fld ((cmd [0, 2]).word 1) 1 0 = 3), 1)] ∧ fld ((cmd [0, 2]).word 1) 1 0 = 2 ∧ S0.pwr.mode = .run ∧
      (S0.paired && S0.pair.token) = false ∧ (S0.bush.list.any fun b => b.scheduled && b.live) = false ∧ S0.tick.copyLeft = 0 ∧
      S0.pwr.pfwLow = false := by
  decide +kernel

/-- An image of no octets, signed with the key 0x1234567 whose hash the fuses hold. -/
def keyX : Nat := 0x088BB9FF22AB291A74C86FC677BA897BAADEE370CC6129B82D170BA3FC26415C
def keyY : Nat := 0x442DA9A716067956D91EAA02B93AD409490E87CD5E758EA6A331A1DEB75BA846
def headerOctets : List Byte :=
  octetsOf 4 0xDA46_5700 ++ octetsOf 2 1 ++ octetsOf 6 1 ++ octetsOf 2 1 ++ octetsOf 2 0 ++ octetsOf 4 0 ++
    octetsOf 32 0xE3B0C44298FC1C149AFBF4C8996FB92427AE41E4649B934CA495991B7852B855 ++ octetsOf 32 keyX ++ octetsOf 32 keyY
def image1 : List Byte :=
  headerOctets ++ octetsOf 32 0x8E48FDE55AB3ADEDB7B1D83BB90578DB291E3EADC6CCA03447047702C5D23559 ++ octetsOf 32 0x23B853B4B3B4E120B55610163A4BC37D87B307E0B65AE585B1AEA6C572D38652 ++ List.replicate 76 0
def sFuses : State := { sRun with ident.keyHash := BitVec.ofNat 256 0x0F8A212D4F085087C3547AAE01E8F656E297A664B1373995BD4E554EFB036244 }
def stage1 : Cmd := cmd [0, 0, 256]

/-- The vendor's signature of the image verifies, as a computation outside the model made it (FIPS 186-4). -/
theorem witness_StageBegins :
    Accepts sFuses stage1 (plainOp 0x0E 0x0B SUP [0, allBits, maskOf [(31, 0)]]) [] ∧ stage1.port.val < 2 ∧ sFuses.boot.flashBusy = false ∧
      (parseImage sFuses.ident.keyHash (image1.take (fld (stage1.word 2) 31 0))).code sFuses.jr.kept.svnMin = 0 ∧ sFuses.slotsFull 0 = false := by
  decide +kernel

theorem witness_CaptureRuns :
    Accepts sRun (cmd (0 :: 1 :: zs 8)) (plainOp 0x0E 0x08 SUP ([0, maskOf [(9, 0)]] ++ List.replicate 8 allBits)) [] ∧ sRun.pair.token = false ∧
      sRun.slotsFull 0 = false := by
  decide +kernel

theorem witness_CheckpointTaken : Accepts S0 (cmd []) (plainOp 0x0B 0x06 OPR []) [] ∧ S0.slotsFull 0 = false := by decide +kernel

/-! Of the checks -/

/-- Tenant 0 with this word 0 of its record. -/
def sTen (w : Word) : State := { S0 with cfg.cmd.tenants := [(0, (w, 0))] }
def rank (n : BitVec 2) (c : Cmd) : Cmd := { c with priv := n }

theorem witness_ClaimIsChecked :
    (rank 3 (cmd [])).wf = true ∧ (rank 3 (cmd [])).rank = 3 ∧
      (cmd []).rank ≠ 3 ∧ tenMaxPriv ((sTen 0x4F00_0000_0000_0000).tenant 0) < (cmd []).rank ∧
      (cmd []).rank ≤ tenMaxPriv ((sTen 0x6E00_0000_0000_0000).tenant 0) ∧ (tenPorts ((sTen 0x6E00_0000_0000_0000).tenant 0) >>> 0) % 2 = 0 ∧
      tenState ((sTen 0xAF00_0000_0000_0000).tenant 0) = 2 ∧ (cmd []).rank ≤ tenMaxPriv ((sTen 0xAF00_0000_0000_0000).tenant 0) ∧
      (tenPorts ((sTen 0xAF00_0000_0000_0000).tenant 0) >>> 0) % 2 = 1 ∧
      ({ S0 with cmd.locked := 1 } : State).cmd.locked.getLsbD 0 = true ∧ (rank 1 (cmd [])).rank ≠ SUP ∧ tenState (S0.tenant 0) ≠ 2 ∧
      (tenPorts (S0.tenant 0) >>> 0) % 2 = 1 ∧ (rank 1 (cmd [])).rank ≤ tenMaxPriv (S0.tenant 0) := by
  decide +kernel

theorem witness_PrivilegeAndFormAreChecked :
    S0.claimFail (rank 0 (cmd [0])) = none ∧ (rank 0 (cmd [0])).rank < OPR ∧ S0.claimFail (inB [0]) = none ∧ (inB [0]).bushel ≠ 0 ∧
      S0.claimFail (cmd []) = none ∧ (cmd []).bushel = 0 ∧ (cmd []).plen < 8 * [idxMask].length ∧ (cmd []).wf = true := by
  decide +kernel

theorem witness_ReservedBitsAreRejected :
    let o := plainOp 1 2 OPR [idxMask]
    let c := cmd [0x100]
    c.wf = true ∧ S0.claimFail c = none ∧ c.formFail o = none ∧ o.masks ≠ [] ∧ c.word 0 &&& ~~~(nth 0 o.masks 0) ≠ 0 := by
  decide +kernel

def sStandby : State := { S0 with cfg.pair := pairCfgReset ||| 0x8000_0000_0000_0000, pair.mode := .standby }

theorem witness_StandbyRefusesChanges :
    let o := setting 1 1 OPR [idxMask, laneCfgMask]
    let c := cmd [0, laneCfgReset]
    c.wf = true ∧ sStandby.claimFail c = none ∧ c.formFail o = none ∧ c.faultFrom o.masks [(decide (39 < c.idx), 0), (laneCfgBad (c.word 1), 1)] 0 = none ∧
      sStandby.isStandby = true ∧ o.cls ≠ 0x0C ∧ o.mirror ≠ 0 := by
  decide +kernel

theorem witness_HeldOpcodesAreRejected : listedOps 3 0 = false ∧ listedOps 3 12 = false ∧ listedOps 2 0x0B = false ∧ listedOps 16 1 = false := by decide

theorem witness_CountingChangesOnlyItsCounters :
    let s : State := { S0 with cfg.ev.counters := [(4, (0x0101_8000_0000_0000, 7))] }
    (s.cfg.ev.counters.all fun e => !s.counts e.1 e.2 0x0101 3 || (decide (e.1 ≠ 4) && decide (e.1 + 1 ≠ 4))) = true ∧ S0.cfg.ev.counters = [] := by
  decide +kernel

/-! Of the rules -/

def sScheduled : State := { sLanes with bush.list := [{ oneBushel with mode := .pending, scheduled := true }] }

theorem witness_NoGillWhileABushelIsScheduled :
    Accepts sScheduled (cmd [0, 2]) pwrSpec [(decide (fld ((cmd [0, 2]).word 1) 1 0 = 3), 1)] ∧ fld ((cmd [0, 2]).word 1) 1 0 = 2 ∧
      (sScheduled.bush.list.any fun b => b.scheduled && b.live) = true ∧ ({ S0 with tick.copyLeft := 8 } : State).tick.copyLeft ≠ 0 ∧
      Accepts { S0 with tick.copyLeft := 8 } (cmd [0, 2]) pwrSpec [(decide (fld ((cmd [0, 2]).word 1) 1 0 = 3), 1)] := by
  decide +kernel

theorem witness_LaneActivity :
    let th := 2 ^ (fld (sLanes.laneCfg 0) 34 32 + 2)
    sLanes.laneRate 0 ≠ 0 ∧ 8 ≤ (List.replicate 9 th).length ∧ (∀ w ∈ lastN 8 (List.replicate 9 th), th ≤ w) ∧
      ∀ w ∈ lastN 8 (List.replicate 8 (th - 1)), w < th := by
  decide +kernel

theorem witness_FarLoopbackExcludesTheGenerator :
    forceFail (cmd [0, 2]) = none ∧
      Accepts { S0 with line.lanes := [(0, { Lane.reset with gen := 1 })] } (cmd [0, 2]) (plainOp 1 4 OPR [idxMask, maskOf [(8, 8), (1, 0)]])
        [(decide (39 < (cmd [0, 2]).idx), 0), (decide (fld ((cmd [0, 2]).word 1) 1 0 = 3), 1)] ∧
      Accepts S0 (cmd [0, 1]) (plainOp 1 4 OPR [idxMask, maskOf [(8, 8), (1, 0)]])
        [(decide (39 < (cmd [0, 1]).idx), 0), (decide (fld ((cmd [0, 1]).word 1) 1 0 = 3), 1)] ∧
      Accepts { S0 with line.lanes := [(0, { Lane.reset with loop := 2 })] } (cmd [0, 4]) (plainOp 1 5 OPR [idxMask, maskOf [(8, 8), (6, 4), (2, 0)]])
        [(decide (39 < (cmd [0, 4]).idx), 0), (decide (4 < fld ((cmd [0, 4]).word 1) 2 0 ∨ 4 < fld ((cmd [0, 4]).word 1) 6 4), 1)] ∧
      fld ((cmd [0, 4]).word 1) 2 0 ≠ 0 := by
  decide +kernel

theorem witness_MateLinkNeedsFourLanes :
    sMatePair.mateLinkUp = true ∧ S0.mateOn = true ∧ S0.mate 3 ≠ { S0.mate 3 with locked := true } := by
  decide +kernel

def pathOh0 : Word := pathOhReset
def sSym : State :=
  { sConn with cfg.b.fab.conn := [(0, { conn01 with w1 := conn01.w1 ||| 0x6000_0000 })], cfg.sdh.pathOh := [(0, pathOhReset ||| 0x4000_0000)] }

theorem witness_ThresholdsAndMarkPositions :
    let o := setting 2 1 OPR [idxMask, maskOf [(55, 16), (11, 8), (3, 0)]]
    let p := setting 2 5 OPR [eidMask, maskOf [(47, 30)]]
    let c := cmd [39, 0x0000_0000_0000_0303]
    let d := cmd [0, 0]
    let e := cmd [0, pathOhReset]
    c.formFail o = none ∧ c.reservedFrom o.masks 0 = none ∧ c.idx ≤ 39 ∧ sdExpOh (c.word 1) ≤ sfExpOh (c.word 1) ∧
      d.formFail p = none ∧ d.reservedFrom p.masks 0 = none ∧ badPathEid d.eid = false ∧ sdExpPath (d.word 1) ≤ sfExpPath (d.word 1) ∧
      e.faultFrom p.masks (pathOhBad sSym e) 0 = none ∧ sSym.pairFail p = none ∧ markPosOf (sSym.pathOh e.eid) ≠ markPosOf (e.word 1) ∧
      sSym.either (fun b => b.marksHeld e.eid) = true ∧ sSym.claimFail e = none := by
  decide +kernel

def fullBushel : Bushel := { oneBushel with changes := List.replicate 4096 ⟨3, 3, 5, [5]⟩ }
def sFull : State := { sLanes with bush.list := [fullBushel], bush.lastId := 1 }
def delForm : ChangeForm := { priv := TEN, masks := [cidMask], bad := [], owners := [0], change := ⟨3, 3, 5, [5, 0]⟩, data := [] }

theorem witness_ABushelHolds4096Changes :
    (Instr.connDel, 3, 3) ∈ changeCmds ∧ sOpen.changeForm (sOpen.bushelView 1) (inB [5]) 3 3 = some delForm ∧
      Accepts sOpen (inB [5]) { cls := 3, op := 3, priv := TEN, masks := [cidMask], change := true } [] ∧ (inB [5]).ownsAll [0] = none ∧
      sOpen.namedBushel (inB [5]) 1 = .inl oneBushel ∧ oneBushel.changes.length < 4096 ∧ sFull.namedBushel (inB [5]) 1 = .inl fullBushel ∧
      4096 ≤ fullBushel.changes.length :=
  ⟨by simp [changeCmds], rfl, by decide +kernel, by decide +kernel, by decide +kernel, by decide +kernel, rfl, Nat.le_of_eq List.length_replicate.symm⟩

theorem witness_ABushelHolds4096Changes_commit :
    let c := cmd [1, 0]
    let o : OpSpec := { cls := 4, op := 2, priv := TEN, masks := [maskOf [(17, 0)], maskOf [(47, 0)]], mirror := if commitMode c = 2 then 0 else 1 }
    Accepts sOpen c o [(decide (commitMode c = 3), 0), (decide (commitMode c ≠ 1) && decide (c.word 1 ≠ 0), 1)] ∧
      named { sLanes with bush.list := [{ oneBushel with oversize := true }] } c = some { oneBushel with oversize := true } ∧
      named { sLanes with bush.list := [{ oneBushel with changes := [] }] } c = some { oneBushel with changes := [] } := by
  decide +kernel

def sMode (m : BushelMode) : State := { sLanes with bush.list := [{ oneBushel with mode := m }] }

theorem witness_CancelDiscardsABushel :
    ∀ m ∈ [BushelMode.queued, .pending, .restored, .open_, .loading, .loaded, .flipped, .settled],
      (sMode m).bushel 1 = some { oneBushel with mode := m } ∧ oneBushel.owner = (cmd [1]).t ∧
        Accepts (sMode m) (cmd [1]) { cls := 4, op := 3, priv := TEN, masks := [bushelMask], mirror := if m = .open_ then 0 else 2 } [] := by
  decide +kernel

theorem witness_CommandPortSettings :
    let o := setting 0 5 SUP [maskOf [(1, 0)], maskOf [(27, 8), (1, 0)]]
    let w := mkWord [(27, 16, 60), (15, 8, 5)]
    let c := cmd [0, w]
    let d := { cmd [1, w] with port := 1 }
    let e := cmd [3, setFlag (mkWord [(27, 16, 3600), (15, 8, 1)]) 0 true]
    (S0.claimFail c = none ∧ c.formFail o = none ∧ c.reservedFrom o.masks 0 = none ∧ flag (c.word 1) 0 = false ∧ fld (c.word 0) 1 0 = 0) ∧
      (S0.claimFail d = none ∧ d.formFail o = none ∧ d.reservedFrom o.masks 0 = none ∧ flag (d.word 1) 0 = false ∧ fld (d.word 0) 1 0 = d.port.val) ∧
      (S0.claimFail e = none ∧ e.formFail o = none ∧ e.reservedFrom o.masks 0 = none ∧ flag (e.word 1) 0 = true ∧ fld (e.word 1) 27 16 ≤ 3600 ∧
        1 ≤ fld (e.word 1) 15 8) ∧ S0.pairFail o = none ∧ S0.journalFull 2 = false := by
  decide +kernel

theorem witness_MatrixCtrlIsWrittenOnce :
    writeLands S0 0x6000 (regW 1 0x3D) ∧ S0.host.matrix.ctrlLocked = false ∧ fld (regW 1 0x3D).value 3 2 = 3 ∧
      writeLands { S0 with host.matrix.ctrlLocked := true } 0x6000 (regW 1 0x3D) := by
  unfold writeLands; decide +kernel

theorem witness_ForeignDoorbellsAreDenied :
    writeLands (sRing 0 0x0800_0000 0) 0x100 (regW 5 3) ∧ ((sRing 0 0x0800_0000 0).ring 0).en = true ∧ hostOf 5 = some true ∧
      ((sRing 0 0x0800_0000 0).ring 0).portB = false ∧ writeLands sRun 0x1FC (regW 4 3) ∧ (sRun.ring 63).en = false := by
  unfold writeLands; decide +kernel

theorem witness_StagingHoldsSixteenRecords :
    16 ≤ ({ S0 with ev.staging := List.replicate 16 ⟨0, 0⟩ } : State).ev.staging.length ∧
      ({ S0 with ev.staging := List.replicate 15 ⟨0, 0⟩ } : State).ev.staging.length < 16 := by
  decide

theorem witness_ReplyCacheKeepsTheLast64 :
    (S0.port 0).cache.length ≤ 64 ∧ ({ cmd [] with key := some 1, seq := 5 } : Cmd).key.isSome = true ∧ rep0.data.length ≤ 32 := by
  decide +kernel

theorem witness_WritesReachTheirOctetsAlone :
    8 * 5 + 8 ≤ 2 ^ 32 ∧ (S0.mem.injects.any fun i => decide (i.store = 0) && decide (i.addr = 5)) = false ∧ S0.memWf = true := by
  decide +kernel

theorem witness_EccOutcomes :
    let full (en : List Bool) : Bool := decide (WriteKind.plain = .plain) && (List.range 8).all fun i => nth false en i
    full (List.replicate 8 true) = true ∧ full [true] = false ∧ (S0.setEcc 0 5 .poison).ecc 0 5 = .poison ∧ S0.ecc 0 5 = .clean := by
  decide +kernel

theorem witness_PacketsRoundTrip :
    let c := { cmd [1, 2, 3] with plen := 21, words := [1, 2, 0xAABB_CCDD_EE00_0000] }
    c.wf = true ∧ c.slot = false ∧ c.key = none := by
  decide +kernel

theorem witness_EveryStepIsSafe :
    let s : State := { S0 with pending := [.echo (cmd [0])] }
    s.queueWf = true ∧ s.memWf = true := by
  decide +kernel

theorem witness_FnIsReadAsAPair : S0.regReadable 0 0x10 = true ∧ ({ S0 with boot.mode := .running } : State).regReadable 4 0x10 = true ∧ S0.regReadable 0 0x28 = true ∧ ({ S0 with boot.mode := .running } : State).regReadable 4 0x28 = true := by
  decide +kernel

/-! Ill-formed commands -/

/-- A parameter area that disagrees with PLEN stops a packet's meaning (R376): three octets in no word, and none in one. -/
theorem test_wf_length : ({ cmd [] with plen := 3, words := [] } : Cmd).wf = false ∧ ({ cmd [] with plen := 0, words := [0] } : Cmd).wf = false := by
  decide

/-- A PLEN above the longest packet. -/
theorem test_wf_plen : ({ cmd [] with plen := 4065, words := zs 510 } : Cmd).wf = false := by decide +kernel

theorem test_wf_instr : (Instr.echo { cmd [] with plen := 3, words := [] }).wf = false ∧ (Instr.frameTick ⟨[], [], [], [], [], [], []⟩).wf = true := by
  decide

theorem test_illFormed_faults : exec (.echo { cmd [] with plen := 3, words := [] }) S0 = .fault .illFormed := rfl

/-! Worked values -/

/-- SHA-256 of "abc" (FIPS 180-4). -/
theorem test_sha256 : (sha256 [0x61, 0x62, 0x63]).take 4 = [0xBA, 0x78, 0x16, 0xBF] := by decide +kernel

/-- A step of the queue. -/
theorem test_step_front : step { S0 with pending := [.echo { cmd [] with plen := 3, words := [] }] } = .fault .illFormed := rfl

end Sys2Proof.Tests
end

section
/-!
SUPPORT. What the operations that answer a command, raise an event or count leave alone: the works of the block (`sameWorks`).
-/
namespace Sys2Proof.Machine

open Sys2Proof.Claims

/-- The state with everything a reply, an event or a count may change taken out: what is left are the works that `sameWorks` speaks of. -/
def State.works (s : State) : State :=
  { s with outs := [], cmd := .reset, host := .reset, ev := .reset, pair := .reset, jr := .fresh }

theorem sameWorks_iff {s t : State} : sameWorks s t ↔ t.works = s.works := by
  simp [sameWorks, State.works]

theorem State.pwr_of_works {s t : State} (h : t.works = s.works) : t.pwr = s.pwr :=
  (congrArg State.pwr h :)

theorem State.tick_of_works {s t : State} (h : t.works = s.works) : t.tick = s.tick :=
  (congrArg State.tick h :)

theorem State.foldl_works {α : Type} {f : State → α → State} (hf : ∀ s a, (f s a).works = s.works) (l : List α) (s : State) :
    (l.foldl f s).works = s.works :=
  foldl_keeps (fun t : State => t.works = s.works) (fun t a h => (hf t a).trans h) l rfl

section
variable (s : State)

/-! Plain updates -/

@[simp] theorem State.emit_works (o : Out) : (s.emit o).works = s.works := rfl
@[simp] theorem State.setTarget_works (t : Nat) (x : EvicTarget) : (s.setTarget t x).works = s.works := rfl
@[simp] theorem State.setCounter_works (i : Nat) (c : Counter) : (s.setCounter i c).works = s.works := rfl
@[simp] theorem State.setPort_works (n : Nat) (p : CmdPort) : (s.setPort n p).works = s.works := rfl
@[simp] theorem State.logAuth_works (p : Fin 4) (st : Nat) (seq : BitVec 32) (tid : BitVec 12) (priv : BitVec 2) :
    (s.logAuth p st seq tid priv).works = s.works := by simp only [State.works, State.logAuth]
@[simp] theorem State.reserve_works (t : Nat) (slot : Bool) (k : Key) (r : BitVec 32) : (s.reserve t slot k r).works = s.works := rfl
@[simp] theorem State.mirror_works (type : Nat) (body : List Word) : (s.mirror type body).works = s.works := rfl
@[simp] theorem State.awaitMate_works (c : Cmd) (cls op st d : Nat) (data : List Word) :
    (s.awaitMate c cls op st d data).works = s.works := rfl

/-! Events -/

@[simp] theorem State.stage_works (r : EvRec) : (s.stage r).works = s.works := by
  unfold State.stage; split <;> rfl

@[simp] theorem State.sendVector_works (b : Bool) (v : Nat) : (s.sendVector b v).works = s.works := by
  unfold State.sendVector; dsimp only; split <;> rfl

@[simp] theorem State.notifyOne_works (t : Nat) : (s.notifyOne t).works = s.works := by
  unfold State.notifyOne
  dsimp only
  split
  · rfl
  · split
    · rfl
    · split
      · rfl
      · split <;> simp

@[simp] theorem State.notify_works : s.notify.works = s.works := by simp [State.notify]

@[simp] theorem State.fire_works (src : Nat) : (s.fire src).works = s.works := by
  unfold State.fire
  dsimp only
  split
  · rfl
  · split
    · simp
    · exact State.notify_works _

@[simp] theorem State.raise_works (e : Event) : (s.raise e).works = s.works := by simp [State.raise]

@[simp] theorem State.raiseIf_works (b : Bool) (e : Event) : (s.raiseIf b e).works = s.works := by
  cases b <;> simp [State.raiseIf]

/-! Counters -/

@[simp] theorem State.addCounter_works (i n : Nat) : (s.addCounter i n).works = s.works := by
  unfold State.addCounter
  dsimp only
  split
  · split <;> simp
  · split <;> simp

@[simp] theorem State.count_works (sel obj n : Nat) : (s.count sel obj n).works = s.works := by
  unfold State.count
  split
  · rfl
  · exact State.foldl_works (fun t e => by split <;> simp) _ s

@[simp] theorem State.filterAccess_works (m t off : Nat) (write : Bool) (priv : Option Nat) :
    (s.filterAccess m t off write priv).works = s.works :=
  State.foldl_works (fun t x => by split <;> simp) _ s

/-! Replies -/

@[simp] theorem State.silent_works (n : Nat) : (s.silent n).works = s.works := by simp [State.silent]

@[simp] theorem State.countBadLength_works (n : Nat) : (s.countBadLength n).works = s.works := by simp [State.countBadLength]

@[simp] theorem State.releaseTo_works (port : Nat) (ret : RetPath) : (s.releaseTo port ret).works = s.works := by
  cases ret <;> rfl

@[simp] theorem State.deliver_works (r : Reply) : (s.deliver r).works = s.works := by
  unfold State.deliver
  split
  · split <;> rfl
  · rfl
  · split <;> rfl

@[simp] theorem State.send_works (r : Reply) : (s.send r).works = s.works := by
  unfold State.send
  dsimp only
  split
  · simp
  · split <;> simp

@[simp] theorem State.cache_works (c : Cmd) (r : Reply) : (s.cache c r).works = s.works := by
  unfold State.cache; split <;> rfl

@[simp] theorem State.respond_works (c : Cmd) (cls op st d : Nat) (data : List Word) : (s.respond c cls op st d data).works = s.works := by
  unfold State.respond
  dsimp only
  simp only [apply_ite State.works, State.release, State.releaseTo_works, State.send_works, State.cache_works, State.raise_works,
    State.logAuth_works, State.countBadLength_works, ite_self]

/-- A reply, whatever its status, leaves the works alone (R399, R409, R519). -/
@[simp] theorem State.answer_works (c : Cmd) (cls op st d : Nat) (data : List Word) : (s.answer c cls op st d data).works = s.works := by
  unfold State.answer
  dsimp only
  split
  · exact s.respond_works c cls op st d data
  · simp only [apply_ite State.works, State.respond_works, State.awaitMate_works, State.mirror_works, State.reserve_works, ite_self]

@[simp] theorem State.answer_pwr (c : Cmd) (cls op st d : Nat) (data : List Word) : (s.answer c cls op st d data).pwr = s.pwr :=
  State.pwr_of_works (s.answer_works c cls op st d data)

@[simp] theorem State.filterAccess_tick (m t off : Nat) (write : Bool) (priv : Option Nat) : (s.filterAccess m t off write priv).tick = s.tick :=
  State.tick_of_works (s.filterAccess_works m t off write priv)

end

end Sys2Proof.Machine
end

section
/-!
PROOFS. What reset leaves (O2).
-/
namespace Sys2Proof.Machine

/-- R412: the settings of every command port. -/
@[simp] theorem State.reset_portCfg (n : Nat) : State.reset.portCfg n = ⟨true, 16, 10⟩ := rfl

/-- R475: no counter has counted. -/
@[simp] theorem State.reset_counter (i : Nat) : State.reset.counter i = Counter.reset := rfl

/-- R435: error mode. -/
theorem State.reset_hangMode : State.reset.hangMode = false := by decide

/-- R435: the host privilege of both ports. -/
theorem State.reset_hostPriv (portB : Bool) : State.reset.hostPriv portB = SUP := by cases portB <;> decide

/-- Settles O2: every table is empty at reset, so each look-up gives its reset value, and the other parts stand in the reset records. -/
theorem resetState : Obligations.ResetState :=
  ⟨rfl, rfl, rfl, State.reset_portCfg, State.reset_hangMode, State.reset_hostPriv false, State.reset_hostPriv true, rfl, State.reset_counter,
    rfl, rfl, rfl, rfl, rfl⟩

end Sys2Proof.Machine
end

section
/-!
PROOFS. FN and LAST_FLIP are read as pairs (O43): the read of a low half latches the high half, and the read of the high half answers the latch.
-/
namespace Sys2Proof.Machine

/-- A register that answers a read of a master is read after the access is filtered (R429, R471). -/
theorem State.readReg_readable {s : State} {m off : Nat} {read : State → Half × State} (h : s.regReadable m off = true) :
    s.readReg m off true read =
      State.emit (read (s.filterAccess m 6 off false none)).2 (.regRead ((read (s.filterAccess m 6 off false none)).1.setWidth 64)) := by
  simp only [State.regReadable, Bool.and_eq_true, Bool.not_eq_true'] at h
  obtain ⟨⟨hlive, hhole⟩, hperm⟩ := h
  simp only [State.readReg, hlive, hhole, hperm, Bool.not_true, Bool.and_self, Bool.false_eq_true, if_false]

/-- A field of at most 16 bits is not cut short in a register's high half. -/
theorem setWidth_ofNat_fld {n : Nat} (w : BitVec n) {hi lo : Nat} (h : hi + 1 - lo ≤ 16) :
    (BitVec.ofNat 16 (fld w hi lo)).setWidth 32 = BitVec.ofNat 32 (fld w hi lo) := by
  have hlt : fld w hi lo < 2 ^ 16 :=
    Nat.lt_of_lt_of_le (Nat.mod_lt _ (Nat.two_pow_pos _)) (Nat.pow_le_pow_right (by decide) h)
  apply BitVec.eq_of_toNat_eq
  rw [BitVec.toNat_setWidth, BitVec.toNat_ofNat, BitVec.toNat_ofNat, Nat.mod_eq_of_lt hlt]

/-- FN_HI answers the latch (R39). -/
theorem State.regRead_fnHi (s : State) : s.regRead 0x14 = (s.tick.fnHi.setWidth 32, s) := rfl

/-- LAST_FLIP_HI answers the latch (R205). -/
theorem State.regRead_lastFlipHi (s : State) : s.regRead 0x2C = (s.tick.lastFlipHi.setWidth 32, s) := rfl

theorem exec_fnLoRead (m : BitVec 3) (s : State) : exec (.fnLoRead m) s = .next (s.readReg m.toNat 0x10 true State.readFnLo) := rfl

theorem exec_lastFlipLoRead (m : BitVec 3) (s : State) :
    exec (.lastFlipLoRead m) s = .next (s.readReg m.toNat 0x28 true State.readLastFlipLo) := rfl

/-- Settles O43: the latch is taken from the FN of the low read, and a later FN does not reach it. -/
theorem fnIsReadAsAPair : Obligations.FnIsReadAsAPair := by
  intro s m later
  refine ⟨fun h => ⟨_, exec_fnLoRead m s, ?_, ?_⟩, fun h => ⟨_, exec_lastFlipLoRead m s, ?_, ?_⟩⟩
  · simp [State.readReg_readable h, State.readFnLo, State.emit]
  · simp [State.readReg_readable h, State.readFnLo, State.regRead_fnHi, setWidth_ofNat_fld]
  · simp [State.readReg_readable h, State.readLastFlipLo, State.emit]
  · simp [State.readReg_readable h, State.readLastFlipLo, State.regRead_lastFlipHi, setWidth_ofNat_fld]

end Sys2Proof.Machine
end

section
/-!
PROOFS. No Gill state while a bushel is scheduled or a copy-forward runs (O45).
-/
namespace Sys2Proof.Machine

open Sys2Proof.Claims

/-- One check that fails refuses. -/
theorem unlessFail_of_fails {s : State} {b : Bool} {st d : Nat} {k : Answer} (h : b = true) : unlessFail s [(b, st, d)] k = refuse st d s := by
  simp [unlessFail, firstFail, h]

/-- PWR_STATE to the Gill state comes to its refusal alone: the power state stays as it was, so no entry begins (R50, R543). -/
theorem State.pwrState_gill_refused {s : State} {c : Cmd} (h : Accepts s c pwrSpec [(decide (fld (c.word 1) 1 0 = 3), 1)])
    (hgill : fld (c.word 1) 1 0 = 2)
    (hbusy : (s.bush.list.any fun b => b.scheduled && b.live) = true ∨ s.tick.copyLeft ≠ 0) :
    s.pwrState c = s.answer c 0x0D 0x01 stState 0 [] := by
  unfold State.pwrState
  extract_lets v spec r
  have hr : r = s.answer c 0x0D 0x01 stState 0 [] := by
    refine runOp_no (o := pwrSpec) h rfl ((if_pos hgill).trans (unlessFail_of_fails ?_))
    rcases hbusy with hsched | hcopy
    · simp [hsched]
    · simp [hcopy]
  rw [hr, State.answer_pwr, if_neg (fun ⟨hin, hout⟩ => hout hin)]

/-- Settles O45, by the refusal of PWR_STATE. -/
theorem noGillWhileABushelIsScheduled : Obligations.NoGillWhileABushelIsScheduled := fun _ _ h hgill hbusy =>
  (exec_pwrState h.1).trans (congrArg _ (State.pwrState_gill_refused h hgill hbusy))

end Sys2Proof.Machine
end

section
/-!
PROOFS. Lane activity (O46): what the detector declares after eight windows, and what follows from it.
-/
namespace Sys2Proof.Machine

@[simp] theorem length_lastN {α : Type} (n : Nat) (l : List α) : (lastN n l).length = min n l.length := by
  rw [lastN, List.length_drop]; omega

/-- ACT_TH of a lane, in transitions of a window (Table 3.2). -/
def State.actTh (s : State) (n : Nat) : Nat := 2 ^ (fld (s.laneCfg n) 34 32 + 2)

/-- A lane is declared active or inactive, with LANE_ACTIVITY where that is a change (R63). -/
def State.declareActive (s : State) (n : Nat) (a : Bool) : State :=
  (s.setLane n { s.lane n with active := a }).raiseIf ((s.lane n).active != a) { src := 0x033, clr := !a, code := a.toNat, obj := n }

/-- A lane declared inactive in the Gill state is armed to wake the device (R549). -/
def State.armQuiet (s : State) (n : Nat) : State :=
  if s.pwr.mode = .gill then { s with pwr.armLanes := setFlag s.pwr.armLanes n true } else s

/-- The detector judges eight windows of a lane that has a rate or is to wake the device (R59, R63). -/
theorem exec_laneActivity {s : State} {n : Fin 40} {windows : List Nat} (hruns : s.laneRate n.val ≠ 0 ∨ s.laneWakes n.val = true)
    (hlen : 8 ≤ windows.length) :
    exec (.laneActivity n windows) s = .next
      (if ∀ w ∈ lastN 8 windows, s.actTh n.val ≤ w then s.declareActive n.val true
      else if ∀ w ∈ lastN 8 windows, w < s.actTh n.val then (s.declareActive n.val false).armQuiet n.val
      else s) := by
  have hlast : (lastN 8 windows).length = 8 := by rw [length_lastN]; omega
  have hon : (decide (s.laneRate n.val ≠ 0) || s.laneWakes n.val) = true := by
    rw [Bool.or_eq_true, decide_eq_true_eq]; exact hruns
  refine congrArg Host.Outcome.next ((if_neg ?judged).trans
    (ite_congr ?reach (fun _ => if_neg ?awake) fun _ => ite_congr ?fall (fun _ => ite_congr ?gill (fun _ => rfl) fun _ => rfl) fun _ => rfl))
  case judged => simp only [hlast, hon, Nat.lt_irrefl, decide_false, Bool.not_true, Bool.or_self, Bool.false_eq_true, not_false_eq_true]
  case reach => simp only [List.all_eq_true, decide_eq_true_eq, State.actTh]
  case awake => simp only [Bool.not_true, Bool.and_false, Bool.false_eq_true, not_false_eq_true]
  case fall => simp only [List.all_eq_true, decide_eq_true_eq, State.actTh]
  case gill => simp only [State.declareActive, Bool.not_false, Bool.and_true, decide_eq_true_eq]

/-- Eight windows do not both reach a threshold and fall below it. -/
theorem not_reach_of_fall {windows : List Nat} {th : Nat} (hlen : 8 ≤ windows.length) (hfall : ∀ w ∈ lastN 8 windows, w < th) :
    ¬ ∀ w ∈ lastN 8 windows, th ≤ w := by
  have hpos : 0 < (lastN 8 windows).length := by rw [length_lastN]; omega
  obtain ⟨w, hw⟩ := List.exists_mem_of_length_pos hpos
  exact fun hreach => absurd (hfall w hw) (Nat.not_lt.2 (hreach w hw))

/-- Settles O46, by the two declarations of the detector. -/
theorem laneActivity : Obligations.LaneActivity := by
  intro s n windows hruns hlen th l down
  rw [exec_laneActivity hruns hlen]
  constructor
  · intro hreach
    have hreach' : ∀ w ∈ lastN 8 windows, s.actTh n.val ≤ w := hreach
    rw [if_pos hreach', State.declareActive, Bool.bne_true]; rfl
  · intro hfall
    have hfall' : ∀ w ∈ lastN 8 windows, w < s.actTh n.val := hfall
    rw [if_neg (not_reach_of_fall hlen hfall'), if_pos hfall', State.declareActive, Bool.bne_false]; rfl

end Sys2Proof.Machine
end

section
/-!
PROOFS. A far loopback and a generator on one lane (O47): the rule of R72 in LANE_LOOP and in LANE_PRBS.
-/
namespace Sys2Proof.Machine

open Sys2Proof.Claims

/-- LANE_LOOP of a far loopback is refused on a lane whose generator runs (R72). -/
theorem State.laneLoop_far_refused {s : State} {c : Cmd} (hforce : forceFail c = none)
    (h : Accepts s c (plainOp 1 4 OPR [idxMask, maskOf [(8, 8), (1, 0)]]) [(decide (39 < c.idx), 0), (decide (fld (c.word 1) 1 0 = 3), 1)])
    (hfar : fld (c.word 1) 1 0 = 2) (hgen : (s.lane c.idx).gen ≠ 0) : s.laneLoop c = s.answer c 1 4 stState 0 [] := by
  dsimp only [State.laneLoop]
  exact runOp_no h hforce (if_pos (by simp only [decide_eq_true hfar, decide_eq_true hgen, Bool.and_self, Bool.or_true]))

/-- LANE_LOOP of a near loopback is done, whatever the generator does (R72), and needs no force (R71). -/
theorem State.laneLoop_near {s : State} {c : Cmd} (hforce : forceFail c = none)
    (h : Accepts s c (plainOp 1 4 OPR [idxMask, maskOf [(8, 8), (1, 0)]]) [(decide (39 < c.idx), 0), (decide (fld (c.word 1) 1 0 = 3), 1)])
    (hnear : fld (c.word 1) 1 0 = 1) :
    s.laneLoop c = (s.setLane c.idx { s.lane c.idx with loop := 1 }).finish c
      (plainOp 1 4 OPR [idxMask, maskOf [(8, 8), (1, 0)]]) stOk [] := by
  dsimp only [State.laneLoop]
  exact runOp_ok h hforce (by simp [hnear, State.raiseIf]) (.inl rfl)

/-- LANE_PRBS of a generator is refused on a lane in far loopback (R72). -/
theorem State.lanePrbs_gen_refused {s : State} {c : Cmd} (hforce : forceFail c = none)
    (h : Accepts s c (plainOp 1 5 OPR [idxMask, maskOf [(8, 8), (6, 4), (2, 0)]])
      [(decide (39 < c.idx), 0), (decide (4 < fld (c.word 1) 2 0 ∨ 4 < fld (c.word 1) 6 4), 1)])
    (hgen : fld (c.word 1) 2 0 ≠ 0) (hfar : (s.lane c.idx).loop = 2) : s.lanePrbs c = s.answer c 1 5 stState 0 [] := by
  dsimp only [State.lanePrbs]
  exact runOp_no h hforce (if_pos (by simp only [decide_eq_true hgen, decide_eq_true hfar, Bool.and_self, Bool.or_true]))

/-- Settles O47, by the two refusals and the near loopback. -/
theorem farLoopbackExcludesTheGenerator : Obligations.FarLoopbackExcludesTheGenerator := by
  intro s c hforce loopMasks genMasks loop gen
  refine ⟨fun h => ⟨fun hfar hgen => ?_, fun hnear => ?_⟩, fun h hgen hfar => ?_⟩
  · rw [exec_laneLoop h.1, State.laneLoop_far_refused hforce h hfar hgen]
  · rw [exec_laneLoop h.1, State.laneLoop_near hforce h hnear]
  · rw [exec_lanePrbs h.1, State.lanePrbs_gen_refused hforce h hgen hfar]

end Sys2Proof.Machine
end

section
/-!
PROOFS. The mate link needs its four lanes (O48).
-/
namespace Sys2Proof.Machine

/-- R76: the mate block is on and every lane is locked, identified and deskewed. -/
theorem State.mateLinkUp_iff {s : State} :
    s.mateLinkUp = true ↔
      s.mateOn = true ∧ ∀ n < 4, (s.mate n).locked = true ∧ (s.mate n).identified = true ∧ (s.mate n).deskewed = true := by
  simp [State.mateLinkUp, and_assoc]

/-- What a mate lane's receiver reports of it; its maintenance state stays. -/
def MateLane.reported (old m : MateLane) : MateLane :=
  { old with locked := m.locked, identified := m.identified, deskewed := m.deskewed, partner := m.partner, inverted := m.inverted }

/-- MATE_LANE_CHANGE of a lane that changes while the mate block is on raises its event, and the pairing follows (R76). -/
theorem exec_mateLaneChange {s : State} {n : Fin 4} {m : MateLane} (hon : s.mateOn = true)
    (hnew : s.mate n.val ≠ (s.mate n.val).reported m) :
    exec (.mateLaneChange n m) s =
      .next (State.raise { s with line.mates := s.line.mates.put MateLane.reset n.val ((s.mate n.val).reported m) }
        { src := 0x034, obj := n.val }).mateFollow :=
  congrArg Host.Outcome.next (if_neg (by simpa [hon, MateLane.reported] using hnew))

/-- Settles O48, by the conditions of the link and the lane change. -/
theorem mateLinkNeedsFourLanes : Obligations.MateLinkNeedsFourLanes :=
  ⟨fun _ hup => (State.mateLinkUp_iff.1 hup).2, fun _ _ _ hon hnew => exec_mateLaneChange hon hnew⟩

end Sys2Proof.Machine
end

section
/-!
PROOFS. Thresholds and mark positions (O49): the two refusals of R118.
-/
namespace Sys2Proof.Machine

open Sys2Proof.Claims

/-- No word has a reserved bit set where no word is read. -/
theorem Cmd.reservedFrom_nil (c : Cmd) (start : Nat) : c.reservedFrom [] start = none := rfl

/-- Of a command with no reserved bit set and a sound word 0, a value fault of word 1 is the first fault. -/
theorem Cmd.faultFrom_word1 {c : Cmd} {ms : List Word} {bad0 bad1 : Bool} (hres : c.reservedFrom ms 0 = none) (h0 : bad0 = false)
    (h1 : bad1 = true) : c.faultFrom ms [(bad0, 0), (bad1, 1)] 0 = some 1 := by
  simp [Cmd.faultFrom, hres, h0, h1, leastOf]

/-- A value fault of word 1 alone: BAD_PARAM of that word (step 10 of R401). -/
theorem runOp_word1 {s : State} {c : Cmd} {o : OpSpec} {bad0 bad1 : Bool} (hclaim : s.claimFail c = none) (hform : c.formFail o = none)
    (hres : c.reservedFrom o.masks 0 = none) (h0 : bad0 = false) (h1 : bad1 = true) (f : State → Answer) :
    s.runOp c o [(bad0, 0), (bad1, 1)] none f = s.answer c o.cls o.op stBadParam 1 [] := by
  simp [State.runOp, hclaim, hform, Cmd.faultFrom_word1 (Cmd.reservedFrom_nil c 0) h0 h1, Cmd.faultFrom_word1 hres h0 h1, wordDetail]

/-- SD_EXP not above SF_EXP is out of range (R118). -/
theorem badExps_of_le {sd sf : Nat} (h : sd ≤ sf) : badExps sd sf = true := by simp [badExps, h]

/-- SDH_OH_SET with SD_EXP not above SF_EXP is rejected (R118). -/
theorem State.sdhOhSet_exps_rejected {s : State} {c : Cmd} (hclaim : s.claimFail c = none)
    (hform : c.formFail (setting 2 1 OPR [idxMask, maskOf [(55, 16), (11, 8), (3, 0)]]) = none)
    (hres : c.reservedFrom [idxMask, maskOf [(55, 16), (11, 8), (3, 0)]] 0 = none) (hlane : c.idx ≤ 39)
    (hexp : sdExpOh (c.word 1) ≤ sfExpOh (c.word 1)) : s.sdhOhSet c = s.answer c 2 1 stBadParam 1 [] := by
  dsimp only [State.sdhOhSet]
  exact runOp_word1 hclaim hform hres (decide_eq_false (Nat.not_lt.2 hlane)) (badExps_of_le hexp) _

/-- PATH_OH_SET with SD_EXP not above SF_EXP is rejected, whatever else word 1 asks for (R118). -/
theorem State.pathOhSet_exps_rejected {s : State} {c : Cmd} (hclaim : s.claimFail c = none)
    (hform : c.formFail (setting 2 5 OPR [eidMask, maskOf [(47, 30)]]) = none)
    (hres : c.reservedFrom [eidMask, maskOf [(47, 30)]] 0 = none) (hpath : badPathEid c.eid = false)
    (hexp : sdExpPath (c.word 1) ≤ sfExpPath (c.word 1)) : s.pathOhSet c = s.answer c 2 5 stBadParam 1 [] := by
  dsimp only [State.pathOhSet]
  exact runOp_word1 hclaim hform hres hpath (by simp only [badExps_of_le hexp, Bool.true_or]) _

/-- PATH_OH_SET that changes MARK_POS is refused on a path whose marks a group or a symmetric record uses (R118). -/
theorem State.pathOhSet_marks_refused {s : State} {c : Cmd}
    (h : Accepts s c (setting 2 5 OPR [eidMask, maskOf [(47, 30)]]) (pathOhBad s c))
    (hchange : markPosOf (s.pathOh c.eid) ≠ markPosOf (c.word 1)) (hheld : s.either (fun b => b.marksHeld c.eid) = true) :
    s.pathOhSet c = s.answer c 2 5 stState 0 [] := by
  dsimp only [State.pathOhSet]
  exact runOp_no h rfl (if_pos (by simp only [decide_eq_true hchange, hheld, Bool.and_self, Bool.or_true]))

/-- Settles O49, by the two rejections and the refusal. -/
theorem thresholdsAndMarkPositions : Obligations.ThresholdsAndMarkPositions := by
  constructor
  · intro s c hwf hclaim o hform hres hlane hexp
    rw [exec_sdhOhSet hwf, State.sdhOhSet_exps_rejected hclaim hform hres hlane hexp]
  · intro s c hwf hclaim o hform hres hpath
    constructor
    · intro hexp
      rw [exec_pathOhSet hwf, State.pathOhSet_exps_rejected hclaim hform hres hpath hexp]
    · intro hfault hpair hchange hheld
      rw [exec_pathOhSet hwf, State.pathOhSet_marks_refused ⟨hwf, hclaim, hform, hfault, hpair⟩ hchange hheld]

end Sys2Proof.Machine
end

section
/-!
PROOFS. BUSHEL_CANCEL (O51): a bushel that is given up is no longer held, and one that has begun to load is not given up.
-/
namespace Sys2Proof.Machine

open Sys2Proof.Claims

theorem State.bush_of_works {s t : State} (h : t.works = s.works) : t.bush = s.bush :=
  (congrArg State.bush h :)

/-- Quotas that settle clear marks of tenants; the bushels stay (R231). -/
@[simp] theorem State.settleQuotas_list (s : State) : s.settleQuotas.bush.list = s.bush.list := by
  unfold State.settleQuotas
  refine foldl_keeps (fun t : State => t.bush.list = s.bush.list) (fun t x h => ?_) _ rfl
  dsimp only
  split
  · rw [State.bush_of_works (State.raise_works _ _)]; exact h
  · exact h

theorem State.bushel_dropBushel_same (s : State) (id : Nat) : (s.dropBushel id).bushel id = none := by
  simp [State.bushel, State.dropBushel]

/-- A bushel that is given up is held no more (R216, R229). -/
theorem State.bushel_discard_same (s : State) (id : Nat) : (s.discard id).bushel id = none := by
  rw [State.bushel, State.discard, State.settleQuotas_list]; exact s.bushel_dropBushel_same id

/-- The form of BUSHEL_CANCEL: the cancel of an accepted bushel is mirrored, that of an open one is not. -/
def cancelSpec (m : BushelMode) : OpSpec := { cls := 4, op := 3, priv := TEN, masks := [bushelMask], mirror := if m = .open_ then 0 else 2 }

/-- BUSHEL_CANCEL from the bushel's owner or SUP comes to the bushel's mode alone (R216). -/
theorem State.bushelCancel_settles {s : State} {c : Cmd} {b : Bushel} (h : Accepts s c (cancelSpec b.mode) [])
    (hb : s.bushel (fld (c.word 0) 15 0) = some b) (hown : b.owner = c.t ∨ c.rank = SUP) :
    s.bushelCancel c = s.settle c (cancelSpec b.mode)
      (if b.mode = .open_ ∨ b.mode = .queued ∨ b.mode = .pending ∨ b.mode = .restored then
        .ok ((s.discard (fld (c.word 0) 15 0)).mapSnaps fun j => j.drop (fld (c.word 0) 15 0)) []
      else refuse stState 0 s) := by
  have hforeign : ¬ (b.owner ≠ c.t ∧ c.rank ≠ SUP) := fun ⟨ht, hr⟩ => hown.elim ht hr
  unfold State.bushelCancel
  simp only [hb, Option.all_some, Option.any_some, decide_eq_true_eq, if_neg hforeign]
  exact (runOp_accepts (o := cancelSpec b.mode) h rfl _).trans (by simp only [hb])

/-- Settles O51, by the mode of the bushel. -/
theorem cancelDiscardsABushel : Obligations.CancelDiscardsABushel := by
  intro s c b id o h hb hown
  rw [exec_bushelCancel h.1, State.bushelCancel_settles h hb hown]
  constructor
  · intro hwaits
    have hearly : b.mode = .open_ ∨ b.mode = .queued ∨ b.mode = .pending ∨ b.mode = .restored :=
      or_comm.1 (by rwa [or_assoc, or_assoc])
    rw [if_pos hearly]
    exact ⟨rfl, s.bushel_discard_same id⟩
  · intro hloads
    have hlate : ¬ (b.mode = .open_ ∨ b.mode = .queued ∨ b.mode = .pending ∨ b.mode = .restored) := by
      rcases hloads with hm | hm | hm | hm <;> simp [hm]
    rw [if_neg hlate]
    rfl

end Sys2Proof.Machine
end

section
/-!
SUPPORT. Fields of a register, octets and back.
-/
namespace Sys2Proof.Machine

/-! Fields -/

theorem testBit_fld {n : Nat} (w : BitVec n) (hi lo i : Nat) : (fld w hi lo).testBit i = (decide (i < hi + 1 - lo) && w.getLsbD (lo + i)) := by
  rw [fld, Nat.testBit_mod_two_pow, Nat.testBit_shiftRight, BitVec.testBit_toNat]

theorem getLsbD_setFld {n : Nat} (w : BitVec n) (hi lo v i : Nat) :
    (setFld w hi lo v).getLsbD i = if lo ≤ i ∧ i ≤ hi then decide (i < n) && v.testBit (i - lo) else w.getLsbD i := by
  have hfield : lo ≤ i ∧ i ≤ hi ↔ lo ≤ i ∧ i - lo < hi + 1 - lo := by omega
  simp only [setFld, BitVec.getLsbD_or, BitVec.getLsbD_and, BitVec.getLsbD_not, BitVec.getLsbD_ofNat, Nat.testBit_shiftLeft,
    Nat.testBit_two_pow_sub_one, Nat.testBit_mod_two_pow, hfield]
  by_cases hn : i < n
  · by_cases hl : lo ≤ i <;> by_cases hh : i - lo < hi + 1 - lo <;> simp [hn, hl, hh]
  · simp [hn, BitVec.getLsbD_of_ge w i (Nat.le_of_not_lt hn)]

/-- A field that was written reads back what fits in it. -/
theorem fld_setFld_same {n : Nat} (w : BitVec n) {hi : Nat} (lo v : Nat) (h : hi < n) :
    fld (setFld w hi lo v) hi lo = v % 2 ^ (hi + 1 - lo) := by
  refine Nat.eq_of_testBit_eq fun i => ?_
  rw [testBit_fld, getLsbD_setFld, Nat.testBit_mod_two_pow]
  by_cases hin : i < hi + 1 - lo
  · rw [if_pos (by omega), Nat.add_sub_cancel_left, decide_eq_true (show lo + i < n by omega), Bool.true_and]
  · simp only [hin, decide_false, Bool.false_and]

/-- A write of one field leaves a field above or below it as it was. -/
theorem fld_setFld_ne {n : Nat} (w : BitVec n) {hi lo hi' lo' : Nat} (v : Nat) (h : hi' < lo ∨ hi < lo') :
    fld (setFld w hi lo v) hi' lo' = fld w hi' lo' := by
  refine Nat.eq_of_testBit_eq fun i => ?_
  rw [testBit_fld, testBit_fld, getLsbD_setFld]
  by_cases hin : i < hi' + 1 - lo'
  · rw [if_neg (by omega)]
  · simp only [hin, decide_false, Bool.false_and]

theorem fld_lt {n : Nat} (w : BitVec n) (hi lo : Nat) : fld w hi lo < 2 ^ (hi + 1 - lo) :=
  Nat.mod_lt _ (Nat.two_pow_pos _)

/-! Octets -/

@[simp] theorem length_octetsOf (n v : Nat) : (octetsOf n v).length = n := by
  induction n with
  | zero => rfl
  | succ n ih => rw [octetsOf, List.length_cons, ih]

theorem foldl_octetsOf (n v : Nat) : ∀ a : Nat,
    (octetsOf n v).foldl (fun a b => a * 256 + b.toNat) a = a * 256 ^ n + v % 256 ^ n := by
  induction n with
  | zero => intro a; simp [octetsOf, Nat.mod_one]
  | succ n ih =>
    intro a
    have hsplit : v % 256 ^ (n + 1) = v % 256 ^ n + 256 ^ n * (v / 256 ^ n % 256) := by rw [Nat.pow_succ, Nat.mod_mul]
    have hoct : v >>> (8 * n) = v / 256 ^ n := by rw [Nat.shiftRight_eq_div_pow, Nat.pow_mul]
    calc (octetsOf (n + 1) v).foldl (fun a b => a * 256 + b.toNat) a
        = (a * 256 + v / 256 ^ n % 256) * 256 ^ n + v % 256 ^ n := by rw [octetsOf, List.foldl_cons, ih, BitVec.toNat_ofNat, hoct]
      _ = a * 256 ^ (n + 1) + v % 256 ^ (n + 1) := by
        rw [hsplit, Nat.add_mul, Nat.mul_assoc, ← Nat.pow_succ', Nat.mul_comm (v / 256 ^ n % 256), Nat.add_assoc,
          Nat.add_comm (256 ^ n * _)]

/-- n octets spell the number they were made of, as far as they hold it. -/
theorem natOfOctets_octetsOf (n v : Nat) : natOfOctets (octetsOf n v) = v % 256 ^ n := by
  rw [natOfOctets, foldl_octetsOf, Nat.zero_mul, Nat.zero_add]

/-- The octets of a register value, lowest address first, give the value back. -/
theorem leHalf_octets (v : Half) : leHalf (octetsOf 4 v.toNat).reverse = v := by
  rw [leHalf, List.reverse_reverse, natOfOctets_octetsOf, Nat.mod_eq_of_lt (show v.toNat < 256 ^ 4 from v.isLt), BitVec.ofNat_toNat, BitVec.setWidth_eq]

end Sys2Proof.Machine
end

section
/-!
SUPPORT. An event and a count change outputs, host ports and the events' own state, and nothing else.
-/
namespace Sys2Proof.Machine

/-- The state with everything an event or a count may change taken out. -/
def State.eventless (s : State) : State := { s with outs := [], ev := .reset, host.ports := [] }

theorem State.rings_of_eventless {s t : State} (h : t.eventless = s.eventless) : t.host.rings = s.host.rings :=
  (congrArg (fun x : State => x.host.rings) h :)

theorem State.matrix_of_eventless {s t : State} (h : t.eventless = s.eventless) : t.host.matrix = s.host.matrix :=
  (congrArg (fun x : State => x.host.matrix) h :)

section
variable (s : State)

@[simp] theorem State.emit_eventless (o : Out) : (s.emit o).eventless = s.eventless := rfl
@[simp] theorem State.setTarget_eventless (t : Nat) (x : EvicTarget) : (s.setTarget t x).eventless = s.eventless := rfl
@[simp] theorem State.setCounter_eventless (i : Nat) (c : Counter) : (s.setCounter i c).eventless = s.eventless := rfl

@[simp] theorem State.stage_eventless (r : EvRec) : (s.stage r).eventless = s.eventless := by
  unfold State.stage; split <;> rfl

@[simp] theorem State.sendVector_eventless (b : Bool) (v : Nat) : (s.sendVector b v).eventless = s.eventless := by
  unfold State.sendVector; dsimp only; split <;> rfl

@[simp] theorem State.notifyOne_eventless (t : Nat) : (s.notifyOne t).eventless = s.eventless := by
  unfold State.notifyOne
  cases s.bestClaim t with
  | none => rfl
  | some src =>
    simp only [apply_ite State.eventless, State.emit_eventless, State.sendVector_eventless, State.setTarget_eventless, ite_self]

@[simp] theorem State.notify_eventless : s.notify.eventless = s.eventless := by
  simp only [State.notify, State.notifyOne_eventless]

@[simp] theorem State.fire_eventless (src : Nat) : (s.fire src).eventless = s.eventless := by
  have hpend : State.eventless { s with ev.pend := setFlag s.ev.pend src true } = s.eventless := rfl
  simp only [State.fire, apply_ite State.eventless, State.sendVector_eventless, State.notify_eventless, hpend, ite_self]

@[simp] theorem State.raise_eventless (e : Event) : (s.raise e).eventless = s.eventless := by
  rw [State.raise, State.fire_eventless, State.stage_eventless]

@[simp] theorem State.raiseIf_eventless (b : Bool) (e : Event) : (s.raiseIf b e).eventless = s.eventless := by
  cases b
  · rfl
  · exact s.raise_eventless e

@[simp] theorem State.addCounter_eventless (i n : Nat) : (s.addCounter i n).eventless = s.eventless := by
  simp only [State.addCounter, apply_ite State.eventless, State.raiseIf_eventless, State.setCounter_eventless, ite_self]

@[simp] theorem State.count_eventless (sel obj n : Nat) : (s.count sel obj n).eventless = s.eventless := by
  unfold State.count
  split
  · rfl
  · refine foldl_keeps (fun t : State => t.eventless = s.eventless) (fun t e h => ?_) _ rfl
    split
    · rw [State.addCounter_eventless, h]
    · exact h

/-! The matrix's error capture (R436) -/

variable (m u t k : Nat) (write : Bool) (off : Nat)

@[simp] theorem State.matrixCapture_rings : (s.matrixCapture m u t k write off).host.rings = s.host.rings := by
  unfold State.matrixCapture
  refine (State.rings_of_eventless (State.count_eventless _ _ _ _)).trans ?_
  dsimp only
  split <;> rfl

/-- A capture leaves MATRIX_CTRL alone. -/
@[simp] theorem State.matrixCapture_ctrl : (s.matrixCapture m u t k write off).host.matrix.ctrl = s.host.matrix.ctrl := by
  unfold State.matrixCapture
  refine (congrArg MatrixState.ctrl (State.matrix_of_eventless (State.count_eventless _ _ _ _))).trans ?_
  dsimp only
  split <;> rfl

@[simp] theorem State.matrixError_rings : (s.matrixError m u t k write off).host.rings = s.host.rings :=
  (State.rings_of_eventless (State.raise_eventless _ _)).trans (s.matrixCapture_rings m u t k write off)

@[simp] theorem State.lockedField_ctrl : (s.lockedField m t off).host.matrix.ctrl = s.host.matrix.ctrl :=
  (congrArg _ (State.matrix_of_eventless (State.raise_eventless _ _))).trans (s.matrixCapture_ctrl m 0 t kLockedField true off)

end

end Sys2Proof.Machine
end

section
/-!
SUPPORT. A register write that lands (R416, R417, R429 to R431): what it does is what the register does.
-/
namespace Sys2Proof.Machine

open Sys2Proof.Claims

@[simp] theorem servedBy_barHole (s : State) (w : RegW) (b : Bool) (off : Nat) : (servedBy s w).barHole b off = s.barHole b off := by
  unfold servedBy; split <;> rfl

@[simp] theorem servedBy_rings (s : State) (w : RegW) : (servedBy s w).host.rings = s.host.rings := by
  unfold servedBy; split <;> rfl

@[simp] theorem servedBy_ctrl (s : State) (w : RegW) : (servedBy s w).host.matrix.ctrl = s.host.matrix.ctrl := by
  unfold servedBy; split <;> rfl

@[simp] theorem servedBy_ctrlLocked (s : State) (w : RegW) :
    (servedBy s w).host.matrix.ctrlLocked = s.host.matrix.ctrlLocked := by
  unfold servedBy; split <;> rfl

@[simp] theorem servedBy_ring (s : State) (w : RegW) (n : Nat) : (servedBy s w).ring n = s.ring n := by
  rw [State.ring, servedBy_rings, State.ring]

section
variable (off : Nat) (w : RegW) (program : Option (List Word))

@[simp] theorem regBus_master : (regBus off w program).master = w.master := rfl
@[simp] theorem regBus_unit : (regBus off w program).unit.toNat = 0 := rfl
@[simp] theorem regBus_enables : (regBus off w program).enables = [true, true, true, w.full] := rfl
@[simp] theorem regBus_lockBegin : (regBus off w program).lockBegin = false := rfl
@[simp] theorem regBus_lockEnd : (regBus off w program).lockEnd = false := rfl
@[simp] theorem regBus_program : (regBus off w program).program = program := rfl

@[simp] theorem regBus_length : (regBus off w program).octets.length = 4 := by
  rw [regBus, List.length_reverse, length_octetsOf]

/-- The octets of a register write spell its value. -/
theorem regBus_value : leHalf (((regBus off w program).octets.drop 0).take 4) = w.value := by
  rw [List.drop_zero, List.take_of_length_le (Nat.le_of_eq (regBus_length off w program))]
  exact leHalf_octets w.value

variable {off w}

theorem regBus_addr_host {portB : Bool} (h : hostOf w.master.toNat = some portB) :
    (regBus off w program).addr = .bar 0 (BitVec.ofNat 32 off) := by
  simp only [regBus, h, Option.isSome_some, if_true]

theorem regBus_addr_matrix (h : hostOf w.master.toNat = none) : (regBus off w program).addr = .matrix 6 (BitVec.ofNat 32 off) := by
  simp only [regBus, h, Option.isSome_none, Bool.false_eq_true, if_false]

/-- An offset of the register space (64 KiB) is held by an address. -/
theorem toNat_regOffset (h : off < 0x10000) : (BitVec.ofNat 32 off).toNat = off := by
  rw [BitVec.toNat_ofNat, Nat.mod_eq_of_lt (by omega)]

theorem barTarget_register (h : off < 0x10000) : barTarget off = (6, off) := if_pos h

/-- A register write goes to the configuration target, whoever sends it. -/
theorem writeTarget_regBus (h : off < 0x10000) : writeTarget (regBus off w program) = some 6 := by
  unfold writeTarget
  cases hhost : hostOf w.master.toNat with
  | none => rw [regBus_addr_matrix program hhost]; rfl
  | some portB =>
    simp only [regBus_addr_host program hhost, toNat_regOffset h, barTarget_register h]
    rfl

end

/-- What a write that lands has passed: the master is heard and need not wait, the offset decodes, and the matrix, the privilege and the ownership
let it go. -/
structure Lands (s : State) (off : Nat) (w : RegW) : Prop where
  full : w.full = true
  live : s.busLive w.master.toNat = true
  unlocked : s.lockOf 6 = none
  first : (s.host.matrix.waiting.any fun y => decide (y.master = w.master)) = false
  decodes : ∀ b, hostOf w.master.toNat = some b → s.barHole b off = false
  judged : (servedBy s w).matrixJudge w.master.toNat 0 6 off 4 true false false ((servedBy s w).privOf w.master.toNat) = (.go, servedBy s w)
  priv : ∃ p, regPriv off = some p ∧ ∀ h, (servedBy s w).privOf w.master.toNat = some h → p ≤ h
  owned : regOwned w.master.toNat off = true

theorem Lands.of_writeLands {s : State} {off : Nat} {w : RegW} (h : writeLands s off w) : Lands s off w := by
  simp only [writeLands, regCan, Bool.and_eq_true, Option.isNone_iff_eq_none, Option.all_eq_true, Bool.not_eq_true',
    decide_eq_true_eq, Option.isSome_iff_exists] at h
  obtain ⟨⟨⟨⟨⟨⟨⟨⟨⟨⟨hfull, hawake⟩, hstall⟩, hfrozen⟩, hlock⟩, hfirst⟩, hhole⟩, hjudge⟩, hpriv⟩, p, hp⟩, hown⟩ := h
  refine ⟨hfull, ?_, hlock, hfirst, hhole, hjudge, ⟨p, hp, fun r hr => ?_⟩, hown⟩
  · simp only [State.busLive, hawake, hstall, hfrozen, Bool.not_false, Bool.and_self]
  · simpa [hp] using hpriv r hr

section
variable {s : State} {off : Nat} {w : RegW} (h : Lands s off w) (program : Option (List Word)) (octets : List Byte)
include h

/-- Privilege and ownership let the write through to its register (R418, R430). -/
theorem Lands.regDword :
    (servedBy s w).regDword w.master.toNat off w.value program octets =
      (servedBy s w).regWrite w.master.toNat off w.value program octets := by
  obtain ⟨p, hp, hle⟩ := h.priv
  simp only [State.regDword, hp, h.owned, Bool.not_true, Bool.false_eq_true, if_false]
  refine if_neg ?_
  split
  · next r hr => exact fun hlt => Nat.not_lt.2 (hle r hr) (of_decide_eq_true hlt)
  · exact Bool.false_ne_true

/-- The one dword of the write, with every byte enable set (R417). -/
theorem Lands.regPart :
    (servedBy s w).regPart (regBus off w program) off 0 octets =
      (servedBy s w).regWrite w.master.toNat off w.value program octets := by
  have henables : ((([true, true, true, w.full] : List Bool).drop 0).take 4).all id = true := by simp [h.full]
  simp only [State.regPart, regBus_master, regBus_unit, regBus_enables, regBus_lockBegin, regBus_lockEnd, regBus_program, Nat.mul_zero,
    Nat.add_zero, Bool.false_and, h.judged, henables, if_true, regBus_value, h.regDword]

/-- A dword write to the configuration target. -/
theorem Lands.toTarget (halign : off % 4 = 0) :
    (servedBy s w).toTarget (regBus off w program) 6 off octets =
      (servedBy s w).regWrite w.master.toNat off w.value program octets := by
  have hsize : regSizeOk off 4 = true := by simp [regSizeOk, halign]
  simp only [State.toTarget, regBus_length, hsize, if_true]
  exact h.regPart program octets

/-- A host's write in BAR0 that decodes goes on to the configuration target (R416, §13.4). -/
theorem Lands.toBar {portB : Bool} (hhost : hostOf w.master.toNat = some portB) (hoff : off < 0x10000) :
    (servedBy s w).toBar (regBus off w program) portB 0 off octets = (servedBy s w).toTarget (regBus off w program) 6 off octets := by
  have hhole : (servedBy s w).barHole portB off = false := (servedBy_barHole s w portB off).trans (h.decodes portB hhost)
  simp [State.toBar, hhole, barTarget_register hoff]

/-- A register write that lands, served: a host's in BAR0, every other master's at the matrix. -/
theorem Lands.serve (hoff : off < 0x10000) (halign : off % 4 = 0) :
    s.serve (regBus off w program) octets = (servedBy s w).regWrite w.master.toNat off w.value program octets := by
  rw [← h.toTarget program octets halign]
  unfold State.serve
  cases hhost : hostOf w.master.toNat with
  | none =>
    simp only [regBus_addr_matrix program hhost, regBus_master, hhost, toNat_regOffset hoff]
    rfl
  | some portB =>
    rw [← h.toBar program octets hhost hoff]
    simp only [regBus_addr_host program hhost, regBus_master, hhost, toNat_regOffset hoff]
    rfl

/-- A register write that lands does what its register does, in the state it reaches it in. -/
theorem Lands.bus (hoff : off < 0x10000) (halign : off % 4 = 0) :
    s.bus (regBus off w program) octets = (servedBy s w).regWrite w.master.toNat off w.value program octets := by
  have hgoes : s.lockedOut (regBus off w program) = false := by
    simp only [State.lockedOut, writeTarget_regBus program hoff, h.unlocked]
  have hwaits : (s.lockedOut (regBus off w program) ||
      s.host.matrix.waiting.any fun y => decide (y.master = (regBus off w program).master)) = false := by
    rw [hgoes]; exact h.first
  refine (if_neg ?live).trans ((if_neg ?waits).trans ((if_neg ?kept).trans (h.serve program octets hoff halign)))
  case live => simp only [regBus_master, h.live, Bool.not_true, Bool.false_eq_true, not_false_eq_true]
  case waits => rw [hwaits]; exact Bool.false_ne_true
  case kept => exact Bool.false_ne_true

end

/-- The write of a register below 64 KiB that lands. -/
theorem State.regRow_lands {s : State} {off : Nat} {w : RegW} (h : writeLands s off w) (hoff : off < 0x10000) (halign : off % 4 = 0) :
    s.regRow off w = .next ((servedBy s w).regWrite w.master.toNat off w.value none []) :=
  congrArg Host.Outcome.next ((Lands.of_writeLands h).bus none [] hoff halign)

end Sys2Proof.Machine
end

section
/-!
PROOFS. MATRIX_CTRL is written once (O53).
-/
namespace Sys2Proof.Machine

open Sys2Proof.Claims

theorem State.regWrite_matrixCtrl (s : State) (m : Nat) (v : Half) (program : Option (List Word)) (octets : List Byte) :
    s.regWrite m 0x6000 v program octets = s.writeMatrixCtrl m v := rfl

theorem exec_matrixCtrlWrite {s : State} {w : RegW} (h : writeLands s 0x6000 w) :
    exec (.matrixCtrlWrite w) s = .next ((servedBy s w).writeMatrixCtrl w.master.toNat w.value) :=
  State.regRow_lands h (by decide) (by decide)

/-- A locked MATRIX_CTRL keeps its fields (R435). -/
theorem State.writeMatrixCtrl_locked {s : State} (m : Nat) (v : Half) (h : s.host.matrix.ctrlLocked = true) :
    (s.writeMatrixCtrl m v).host.matrix.ctrl = s.host.matrix.ctrl := by
  rw [State.writeMatrixCtrl, if_pos h, State.lockedField_ctrl]

/-- The value a privilege field of MATRIX_CTRL takes: 0b11 is held and leaves it as it was (R435). -/
def keepHeld (old v : Half) (hi lo : Nat) : Nat := if fld v hi lo = 3 then fld old hi lo else fld v hi lo

theorem keepHeld_lt (old v : Half) (hi lo : Nat) : keepHeld old v hi lo < 2 ^ (hi + 1 - lo) := by
  rw [keepHeld]; split
  · exact fld_lt old hi lo
  · exact fld_lt v hi lo

/-- MATRIX_CTRL after its first write. -/
def firstCtrl (old v : Half) : Half := mkHalf [(5, 4, keepHeld old v 5 4), (3, 2, keepHeld old v 3 2), (0, 0, fld v 0 0)]

theorem firstCtrl_eq (old v : Half) :
    firstCtrl old v = setFld (setFld (setFld 0 5 4 (keepHeld old v 5 4)) 3 2 (keepHeld old v 3 2)) 0 0 (fld v 0 0) := rfl

theorem fld_firstCtrl_decodeMode (old v : Half) : fld (firstCtrl old v) 0 0 = fld v 0 0 := by
  rw [firstCtrl_eq, fld_setFld_same _ _ _ (by decide), Nat.mod_eq_of_lt (fld_lt v 0 0)]

theorem fld_firstCtrl_privA (old v : Half) : fld (firstCtrl old v) 3 2 = keepHeld old v 3 2 := by
  rw [firstCtrl_eq, fld_setFld_ne _ _ (by decide), fld_setFld_same _ _ _ (by decide), Nat.mod_eq_of_lt (keepHeld_lt old v 3 2)]

theorem fld_firstCtrl_privB (old v : Half) : fld (firstCtrl old v) 5 4 = keepHeld old v 5 4 := by
  rw [firstCtrl_eq, fld_setFld_ne _ _ (by decide), fld_setFld_ne _ _ (by decide), fld_setFld_same _ _ _ (by decide),
    Nat.mod_eq_of_lt (keepHeld_lt old v 5 4)]

/-- The first write sets the fields and locks them (R435). -/
theorem State.writeMatrixCtrl_first {s : State} (m : Nat) (v : Half) (h : s.host.matrix.ctrlLocked = false) :
    s.writeMatrixCtrl m v = { s with host.matrix.ctrl := firstCtrl s.host.matrix.ctrl v, host.matrix.ctrlLocked := true } :=
  if_neg (by rw [h]; exact Bool.false_ne_true)

/-- Settles O53: the reset values, the first write field by field, and the locked write. -/
theorem matrixCtrlIsWrittenOnce : Obligations.MatrixCtrlIsWrittenOnce := by
  refine ⟨⟨rfl, State.reset_hangMode, State.reset_hostPriv false, State.reset_hostPriv true⟩, fun s w h => ⟨fun hopen => ?_, fun hlocked => ?_⟩⟩
  · have hfirst := State.writeMatrixCtrl_first w.master.toNat w.value ((servedBy_ctrlLocked s w).trans hopen)
    rw [servedBy_ctrl] at hfirst
    refine ⟨_, (exec_matrixCtrlWrite h).trans (congrArg _ hfirst), rfl, ?_, ?_, ?_⟩
    · exact fld_firstCtrl_decodeMode _ _
    · exact fld_firstCtrl_privA _ _
    · exact fld_firstCtrl_privB _ _
  · refine ⟨_, exec_matrixCtrlWrite h, ?_⟩
    rw [State.writeMatrixCtrl_locked _ _ ((servedBy_ctrlLocked s w).trans hlocked), servedBy_ctrl]

end Sys2Proof.Machine
end

section
/-!
PROOFS. Foreign doorbells are denied (O54).
-/
namespace Sys2Proof.Machine

open Sys2Proof.Claims

/-- The doorbells stand at 0x100 to 0x1FF, one dword of each ring (Table 13.4). -/
theorem State.regWrite_doorbell (s : State) (m : Nat) {n : Nat} (hn : n < 64) (v : Half) (program : Option (List Word)) (octets : List Byte) :
    s.regWrite m (0x100 + 4 * n) v program octets = s.doorbell m n v := by
  have hring : ringAt (0x100 + 4 * n) = none := by
    unfold ringAt; rw [if_neg (by omega), if_neg (by omega), if_neg (by omega)]
  have hchan : chanAt (0x100 + 4 * n) = none := if_neg (by omega)
  have hindex : (0x100 + 4 * n - 0x100) / 4 = n := by omega
  simp only [State.regWrite, hring, hchan]
  rw [if_neg (by omega), if_pos (by omega), hindex]

theorem exec_doorbell {s : State} {n : Fin 64} {w : RegW} (h : writeLands s (0x100 + 4 * n.val) w) :
    exec (.doorbell n w) s = .next ((servedBy s w).doorbell w.master.toNat n.val w.value) :=
  (State.regRow_lands h (by omega) (by omega)).trans (congrArg _ ((servedBy s w).regWrite_doorbell w.master.toNat n.isLt w.value none []))

theorem master_of_hostOf {m : Nat} {portB : Bool} (h : hostOf m = some portB) : m = if portB then 5 else 4 := by
  unfold hostOf at h
  split at h
  · next hA => cases h; exact hA
  · split at h
    · next hB => cases h; exact hB
    · cases h

/-- A doorbell of a ring that is off, or from the host port that does not own it, is captured and does nothing else (R450). -/
theorem State.doorbell_denied {s : State} {m n : Nat} (v : Half)
    (h : (s.ring n).en = false ∨ hostOf m = some (!(s.ring n).portB)) :
    s.doorbell m n v = s.matrixError m 0 6 kDenied true (0x100 + 4 * n) := by
  refine if_pos ?_
  rcases h with hoff | hforeign
  · rw [hoff]; rfl
  · have hm := master_of_hostOf hforeign
    cases hport : (s.ring n).portB <;> simp [hm, hport]

/-- Settles O54, by the denied doorbell: its capture leaves the rings alone. -/
theorem foreignDoorbellsAreDenied : Obligations.ForeignDoorbellsAreDenied := by
  intro s n w off m h hdenied
  refine ⟨?_, (State.matrixError_rings _ _ _ _ _ _ _).trans (servedBy_rings s w)⟩
  rw [exec_doorbell h, State.doorbell_denied w.value (by rwa [servedBy_ring])]

end Sys2Proof.Machine
end

section
/-!
PROOFS. A well-formed packet is read back as it was written (O59): the octets of Table 12.1 field by field.
-/
namespace Sys2Proof.Machine

/-! Fields of a run of octets -/

/-- The field at the head of a run. -/
theorem at_octetsOf (n v : Nat) (l : List Byte) : at_ (octetsOf n v ++ l) 0 n = v % 256 ^ n := by
  rw [at_, List.drop_zero, List.take_left' (length_octetsOf n v), natOfOctets_octetsOf]

/-- A field past the head is a field of the rest. -/
theorem at_octetsOf_append {n i : Nat} (h : n ≤ i) (v : Nat) (l : List Byte) (k : Nat) : at_ (octetsOf n v ++ l) i k = at_ l (i - n) k := by
  rw [at_, List.drop_append, length_octetsOf, List.drop_eq_nil_of_le (by rw [length_octetsOf]; exact h), List.nil_append, at_]

@[simp] theorem length_wordsOctets (ws : List Word) : (wordsOctets ws).length = 8 * ws.length := by
  induction ws with
  | nil => rfl
  | cons w ws ih =>
    rw [wordsOctets, List.flatMap_cons, List.length_append, wordOctets, length_octetsOf, List.length_cons, Nat.mul_succ, Nat.add_comm]
    exact congrArg (· + 8) ih

/-- Words laid out as octets are read back as those words. -/
theorem takeWords_wordsOctets (ws : List Word) (l : List Byte) : takeWords ws.length (wordsOctets ws ++ l) = ws := by
  induction ws with
  | nil => rfl
  | cons w ws ih =>
    have hsplit : wordsOctets (w :: ws) ++ l = octetsOf 8 w.toNat ++ (wordsOctets ws ++ l) := List.append_assoc ..
    have hword : BitVec.ofNat 64 (w.toNat % 256 ^ 8) = w := by
      rw [Nat.mod_eq_of_lt (show w.toNat < 256 ^ 8 from w.isLt), BitVec.ofNat_toNat, BitVec.setWidth_eq]
    rw [List.length_cons, takeWords, hsplit, List.take_left' (length_octetsOf ..), List.drop_left' (length_octetsOf ..), natOfOctets_octetsOf,
      hword, ih]

/-! The packet (Table 12.1) -/

/-- The octets 6 and 7 of a packet: T-ID, PRIV, BARRIER and QUIET. -/
def Cmd.senderField (c : Cmd) : Nat := c.tid.toNat * 16 + c.priv.toNat * 4 + c.barrier.toNat * 2 + c.quiet.toNat

theorem Cmd.senderField_parts (c : Cmd) : c.senderField < 2 ^ 16 ∧ c.senderField / 16 = c.tid.toNat ∧ c.senderField / 4 % 4 = c.priv.toNat ∧
    c.senderField / 2 % 2 = c.barrier.toNat ∧ c.senderField % 2 = c.quiet.toNat := by
  have ht := c.tid.isLt
  have hp := c.priv.isLt
  have hb := Bool.toNat_le c.barrier
  have hq := Bool.toNat_le c.quiet
  unfold Cmd.senderField
  omega

/-- The packet as one run of fields. -/
theorem Cmd.encode_eq (c : Cmd) (cls op : Nat) : c.encode cls op =
    octetsOf 2 0xDA48 ++ (octetsOf 2 (32 + paramOctets c.plen) ++ (octetsOf 1 cls ++ (octetsOf 1 op ++ (octetsOf 2 c.senderField ++
      (octetsOf 4 c.seq.toNat ++ (octetsOf 2 c.bushel.toNat ++ (octetsOf 2 c.plen ++ (wordsOctets c.words ++ octetsOf 16 c.tag.toNat)))))))) := by
  simp only [Cmd.encode, Cmd.body, Cmd.senderField, List.append_assoc]

section
variable {c : Cmd} (h : c.wf = true) (cls op : Nat)
include h

theorem Cmd.wf_plen_le : c.plen ≤ 4064 := by
  simp only [Cmd.wf, Bool.and_eq_true, decide_eq_true_eq] at h; exact h.1

theorem Cmd.wf_length_words : 8 * c.words.length = paramOctets c.plen := by
  simp only [Cmd.wf, Bool.and_eq_true, decide_eq_true_eq] at h; exact h.2

/-- The parameter area of a well-formed packet is whole words, two at least and 508 at most (R376). -/
theorem Cmd.wf_paramOctets : paramOctets c.plen % 8 = 0 ∧ 16 ≤ paramOctets c.plen ∧ paramOctets c.plen ≤ 4064 := by
  have hplen := Cmd.wf_plen_le h
  have hceil : ceilDiv c.plen 8 = (c.plen + 7) / 8 := rfl
  have hparam : paramOctets c.plen = max 16 (8 * ceilDiv c.plen 8) := rfl
  omega

theorem Cmd.length_encode : (c.encode cls op).length = 32 + paramOctets c.plen := by
  simp only [Cmd.encode_eq, List.length_append, length_octetsOf, length_wordsOctets, Cmd.wf_length_words h]
  omega

/-- Every field of the packet, read from its octets (Table 12.1). -/
theorem Cmd.encode_fields :
    at_ (c.encode cls op) 0 2 = 0xDA48 ∧ at_ (c.encode cls op) 2 2 = 32 + paramOctets c.plen ∧ at_ (c.encode cls op) 4 1 = cls % 256 ∧
      at_ (c.encode cls op) 5 1 = op % 256 ∧ at_ (c.encode cls op) 6 2 = c.senderField ∧ at_ (c.encode cls op) 8 4 = c.seq.toNat ∧
      at_ (c.encode cls op) 12 2 = c.bushel.toNat ∧ at_ (c.encode cls op) 14 2 = c.plen := by
  have hplen := Cmd.wf_plen_le h
  have hparam := Cmd.wf_paramOctets h
  have hsender := c.senderField_parts.1
  have hseq := c.seq.isLt
  have hbushel := c.bushel.isLt
  simp only [Cmd.encode_eq]
  refine ⟨?_, ?_, ?_, ?_, ?_, ?_, ?_, ?_⟩ <;>
    simp (disch := omega) only [at_octetsOf_append, at_octetsOf, Nat.mod_eq_of_lt, Nat.reduceSub, Nat.reducePow]

omit h in
theorem Cmd.at_encode_tag : at_ (c.encode cls op) ((c.encode cls op).length - 16) 16 = c.tag.toNat := by
  have hlen : (c.encode cls op).length - 16 = (c.body cls op).length := by
    rw [Cmd.encode, List.length_append, length_octetsOf, Nat.add_sub_cancel]
  rw [hlen, Cmd.encode, at_, List.drop_left, List.take_of_length_le (Nat.le_of_eq (length_octetsOf _ _)), natOfOctets_octetsOf]
  exact Nat.mod_eq_of_lt c.tag.isLt

theorem Cmd.takeWords_encode : takeWords (((c.encode cls op).length - 32) / 8) ((c.encode cls op).drop 16) = c.words := by
  have hcount : (32 + paramOctets c.plen - 32) / 8 = c.words.length := by
    have := Cmd.wf_length_words h
    omega
  rw [Cmd.length_encode h, hcount]
  simp only [Cmd.encode_eq, List.drop_append, List.drop_eq_nil_of_le, length_octetsOf, Nat.reduceLeDiff, Nat.reduceSub, List.nil_append,
    List.drop_zero]
  exact takeWords_wordsOctets c.words _

/-- The lengths of the packet agree (R376). -/
theorem Cmd.packetLengths_encode : packetLengths (c.encode cls op) = true := by
  obtain ⟨-, hlen, -, -, -, -, -, hplen⟩ := Cmd.encode_fields h cls op
  have hparam := Cmd.wf_paramOctets h
  simp only [packetLengths, hlen, hplen, Cmd.length_encode h, Bool.and_eq_true, decide_eq_true_eq, true_and]
  omega

theorem Cmd.packetReadable_encode : packetReadable (c.encode cls op) = true := by
  obtain ⟨hsync, -⟩ := Cmd.encode_fields h cls op
  simp only [packetReadable, hsync, Cmd.length_encode h, Bool.and_eq_true, decide_eq_true_eq, and_true]
  omega

/-- The command that the octets spell: all but the slot and the key, which the tag's verification finds. -/
theorem Cmd.packetCmd_encode (hslot : c.slot = false) (hkey : c.key = none) : packetCmd ⟨c.port, c.encode cls op, c.ret⟩ = c := by
  obtain ⟨-, -, -, -, hsender, hseq, hbushel, hplen⟩ := Cmd.encode_fields h cls op
  obtain ⟨-, htid, hpriv, hbarrier, hquiet⟩ := c.senderField_parts
  have hpriv' : BitVec.ofNat 2 (c.senderField / 4) = c.priv := BitVec.eq_of_toNat_eq hpriv
  simp only [packetCmd, hsender, htid, hpriv', hbarrier, hquiet, hseq, hbushel, hplen, Cmd.at_encode_tag, Cmd.takeWords_encode h,
    BitVec.ofNat_toNat, BitVec.setWidth_eq, Bool.toNat_eq_one, Bool.decide_eq_true]
  rw [← hslot, ← hkey]

end

/-- Settles O59, field by field. -/
theorem packetsRoundTrip : Obligations.PacketsRoundTrip := by
  intro c cls op h hslot hkey hcls hop o
  obtain ⟨-, -, hc, ho, -⟩ := Cmd.encode_fields h cls op
  exact ⟨Cmd.packetReadable_encode h cls op, Cmd.packetLengths_encode h cls op, hc.trans (Nat.mod_eq_of_lt hcls), ho.trans (Nat.mod_eq_of_lt hop),
    Cmd.packetCmd_encode h cls op hslot hkey⟩

end Sys2Proof.Machine
end

section
/-!
SUPPORT. The rows of the opcode tables: how a packet that an opcode handles comes to the row's effect.
-/
namespace Sys2Proof.Machine

@[simp] theorem unlessFail_nil (s : State) (k : Answer) : unlessFail s [] k = k := rfl

@[simp] theorem unlessFail_cons (s : State) (b : Bool) (st d : Nat) (cs : List (Bool × Nat × Nat)) (k : Answer) :
    unlessFail s ((b, st, d) :: cs) k = if b then refuse st d s else unlessFail s cs k := by
  cases b <;> simp [unlessFail, firstFail]

/-- A check that does not fail lets the rest decide. -/
theorem unlessFail_pass {s : State} {b : Bool} {st d : Nat} {cs : List (Bool × Nat × Nat)} {k r : Answer} (h : b = false)
    (hr : unlessFail s cs k = r) : unlessFail s ((b, st, d) :: cs) k = r := by
  rw [unlessFail_cons, h, if_neg Bool.false_ne_true, hr]

/-- A check that does not fail lets the rest decide. -/
theorem ite_eq_of_false {α : Type} {b : Bool} {x y z : α} (h : b = false) (hz : y = z) : (if b = true then x else y) = z := by
  rw [h, hz]; rfl

end Sys2Proof.Machine

namespace Sys2Proof.Claims

open Sys2Proof.Machine

/-- What a row says its opcode answers. -/
def OpRow.answer (r : OpRow) (s : State) (c : Cmd) : Answer :=
  if r.status = stPending then .pend (r.eff s c).1 (r.eff s c).2 else .ok (r.eff s c).1 (r.eff s c).2

/-- Nothing of steps 6 to 10 holds the opcode back. -/
def OpRow.Ready (r : OpRow) (s : State) (c : Cmd) : Prop :=
  Accepts s c (r.spec s c) (r.bad s c) ∧ r.own s c = none ∧ r.can s c = true

/-- Two forms agree in the opcode's place, its lowest privilege, its words and whether it is a change. -/
def OpSpec.SameForm (o p : OpSpec) : Prop := o.cls = p.cls ∧ o.op = p.op ∧ o.priv = p.priv ∧ o.masks = p.masks ∧ o.change = p.change

/-- The opcode's packet goes through steps 6 to 10 of R401 under the form of the row, and when nothing holds it back under the row's whole
specification and to the row's answer. -/
def OpRow.Handled (r : OpRow) : Prop :=
  (r.status = stOk ∨ r.status = stPending) ∧
  ∀ s c, c.wf = true → ∃ o own f, OpSpec.SameForm o (r.spec s c) ∧ exec (r.instr c) s = .next (s.runOp c o (r.bad s c) own f) ∧
    (r.Ready s c → o = r.spec s c ∧ own = none ∧ f s = r.answer s c)

theorem OpRow.met_iff {r : OpRow} {s : State} {c : Cmd} : r.met s c = true ↔
    r.Ready s c ∧ ((r.spec s c).jrn = 0 ∨ r.status = stPending ∨ s.journalFull (r.spec s c).jrn = false) := by
  simp only [OpRow.met, OpRow.Ready, Bool.and_eq_true, Bool.or_eq_true, decide_eq_true_eq, Option.isNone_iff_eq_none, Bool.not_eq_true', and_assoc,
    or_assoc]

/-- An opcode that is handled as its row says completes. -/
theorem OpRow.Handled.completes {r : OpRow} (h : r.Handled) : r.completes := by
  intro s c hmet
  obtain ⟨hready, hroom⟩ := OpRow.met_iff.1 hmet
  obtain ⟨hstatus, hruns⟩ := h
  obtain ⟨o, own, f, -, hexec, hanswer⟩ := hruns s c hready.1.1
  obtain ⟨rfl, hown, hf⟩ := hanswer hready
  have hacc := hready.1
  rw [hexec]
  rcases hstatus with hok | hpend
  · have hne : r.status ≠ stPending := by rw [hok]; decide
    rw [OpRow.answer, if_neg hne] at hf
    rw [hok, runOp_ok hacc hown hf (hroom.imp id fun hr => hr.resolve_left hne)]
  · rw [OpRow.answer, if_pos hpend] at hf
    rw [hpend, runOp_pend hacc hown hf]

/-- The opcodes that answer OK: from exec's arm, the operation's equation and the answer its rules come to. -/
theorem OpRow.Handled.ok_of {r : OpRow} {op : State → Cmd → State} {o : State → Cmd → OpSpec} {own : State → Cmd → Option (Nat × Nat)}
    {f : State → Cmd → State → Answer} (hstatus : r.status = stOk) (hexec : ∀ {s c}, c.wf = true → exec (r.instr c) s = .next (op s c))
    (hop : ∀ s c, op s c = s.runOp c (o s c) (r.bad s c) (own s c) (f s c)) (hform : ∀ s c, OpSpec.SameForm (o s c) (r.spec s c))
    (hready : ∀ s c, r.Ready s c → o s c = r.spec s c ∧ own s c = none ∧ f s c s = .ok (r.eff s c).1 (r.eff s c).2) : r.Handled := by
  have hne : r.status ≠ stPending := by rw [hstatus]; decide
  refine ⟨.inl hstatus, fun s c hwf => ⟨_, _, f s c, hform s c, (hexec hwf).trans (congrArg _ (hop s c)), fun h => ?_⟩⟩
  obtain ⟨hspec, hown, hanswer⟩ := hready s c h
  exact ⟨hspec, hown, hanswer.trans (if_neg hne).symm⟩

/-- The opcodes that answer OK under the row's specification and ownership check. -/
theorem OpRow.Handled.ok {r : OpRow} {op : State → Cmd → State} {f : State → Cmd → State → Answer} (hstatus : r.status = stOk)
    (hexec : ∀ {s c}, c.wf = true → exec (r.instr c) s = .next (op s c))
    (hop : ∀ s c, op s c = s.runOp c (r.spec s c) (r.bad s c) (r.own s c) (f s c))
    (hanswer : ∀ s c, r.Ready s c → f s c s = .ok (r.eff s c).1 (r.eff s c).2) : r.Handled :=
  .ok_of hstatus hexec hop (fun _ _ => ⟨rfl, rfl, rfl, rfl, rfl⟩) fun s c h => ⟨rfl, h.2.1, hanswer s c h⟩

/-- The opcodes that answer ACCEPTED_PENDING. -/
theorem OpRow.Handled.pending {r : OpRow} {op : State → Cmd → State} {f : State → Cmd → State → Answer} (hstatus : r.status = stPending)
    (hexec : ∀ {s c}, c.wf = true → exec (r.instr c) s = .next (op s c))
    (hop : ∀ s c, op s c = s.runOp c (r.spec s c) (r.bad s c) (r.own s c) (f s c))
    (hanswer : ∀ s c, r.Ready s c → f s c s = .pend (r.eff s c).1 (r.eff s c).2) : r.Handled := by
  refine ⟨.inr hstatus, fun s c hwf => ⟨_, _, f s c, ⟨rfl, rfl, rfl, rfl, rfl⟩, (hexec hwf).trans (congrArg _ (hop s c)), fun h => ?_⟩⟩
  exact ⟨rfl, h.2.1, (hanswer s c h).trans (if_pos hstatus).symm⟩

theorem LaterRow.met_iff {r : LaterRow} {s : State} {c : Cmd} : r.met s c = true ↔
    (Accepts s c r.spec (r.bad c) ∧ r.own s c = none ∧ r.can s c = true) ∧ s.slotsFull c.port = false := by
  simp only [LaterRow.met, Bool.and_eq_true, decide_eq_true_eq, Option.isNone_iff_eq_none, Bool.not_eq_true', and_assoc]

/-- The opcodes whose reply follows later. -/
theorem LaterRow.completes_of {r : LaterRow} {op : State → Cmd → State} {f : State → Cmd → State → Answer}
    (hexec : ∀ {s c}, c.wf = true → exec (r.instr c) s = .next (op s c))
    (hop : ∀ s c, op s c = s.runOp c r.spec (r.bad c) (r.own s c) (f s c))
    (hanswer : ∀ s c, r.can s c = true → f s c s = .later (r.eff s c) (r.waits s c)) : r.completes := by
  intro s c hmet
  obtain ⟨⟨hacc, hown, hcan⟩, hslot⟩ := LaterRow.met_iff.1 hmet
  rw [hexec hacc.1, hop, runOp_later hacc hown (hanswer s c hcan) hslot]

end Sys2Proof.Claims
end

section
/-!
PROOFS. Classes 0x00 and 0x01 (O4, O5).
-/
namespace Sys2Proof.Machine

open Sys2Proof.Claims

/-- Class 0x00 (Table 12.10). -/
theorem rows0_handled : ∀ r ∈ rows0, r.Handled := by
  simp only [rows0, List.forall_mem_cons]
  refine ⟨?devInfo, ?seqSync, ?echo, ?fnGet, ?cmdPortSet, ?cmdPortStatus, by simp⟩
  case devInfo => exact .ok rfl exec_devInfo State.devInfo.eq_def fun _ _ _ => rfl
  case seqSync => exact .ok rfl exec_seqSync State.seqSync.eq_def fun s c _ => (apply_ite (Answer.ok s) _ _ _).symm
  case echo => exact .ok rfl exec_echo State.echo.eq_def fun _ _ _ => rfl
  case fnGet => exact .ok rfl exec_fnGet State.fnGet.eq_def fun _ _ _ => rfl
  case cmdPortSet =>
    refine .ok rfl exec_cmdPortSet State.cmdPortSet.eq_def fun s c ⟨_, _, hcan⟩ => ite_eq_of_false ?_ rfl
    simpa only [acts, Bool.or_eq_true, decide_eq_true_eq, Bool.and_eq_false_iff, Bool.not_eq_false', decide_eq_false_iff_not] using hcan
  case cmdPortStatus => exact .ok rfl exec_cmdPortStatus State.cmdPortStatus.eq_def fun _ _ _ => rfl

/-- Class 0x01 (§3.8). -/
theorem rows1_handled : ∀ r ∈ rows1, r.Handled := by
  simp only [rows1, List.forall_mem_cons]
  refine ⟨?laneSet, ?laneGet, ?laneStatus, ?laneLoop, ?lanePrbs, ?mateSet, ?mateStatus, ?tribSet, ?tribGet, ?tribStatus, ?tribLoop, by simp⟩
  case laneSet =>
    refine .ok rfl exec_laneSet State.laneSet.eq_def fun s c ⟨_, _, hcan⟩ => ?_
    simp only [acts, Bool.and_eq_true, Bool.not_eq_true'] at hcan
    obtain ⟨⟨hconfig, hmoved⟩, hrate⟩ := hcan
    exact ite_eq_of_false hconfig (ite_eq_of_false hmoved (ite_eq_of_false hrate rfl))
  case laneGet => exact .ok rfl exec_laneGet State.laneGet.eq_def fun _ _ _ => rfl
  case laneStatus =>
    refine .ok rfl exec_laneStatus State.laneStatus.eq_def fun s c _ => ?_
    dsimp only
    by_cases hset : fld (s.laneCfg c.idx) 39 38 ≠ 0
    · simp only [if_pos hset, decide_eq_true hset, Bool.true_or, if_true]
    · cases hfrozen : (s.lane c.idx).frozen <;>
        simp only [if_neg hset, decide_eq_false hset, Bool.false_or, Bool.false_eq_true, if_true, if_false]
  case laneLoop =>
    refine .ok rfl exec_laneLoop State.laneLoop.eq_def fun s c ⟨_, _, hcan⟩ => ite_eq_of_false ?_ rfl
    rw [Bool.not_eq_true', Bool.and_or_distrib_left, ← Bool.and_assoc] at hcan
    exact hcan
  case lanePrbs =>
    refine .ok rfl exec_lanePrbs State.lanePrbs.eq_def fun s c ⟨_, _, hcan⟩ => ite_eq_of_false ?_ rfl
    rw [Bool.not_eq_true', Bool.and_or_distrib_left, ← Bool.and_assoc] at hcan
    exact hcan
  case mateSet => exact .ok rfl exec_mateSet State.mateSet.eq_def fun _ _ _ => rfl
  case mateStatus => exact .ok rfl exec_mateStatus State.mateStatus.eq_def fun _ _ _ => rfl
  case tribSet =>
    refine .ok rfl exec_tribSet State.tribSet.eq_def fun s c ⟨_, _, hcan⟩ => ?_
    simp only [acts, Bool.and_eq_true, Bool.not_eq_true'] at hcan
    obtain ⟨⟨⟨hmoved, hshort⟩, hframers⟩, hcontract⟩ := hcan
    exact ite_eq_of_false hmoved (ite_eq_of_false hshort (ite_eq_of_false hframers (ite_eq_of_false hcontract rfl)))
  case tribGet => exact .ok rfl exec_tribGet State.tribGet.eq_def fun _ _ _ => rfl
  case tribStatus => exact .ok rfl exec_tribStatus State.tribStatus.eq_def fun _ _ _ => rfl
  case tribLoop =>
    refine .ok rfl exec_tribLoop State.tribLoop.eq_def fun s c ⟨_, _, hcan⟩ => ite_eq_of_false ?_ rfl
    rwa [Bool.not_eq_true'] at hcan

/-- Settles O4, by the rows of the class. -/
theorem class00Completes : Obligations.Class00Completes := fun r hr => (rows0_handled r hr).completes

/-- Settles O5, by the rows of the class. -/
theorem class01Completes : Obligations.Class01Completes := fun r hr => (rows1_handled r hr).completes

end Sys2Proof.Machine
end

section
/-!
PROOFS. Class 0x02 (O6).
-/
namespace Sys2Proof.Machine

open Sys2Proof.Claims

/-- Class 0x02 (§4.9, §5.9). -/
theorem rows2_handled : ∀ r ∈ rows2, r.Handled := by
  simp only [rows2, List.forall_mem_cons]
  refine ⟨?sdhOhSet, ?sdhOhGet, ?sdhStatus, ?sdhCapture, ?pathOhSet, ?pathStatus, ?traceSet, ?traceGet, ?sdhThreshGet, ?e1Set, ?e1Get, ?e1Status, ?e1FramerBind, ?c37Status, ?gfpSet, ?gfpGet, ?gfpBind, ?gfpStatus, ?vcatSet, ?vcatGet, ?vcatMemberAdd, ?vcatMemberRemove, ?vcatStatus, by simp⟩
  case sdhOhSet => exact .ok rfl exec_sdhOhSet State.sdhOhSet.eq_def fun _ _ _ => rfl
  case sdhOhGet => exact .ok rfl exec_sdhOhGet State.sdhOhGet.eq_def fun _ _ _ => rfl
  case sdhStatus => exact .ok rfl exec_sdhStatus State.sdhStatus.eq_def fun _ _ _ => rfl
  case sdhCapture => exact .ok rfl exec_sdhCapture State.sdhCapture.eq_def fun _ _ _ => rfl
  case pathOhSet =>
    refine .ok rfl exec_pathOhSet State.pathOhSet.eq_def fun s c ⟨_, _, hcan⟩ => ite_eq_of_false ?_ rfl
    simp only [Bool.and_eq_true, Bool.or_eq_true, Bool.not_eq_true', decide_eq_true_eq] at hcan
    obtain ⟨hpair, hmarks⟩ := hcan
    rw [hpair, Bool.false_or, Bool.and_eq_false_iff, decide_eq_false_iff_not, Decidable.not_not]
    exact hmarks
  case pathStatus =>
    refine .ok rfl exec_pathStatus State.pathStatus.eq_def fun s c ⟨_, _, hcan⟩ => ite_eq_of_false ?_ rfl
    rwa [Bool.not_eq_false']
  case traceSet =>
    refine .ok rfl exec_traceSet State.traceSet.eq_def fun s c ⟨_, _, hcan⟩ => if_neg fun ⟨hlong, hnamed⟩ => ?_
    simp [hlong, hnamed] at hcan
  case traceGet => exact .ok rfl exec_traceGet State.traceGet.eq_def fun _ _ _ => rfl
  case sdhThreshGet =>
    refine .ok rfl exec_sdhThreshGet State.sdhThreshGet.eq_def fun s c ⟨_, _, hcan⟩ => ?_
    dsimp only at hcan ⊢
    cases hpath : flag (c.word 1) 0 <;> simp only [hpath, if_true, if_false, Bool.false_eq_true] at hcan ⊢ <;>
      simp only [hcan, Bool.not_true, Bool.false_eq_true, if_false]
  case e1Set => exact .ok rfl exec_e1Set State.e1Set.eq_def fun _ _ _ => rfl
  case e1Get => exact .ok rfl exec_e1Get State.e1Get.eq_def fun _ _ _ => rfl
  case e1Status => exact .ok rfl exec_e1Status State.e1Status.eq_def fun _ _ _ => rfl
  case e1FramerBind =>
    refine .ok rfl exec_e1FramerBind State.e1FramerBind.eq_def fun s c ⟨_, _, hcan⟩ => ?_
    simp only [Bool.and_eq_true, Bool.not_eq_true', decide_eq_true_eq] at hcan
    obtain ⟨⟨hbind, hunbound⟩, hroom⟩ := hcan
    have hmine : (s.cfg.fram.bank.find? fun x => decide (x.2 = some c.eid)) = none :=
      List.find?_eq_none.2 fun x hx => by simpa using List.any_eq_false.1 hunbound x hx
    dsimp only
    rw [if_pos hbind, hmine]
    exact if_neg (Nat.not_le.2 hroom)
  case c37Status => exact .ok rfl exec_c37Status State.c37Status.eq_def fun _ _ _ => rfl
  case gfpSet => exact .ok rfl exec_gfpSet State.gfpSet.eq_def fun _ _ _ => rfl
  case gfpGet => exact .ok rfl exec_gfpGet State.gfpGet.eq_def fun _ _ _ => rfl
  case gfpBind =>
    refine .ok rfl exec_gfpBind State.gfpBindOp.eq_def fun s c ⟨_, _, hcan⟩ => ?_
    simp only [acts, Bool.and_eq_true, Bool.or_eq_true, Bool.not_eq_true'] at hcan
    obtain ⟨⟨hbind, hfree⟩, hpath⟩ := hcan
    refine ite_eq_of_false hbind (ite_eq_of_false hfree (ite_eq_of_false ?_ (ite_eq_of_false ?_ rfl)))
    · rcases hpath with hgroup | ⟨hexists, -⟩
      · rw [hgroup]; rfl
      · rw [hexists, Bool.not_true, Bool.and_false]
    · rcases hpath with hgroup | ⟨-, htaken⟩
      · rw [hgroup]; rfl
      · rw [htaken, Bool.and_false]
  case gfpStatus => exact .ok rfl exec_gfpStatus State.gfpStatus.eq_def fun _ _ _ => rfl
  case vcatSet =>
    refine .ok rfl exec_vcatSet State.vcatSet.eq_def fun s c ⟨_, _, hcan⟩ => ite_eq_of_false ?_ rfl
    simpa [acts, Decidable.or_iff_not_imp_left] using hcan
  case vcatGet => exact .ok rfl exec_vcatGet State.vcatGet.eq_def fun _ _ _ => rfl
  case vcatMemberAdd =>
    refine .pending rfl exec_vcatMemberAdd State.memberAdd.eq_def fun s c ⟨_, _, hcan⟩ => ?_
    simp only [Bool.and_eq_true, Bool.not_eq_true', decide_eq_false_iff_not] at hcan
    obtain ⟨⟨⟨⟨hpath, htaken⟩, hroom⟩, hblocks⟩, hlcas⟩ := hcan
    refine ite_eq_of_false hpath (ite_eq_of_false htaken ((if_neg hroom).trans ((if_neg hblocks).trans ?_)))
    simp only [hlcas, if_true]
  case vcatMemberRemove =>
    refine .pending rfl exec_vcatMemberRemove State.memberRemove.eq_def fun s c ⟨_, _, hcan⟩ => ?_
    obtain ⟨hlcas, hmember⟩ := Bool.and_eq_true_iff.1 hcan
    exact ite_eq_of_false (congrArg not hmember) (if_pos hlcas)
  case vcatStatus => exact .ok rfl exec_vcatStatus State.vcatStatus.eq_def fun _ _ _ => rfl

/-- Settles O6, by the rows of the class and PATH_CAPTURE. -/
theorem class02Completes : Obligations.Class02Completes := by
  refine ⟨fun r hr => (rows2_handled r hr).completes, ?_⟩
  simp only [later2, List.forall_mem_cons]
  refine ⟨LaterRow.completes_of exec_pathCapture State.pathCapture.eq_def fun s c hcan => ?_, by simp⟩
  simp only [Bool.and_eq_true, Bool.not_eq_true'] at hcan
  obtain ⟨hexists, hidle⟩ := hcan
  exact ite_eq_of_false (congrArg not hexists) (ite_eq_of_false hidle rfl)

end Sys2Proof.Machine
end

section
/-!
SUPPORT. The change commands in a bushel: the form of each, and that a change joins the bushel it names.
-/
namespace Sys2Proof.Machine

open Sys2Proof.Claims

/-- A value fault that cannot hold is none. -/
theorem Cmd.faultFrom_concat_false (c : Cmd) (ms : List Word) (bad : List (Bool × Nat)) (i k : Nat) :
    c.faultFrom ms (bad ++ [(false, i)]) k = c.faultFrom ms bad k := by
  simp only [Cmd.faultFrom, List.filter_append, List.filter_cons, Bool.false_and, Bool.false_eq_true, if_false, List.filter_nil, List.append_nil]

theorem runOp_concat_false (s : State) (c : Cmd) (o : OpSpec) (bad : List (Bool × Nat)) (i : Nat) (own : Option (Nat × Nat)) (f : State → Answer) :
    s.runOp c o (bad ++ [(false, i)]) own f = s.runOp c o bad own f := by
  simp only [State.runOp, Cmd.faultFrom_concat_false]

/-- A change joins the open bushel it names, when that has room for one more (R208). -/
theorem State.addChange_inBushel {s : State} {c : Cmd} {f : ChangeForm} {b : Bushel} (hfull : f.full = false) (hnamed : c.bushel ≠ 0)
    (hb : inBushel s c = some b) :
    s.addChange c f = .ok (s.append b [f.change]) (f.data ++ [BitVec.ofNat 64 b.changes.length]) := by
  unfold inBushel at hb
  unfold State.addChange
  rw [hfull, if_neg Bool.false_ne_true, if_neg hnamed]
  cases hname : s.namedBushel c c.bushel.toNat with
  | inr _ => simp [hname] at hb
  | inl x =>
    rw [hname] at hb
    dsimp only at hb ⊢
    split at hb
    · next hroom => cases hb; exact if_neg (Nat.not_le.2 hroom)
    · cases hb

theorem State.changeOp_eq {s : State} {c : Cmd} {cls op : Nat} {f : ChangeForm}
    (h : s.changeForm (s.bushelView c.bushel.toNat) c cls op = some f) :
    s.changeOp c cls op = s.runOp c { cls := cls, op := op, priv := f.priv, masks := f.masks, change := true, mirror := if c.bushel = 0 then 1 else 0 }
      f.bad (c.ownsAll f.owners) fun s => s.addChange c f := by
  rw [State.changeOp, h]

section
variable {i : Cmd → Instr} {cls op priv : Nat} {masks : List Word} {bad0 : Cmd → List (Bool × Nat)} {bad : State → Cmd → List (Bool × Nat)}
  {obj : State → Cmd → Nat} {owners : BCfg → Nat → Cmd → List Nat} {data : Nat → List Word} {limit : Nat}
  (hexec : ∀ {s c}, c.wf = true → exec (i c) s = .next (s.changeOp c cls op))
include hexec

/-- A change command that comes to the row's checks and change is handled as the row says. -/
theorem joins_with_handled_of
    (hop : ∀ s c, ∃ f : ChangeForm, s.changeOp c cls op =
      s.runOp c { cls := cls, op := op, priv := priv, masks := masks, change := true, mirror := if c.bushel = 0 then 1 else 0 } (bad s c)
        (c.ownsAll (owners (s.bushelView c.bushel.toNat) (obj s c) c)) (fun s => s.addChange c f) ∧
      f.change = ⟨cls, op, obj s c, c.words⟩ ∧ f.data = data (obj s c) ∧ (obj s c < limit → f.full = false)) :
    OpRow.Handled { joins i cls op priv masks bad0 obj owners data limit with bad := bad } := by
  refine ⟨.inl rfl, fun s c hwf => ?_⟩
  obtain ⟨f, hf, hchange, hdata, hfull⟩ := hop s c
  refine ⟨_, _, _, ?_, (hexec hwf).trans (congrArg _ hf), fun ⟨_, hown, hcan⟩ => ?_⟩
  · exact ⟨rfl, rfl, rfl, rfl, rfl⟩
  simp only [joins, Bool.and_eq_true, decide_eq_true_eq, Option.isSome_iff_exists] at hcan
  obtain ⟨⟨hnamed, b, hb⟩, hlimit⟩ := hcan
  refine ⟨?_, hown, ?_⟩
  · simp only [if_neg hnamed]; rfl
  · rw [State.addChange_inBushel (hfull hlimit) hnamed hb, hchange, hdata]
    simp only [OpRow.answer, joins, hb]
    rfl

/-- A change command whose form is the row's is handled as the row says. -/
theorem joins_with_handled
    (hform : ∀ s c, ∃ full, s.changeForm (s.bushelView c.bushel.toNat) c cls op =
      some { priv := priv, masks := masks, bad := bad s c, owners := owners (s.bushelView c.bushel.toNat) (obj s c) c,
             change := ⟨cls, op, obj s c, c.words⟩, data := data (obj s c), full := full } ∧ (obj s c < limit → full = false)) :
    OpRow.Handled { joins i cls op priv masks bad0 obj owners data limit with bad := bad } := by
  refine joins_with_handled_of hexec fun s c => ?_
  obtain ⟨full, hf, hfull⟩ := hform s c
  exact ⟨_, State.changeOp_eq hf, rfl, rfl, hfull⟩

end

theorem joins_handled_of {i : Cmd → Instr} {cls op priv : Nat} {masks : List Word} {bad : Cmd → List (Bool × Nat)} {obj : State → Cmd → Nat}
    {owners : BCfg → Nat → Cmd → List Nat} {data : Nat → List Word} {limit : Nat}
    (hexec : ∀ {s c}, c.wf = true → exec (i c) s = .next (s.changeOp c cls op))
    (hop : ∀ s c, ∃ f : ChangeForm, s.changeOp c cls op =
      s.runOp c { cls := cls, op := op, priv := priv, masks := masks, change := true, mirror := if c.bushel = 0 then 1 else 0 } (bad c)
        (c.ownsAll (owners (s.bushelView c.bushel.toNat) (obj s c) c)) (fun s => s.addChange c f) ∧
      f.change = ⟨cls, op, obj s c, c.words⟩ ∧ f.data = data (obj s c) ∧ (obj s c < limit → f.full = false)) :
    OpRow.Handled (joins i cls op priv masks bad obj owners data limit) :=
  joins_with_handled_of (bad0 := bad) (bad := fun _ c => bad c) hexec hop

theorem joins_handled {i : Cmd → Instr} {cls op priv : Nat} {masks : List Word} {bad : Cmd → List (Bool × Nat)} {obj : State → Cmd → Nat}
    {owners : BCfg → Nat → Cmd → List Nat} {data : Nat → List Word} {limit : Nat}
    (hexec : ∀ {s c}, c.wf = true → exec (i c) s = .next (s.changeOp c cls op))
    (hform : ∀ s c, ∃ full, s.changeForm (s.bushelView c.bushel.toNat) c cls op =
      some { priv := priv, masks := masks, bad := bad c, owners := owners (s.bushelView c.bushel.toNat) (obj s c) c,
             change := ⟨cls, op, obj s c, c.words⟩, data := data (obj s c), full := full } ∧ (obj s c < limit → full = false)) :
    OpRow.Handled (joins i cls op priv masks bad obj owners data limit) :=
  joins_with_handled (bad0 := bad) (bad := fun _ c => bad c) hexec hform

end Sys2Proof.Machine
end

section
/-!
PROOFS. Classes 0x03 and 0x04 (O7, O8).
-/
namespace Sys2Proof.Machine

open Sys2Proof.Claims

/-- A number that ANY did not find beyond the limit leaves room. -/
theorem full_eq_false {any : Bool} {n limit : Nat} (h : n < limit) : (any && decide (limit ≤ n)) = false := by
  rw [decide_eq_false (Nat.not_le.2 h), Bool.and_false]

/-- A list with an entry that fits has a first one. -/
theorem exists_find_of_any {α : Type} {p : α → Bool} {l : List α} (h : l.any p = true) : ∃ x, l.find? p = some x :=
  Option.isSome_iff_exists.1 (List.find?_isSome.2 (List.any_eq_true.1 h))

/-- Class 0x03 (Table 7.10). -/
theorem rows3_handled : ∀ r ∈ rows3, r.Handled := by
  simp only [rows3, List.forall_mem_cons]
  refine ⟨?connAdd, ?connSet, ?connDel, ?connGet, ?connFind, ?connLatency, ?structSet, ?structGet, ?tugSet, ?tugGet, ?mapRead, by simp⟩
  case connAdd =>
    refine joins_handled exec_connAdd fun s c => ?_
    refine ⟨_, ?_, full_eq_false (any := flag (c.word 0) 63)⟩
    simp [State.changeForm, anyOr, newConn]
  case connSet => refine joins_handled exec_connSet fun s c => ?_; exact ⟨_, rfl, fun _ => rfl⟩
  case connDel => refine joins_handled exec_connDel fun s c => ?_; exact ⟨_, rfl, fun _ => rfl⟩
  case connGet => exact .ok rfl exec_connGet State.connGet.eq_def fun _ _ _ => rfl
  case connFind =>
    refine .ok rfl exec_connFind State.connFind.eq_def fun s c ⟨_, _, hcan⟩ => ?_
    obtain ⟨x, hx⟩ := exists_find_of_any hcan
    simp only [hx]
    rfl
  case connLatency =>
    refine .ok rfl exec_connLatency State.connLatency.eq_def fun s c ⟨_, _, hcan⟩ => ite_eq_of_false ?_ rfl
    rwa [Bool.not_eq_true'] at hcan
  case structSet => refine joins_with_handled exec_structSet fun s c => ?_; exact ⟨_, rfl, fun _ => rfl⟩
  case structGet => exact .ok rfl exec_structGet State.structGet.eq_def fun _ _ _ => rfl
  case tugSet => refine joins_handled exec_tugSet fun s c => ?_; exact ⟨_, rfl, fun _ => rfl⟩
  case tugGet => exact .ok rfl exec_tugGet State.tugGet.eq_def fun _ _ _ => rfl
  case mapRead => exact .ok rfl exec_mapRead State.mapRead.eq_def fun _ _ _ => rfl

/-- A commit that passes every check of R212 accepts the bushel (R213). -/
theorem State.commit_of_commits {s t : State} {b : Bushel} {sched : Bool} {fn : BitVec 48} {l : Nat} {x : Slot}
    (h : commits s b sched fn = some (l, x, t)) : s.commit b false sched fn = x.answer (t.accept b x l fn) (acceptWords t.tick.fn l x b.id) := by
  unfold commits at h
  dsimp only at h
  cases hchecks : (s.loadLength b.changes.length).2.commitChecks b.id b.changes sched fn (s.loadLength b.changes.length).1 with
  | inl f => simp [hchecks] at h
  | inr y =>
    simp only [hchecks, Option.ite_none_left_eq_some, Bool.or_eq_true, not_or, Bool.not_eq_true, Option.some.injEq, Prod.mk.injEq] at h
    obtain ⟨⟨⟨hsize, hfilled⟩, hroom⟩, rfl, rfl, rfl⟩ := h
    simp only [State.commit, hsize, hfilled, hchecks, hroom, Bool.false_eq_true, if_false]

/-- The bushel that a commit names is open and the sender's own. -/
theorem bushel_of_named {s : State} {c : Cmd} {b : Bushel} (h : named s c = some b) :
    s.bushel (fld (c.word 0) 15 0) = some b ∧ b.mode = .open_ ∧ (b.owner = c.t ∨ c.rank = SUP) := by
  simpa only [named, Option.filter_eq_some_iff, Bool.and_eq_true, Bool.or_eq_true, decide_eq_true_eq] using h

@[simp] theorem Bushel.make_changes (id owner : Nat) (ten : Bool) (cs : List Change) : (Bushel.make id owner ten cs).changes = cs := rfl

/-- SHED with something to release (R232, R233). -/
theorem shedRow_handled : shedRow.Handled := by
  refine .ok_of rfl exec_shed State.shed.eq_def (fun _ _ => ⟨rfl, rfl, rfl, rfl, rfl⟩) fun s c ⟨_, _, hcan⟩ => ?_
  simp only [shedRow, Bool.and_eq_true, Bool.not_eq_true', Option.isSome_iff_exists, Bushel.make_changes] at hcan
  obtain ⟨⟨hplan, x, hslot⟩, hroom⟩ := hcan
  simp only [shedRow, hplan, Bool.false_eq_true, if_false, Bushel.make_changes, hslot, hroom, true_and]

/-- Class 0x04 (Table 7.12). -/
theorem rows4_handled : ∀ r ∈ rows4, r.Handled := by
  simp only [rows4, List.forall_mem_cons]
  refine ⟨?bushelOpen, ?bushelCommit, ?bushelCancel, ?bushelStatus, ?shed, ?usageGet, ?bushelList, by simp⟩
  case bushelOpen =>
    refine .ok rfl exec_bushelOpen State.bushelOpen.eq_def fun s c ⟨_, _, hcan⟩ => ite_eq_of_false ?_ rfl
    simp only [Bool.and_eq_true, Bool.not_eq_true', decide_eq_true_eq] at hcan
    obtain ⟨hopens, hten⟩ := hcan
    rw [hten, Bool.or_false, decide_eq_false (Nat.not_le.2 hopens)]
  case bushelCommit =>
    refine .pending rfl exec_bushelCommit State.bushelCommit.eq_def fun s c ⟨_, _, hcan⟩ => ?_
    simp only [Bool.and_eq_true, decide_eq_true_eq] at hcan
    obtain ⟨hmode, hcommits⟩ := hcan
    cases hb : named s c with
    | none => simp [hb] at hcommits
    | some b =>
      obtain ⟨hat, hopen, hown⟩ := bushel_of_named hb
      have hforeign : ¬ (b.owner ≠ c.t ∧ c.rank ≠ SUP) := fun ⟨ht, hr⟩ => hown.elim ht hr
      simp only [hat, if_neg hforeign, hopen, ne_eq, not_true_eq_false, if_false]
      rw [hb] at hcommits
      have hcheck : decide (fld (c.word 0) 17 16 = 2) = false := decide_eq_false hmode
      dsimp only at hcommits ⊢
      simp only [hb, hcheck]
      cases hc : commits s b (decide (commitMode c = 1)) (BitVec.ofNat 48 (fld (c.word 1) 47 0)) with
      | none => simp [hc] at hcommits
      | some y =>
        obtain ⟨l, x, t⟩ := y
        refine (State.commit_of_commits hc).trans ?_
        rw [hc] at hcommits
        cases x with
        | now _ => cases hcommits
        | at_ _ => rfl
        | queue _ => rfl
  case bushelCancel =>
    refine .ok_of rfl exec_bushelCancel State.bushelCancel.eq_def (fun _ _ => ⟨rfl, rfl, rfl, rfl, rfl⟩) fun s c ⟨_, _, hcan⟩ => ⟨rfl, ?_⟩
    dsimp only at hcan ⊢
    cases hb : s.bushel (fld (c.word 0) 15 0) with
    | none => simp [hb] at hcan
    | some b =>
      simp only [hb, Bool.and_eq_true, Bool.or_eq_true, decide_eq_true_eq] at hcan
      obtain ⟨hown, hmode⟩ := hcan
      have hforeign : ¬ (b.owner ≠ c.t ∧ c.rank ≠ SUP) := fun ⟨ht, hr⟩ => hown.elim ht hr
      simp only [Option.any_some, decide_eq_false hforeign, Bool.false_eq_true, if_false, if_pos hmode, and_self]
  case bushelStatus =>
    refine .ok_of rfl exec_bushelStatus State.bushelStatus.eq_def (fun _ _ => ⟨rfl, rfl, rfl, rfl, rfl⟩) fun s c ⟨_, _, hcan⟩ => ⟨rfl, ?_⟩
    dsimp only at hcan ⊢
    cases hb : s.bushel (fld (c.word 0) 15 0) with
    | none => simp [hb] at hcan
    | some b =>
      rw [hb, Option.any_some] at hcan
      simp [Cmd.ownsAll, hcan]
  case shed =>
    refine .ok_of rfl exec_shed State.shed.eq_def (fun _ _ => ⟨rfl, rfl, rfl, rfl, rfl⟩) fun s c ⟨_, _, hcan⟩ => ?_
    dsimp only at hcan ⊢
    simp only [if_pos hcan, and_self]
  case usageGet => exact .ok rfl exec_usageGet State.usageGet.eq_def fun _ _ _ => rfl
  case bushelList => exact .ok rfl exec_bushelList State.bushelList.eq_def fun _ _ _ => rfl

/-- A change list that passes R208 and R235 joins the open bushel it names. -/
theorem fetchAppends : FetchAppends := by
  intro s c fetched b cs hacc hport hnamed hlen hdigest hlist hroom
  have hwhole : (fetched.take (32 * fld (c.word 0) 28 16)).length = 32 * fld (c.word 0) 28 16 := List.length_take_of_le hlen
  have hring : ¬ 2 ≤ c.port.val := Nat.not_le.2 hport
  rw [exec_bushelFetch hacc.1, State.bushelFetch]
  refine congrArg _ ((runOp_ok (o := fetchSpec) (own := none) hacc rfl ?_ (.inl rfl)).trans (finish_plain _ _ _ _ _ rfl rfl))
  simp only [if_neg hring, hnamed, hwhole, hdigest, hlist, Nat.lt_irrefl, ne_eq, not_true_eq_false, or_self, if_false, if_neg (Nat.not_lt.2 hroom)]

/-- Settles O7, by the rows of the class. -/
theorem class03Completes : Obligations.Class03Completes := fun r hr => (rows3_handled r hr).completes

/-- Settles O8, by the rows of the class. -/
theorem class04Completes : Obligations.Class04Completes :=
  ⟨fun r hr => (rows4_handled r hr).completes, shedRow_handled.completes, fetchAppends⟩

end Sys2Proof.Machine
end

section
/-!
PROOFS. Classes 0x05 and 0x07 (O9, O11).
-/
namespace Sys2Proof.Machine

open Sys2Proof.Claims

/-- Class 0x05 (Table 8.9). -/
theorem rows5_handled : ∀ r ∈ rows5, r.Handled := by
  simp only [rows5, List.forall_mem_cons]
  refine ⟨?pgAdd, ?pgSet, ?pgDel, ?pgGet, ?pgStatus, ?lpSet, ?lpDel, ?lpGet, ?lpStatus, ?pgScan, by simp⟩
  case pgAdd =>
    refine joins_handled exec_pgAdd fun s c => ?_
    refine ⟨_, ?_, full_eq_false (any := flag (c.word 0) 63)⟩
    simp [State.changeForm, anyOr, newPg]
  case pgSet => refine joins_handled exec_pgSet fun s c => ?_; exact ⟨_, rfl, fun _ => rfl⟩
  case pgDel => refine joins_handled exec_pgDel fun s c => ?_; exact ⟨_, rfl, fun _ => rfl⟩
  case pgGet => exact .ok rfl exec_pgGet State.pgGet.eq_def fun _ _ _ => rfl
  case pgStatus =>
    refine .ok rfl exec_pgStatus State.pgStatus.eq_def fun s c ⟨_, _, hcan⟩ => ?_
    obtain ⟨r, hr⟩ := Option.isSome_iff_exists.1 hcan
    have hr' : s.cfg.b.pg (fld (c.word 0) 13 0) = some r := hr
    simp only [hr']
    rfl
  case lpSet => refine joins_handled exec_lpSet fun s c => ?_; exact ⟨_, rfl, fun _ => rfl⟩
  case lpDel =>
    refine joins_handled_of exec_lpDel fun s c => ?_
    exact ⟨_, (State.changeOp_eq rfl).trans (runOp_concat_false s c _ [(decide (19 < lpAt c), 0)] 1 _ _), rfl, rfl, fun _ => rfl⟩
  case lpGet => exact .ok rfl exec_lpGet State.lpGet.eq_def fun _ _ _ => rfl
  case lpStatus =>
    refine .ok rfl exec_lpStatus State.lpStatus.eq_def fun s c ⟨_, _, hcan⟩ => ?_
    obtain ⟨w, hw⟩ := Option.isSome_iff_exists.1 hcan
    have hw' : s.cfg.b.lp (fld (c.word 0) 4 0) = some w := hw
    simp only [hw, hw', Option.getD_some]
    rfl
  case pgScan => exact .ok rfl exec_pgScan State.pgScan.eq_def fun _ _ _ => rfl

/-- A protection command that nothing above it stands against waits for the evaluation that sees it (R257, R263). -/
theorem State.protCmd_waits {s : State} {group : Bool} {n wtr code : Nat} (h : ¬ ((code = 3 ∨ code = 4) ∧ 3 ≤ (s.protection group n).level)) :
    s.protCmd group n wtr code =
      .later (s.putProt group n wtr { s.protection group n with cmd := code }) (if group then .group n false else .pair n false) :=
  if_neg h

/-- PG_CMD and LP_CMD. -/
theorem later5_completes : ∀ r ∈ later5, r.completes := by
  simp only [later5, List.forall_mem_cons]
  refine ⟨?pgCmd, ?lpCmd, by simp⟩
  case pgCmd =>
    refine LaterRow.completes_of exec_pgCmd State.pgCmd.eq_def fun s c hcan => ?_
    simp only [Bool.and_eq_true, Bool.not_eq_true', decide_eq_false_iff_not, Option.isSome_iff_exists] at hcan
    obtain ⟨⟨r, hr⟩, hlevel⟩ := hcan
    have hr' : s.cfg.b.pg (fld (c.word 0) 13 0) = some r := hr
    simp only [hr, hr', Option.getD_some]
    exact State.protCmd_waits hlevel
  case lpCmd =>
    refine LaterRow.completes_of exec_lpCmd State.lpCmd.eq_def fun s c hcan => ?_
    simp only [Bool.and_eq_true, Bool.not_eq_true', decide_eq_false_iff_not, Option.isSome_iff_exists] at hcan
    obtain ⟨⟨w, hw⟩, hlevel⟩ := hcan
    have hw' : s.cfg.b.lp (fld (c.word 0) 4 0) = some w := hw
    simp only [hw, hw', Option.getD_some]
    exact State.protCmd_waits hlevel

/-- Settles O9, by the rows of the class. -/
theorem class05Completes : Obligations.Class05Completes := ⟨fun r hr => (rows5_handled r hr).completes, later5_completes⟩

/-- Class 0x07 (Table 10.10). -/
theorem rows7_handled : ∀ r ∈ rows7, r.Handled := by
  simp only [rows7, List.forall_mem_cons]
  refine ⟨?queueAdd, ?queueSet, ?queueDel, ?queueGet, ?queueStatus, ?hdrSet, ?hdrGet, ?psnSet, ?psnGet, ?fwdSet, ?fwdGet, ?pieStatus, by simp⟩
  case queueAdd =>
    refine joins_handled exec_queueAdd fun s c => ?_
    refine ⟨_, ?_, full_eq_false (any := flag (c.word 0) 63)⟩
    simp [State.changeForm, anyOr, newQueue, queueFaults]
  case queueSet => refine joins_handled exec_queueSet fun s c => ?_; exact ⟨_, rfl, fun _ => rfl⟩
  case queueDel => refine joins_handled exec_queueDel fun s c => ?_; exact ⟨_, rfl, fun _ => rfl⟩
  case queueGet => exact .ok rfl exec_queueGet State.queueGet.eq_def fun _ _ _ => rfl
  case queueStatus => exact .ok rfl exec_queueStatus State.queueStatus.eq_def fun _ _ _ => rfl
  case hdrSet =>
    refine .ok rfl exec_hdrSet State.hdrSet.eq_def fun s c ⟨_, _, hcan⟩ => ?_
    simp only [Bool.and_eq_true, Bool.not_eq_true', decide_eq_false_iff_not] at hcan
    obtain ⟨hkind, htemplate⟩ := hcan
    exact (if_neg hkind).trans (ite_eq_of_false (congrArg not htemplate) rfl)
  case hdrGet => exact .ok rfl exec_hdrGet State.hdrGet.eq_def fun _ _ _ => rfl
  case psnSet => exact .ok rfl exec_psnSet State.psnSet.eq_def fun _ _ _ => rfl
  case psnGet => exact .ok rfl exec_psnGet State.psnGet.eq_def fun _ _ _ => rfl
  case fwdSet =>
    refine .ok rfl exec_fwdSet State.fwdSet.eq_def fun s c ⟨_, _, hcan⟩ => ite_eq_of_false ?_ rfl
    simpa only [acts, Bool.not_eq_true'] using hcan
  case fwdGet => exact .ok rfl exec_fwdGet State.fwdGet.eq_def fun _ _ _ => rfl
  case pieStatus => exact .ok rfl exec_pieStatus State.pieStatus.eq_def fun _ _ _ => rfl

/-- Settles O11, by the rows of the class. -/
theorem class07Completes : Obligations.Class07Completes := fun r hr => (rows7_handled r hr).completes

end Sys2Proof.Machine
end

section
/-!
PROOFS. Class 0x06 (O10): ALIGN_STATUS answers bit 31 only in a locked state, where the row answers the kept SKEW alone.
-/
namespace Sys2Proof.Machine

open Sys2Proof.Claims

/-- What a step sends. -/
def outsOf : Host.Outcome State Fault Refusal → List Out
  | .next t => t.outs
  | _ => []

/-- Group 0 stands and searches, and its kept SKEW is set. -/
def skewedSearch : State :=
  { Tests.sGroup with align.groups := [(0, { AlignGroup.reset with skew := true })] }

/-- The reply of ALIGN_STATUS of a group that searches has bit 31 clear. -/
theorem alignStatus_skewedSearch : rows6[2].met skewedSearch (Tests.cmd [0]) = true ∧
    outsOf (exec (rows6[2].instr (Tests.cmd [0])) skewedSearch) ≠
      outsOf (.next ((rows6[2].eff skewedSearch (Tests.cmd [0])).1.finish (Tests.cmd [0]) (rows6[2].spec skewedSearch (Tests.cmd [0]))
        rows6[2].status (rows6[2].eff skewedSearch (Tests.cmd [0])).2)) := by
  decide +kernel

/-- Refutes O10: of a group whose kept SKEW is set while it searches, ALIGN_STATUS answers SKEW 0 and the row 1. -/
theorem not_class06Completes : ¬ Obligations.Class06Completes := by
  intro ⟨h, _⟩
  obtain ⟨hmet, hdiffers⟩ := alignStatus_skewedSearch
  exact hdiffers (congrArg outsOf (h _ (List.getElem_mem _) _ _ hmet))

end Sys2Proof.Machine
end

section
/-!
PROOFS. Classes 0x08, 0x09 and 0x0A (O12, O13, O14).
-/
namespace Sys2Proof.Machine

open Sys2Proof.Claims

/-- Class 0x08 (Table 11.12). -/
theorem rows8_handled : ∀ r ∈ rows8, r.Handled := by
  simp only [rows8, List.forall_mem_cons]
  refine ⟨?timSysGet, ?timInSet, ?timInGet, ?timInStatus, ?timStatus, ?timModelSet, ?timModelGet, ?timModelLearn, ?timOutSet, ?timOutGet,
    ?timMonSet, ?todSet, ?ptpSet, ?ptpPortSet, ?ptpStatus, ?timThermSet, by simp⟩
  case timSysGet => exact .ok rfl exec_timSysGet State.timSysGet.eq_def fun _ _ _ => rfl
  case timInSet => exact .ok rfl exec_timInSet State.timInSet.eq_def fun _ _ _ => rfl
  case timInGet => exact .ok rfl exec_timInGet State.timInGet.eq_def fun _ _ _ => rfl
  case timInStatus => exact .ok rfl exec_timInStatus State.timInStatus.eq_def fun _ _ _ => rfl
  case timStatus => exact .ok rfl exec_timStatus State.timStatus.eq_def fun _ _ _ => rfl
  case timModelSet =>
    refine .ok rfl exec_timModelSet State.timModelSet.eq_def fun s c ⟨_, _, hcan⟩ => ite_eq_of_false ?_ rfl
    simp only [acts, Bool.or_eq_true, Bool.not_eq_true'] at hcan
    rw [Bool.and_eq_false_iff]
    exact hcan.imp id (congrArg not)
  case timModelGet => exact .ok rfl exec_timModelGet State.timModelGet.eq_def fun _ _ _ => rfl
  case timModelLearn => exact .ok rfl exec_timModelLearn State.timModelLearn.eq_def fun _ _ _ => rfl
  case timOutSet => exact .ok rfl exec_timOutSet State.timOutSet.eq_def fun _ _ _ => rfl
  case timOutGet => exact .ok rfl exec_timOutGet State.timOutGet.eq_def fun _ _ _ => rfl
  case timMonSet => exact .ok rfl exec_timMonSet State.timMonSet.eq_def fun _ _ _ => rfl
  case todSet =>
    refine .ok rfl exec_todSet State.todSet.eq_def fun s c ⟨_, _, hcan⟩ => ?_
    exact if_neg (not_not_intro (of_decide_eq_true hcan))
  case ptpSet => exact .ok rfl exec_ptpSet State.ptpSet.eq_def fun _ _ _ => rfl
  case ptpPortSet =>
    refine .ok rfl exec_ptpPortSet State.ptpPortSet.eq_def fun s c ⟨_, _, hcan⟩ => ite_eq_of_false ?_ rfl
    simpa only [acts, Bool.not_eq_true'] using hcan
  case ptpStatus => exact .ok rfl exec_ptpStatus State.ptpStatus.eq_def fun _ _ _ => rfl
  case timThermSet => exact .ok rfl exec_timThermSet State.timThermSet.eq_def fun _ _ _ => rfl

/-- TIM_SYS_SET and TIM_HOLDOVER (R374). -/
theorem later8_completes : ∀ r ∈ later8, r.completes := by
  simp only [later8, List.forall_mem_cons]
  refine ⟨?timSysSet, ?timHoldover, by simp⟩
  case timSysSet =>
    refine LaterRow.completes_of exec_timSysSet State.timSysSet.eq_def fun s c hcan => ite_eq_of_false ?_ rfl
    simpa only [Bool.not_eq_true'] using hcan
  case timHoldover => exact LaterRow.completes_of exec_timHoldover State.timHoldover.eq_def fun _ _ _ => rfl

/-- Settles O12, by the rows of the class. -/
theorem class08Completes : Obligations.Class08Completes := ⟨fun r hr => (rows8_handled r hr).completes, later8_completes⟩

/-- Class 0x09 (Table 12.11). -/
theorem rows9_handled : ∀ r ∈ rows9, r.Handled := by
  simp only [rows9, List.forall_mem_cons]
  refine ⟨?tenantSet, ?tenantGet, ?tenantDel, ?tenantList, ?keyLoad, ?keyRetire, ?authLogGet, by simp⟩
  case tenantSet => exact .ok rfl exec_tenantSet State.tenantSet.eq_def fun _ _ _ => rfl
  case tenantGet => exact .ok rfl exec_tenantGet State.tenantGet.eq_def fun _ _ _ => rfl
  case tenantDel =>
    refine .ok rfl exec_tenantDel State.tenantDel.eq_def fun s c ⟨_, _, hcan⟩ => if_neg ?_
    simp only [acts, Bool.and_eq_true, Bool.not_eq_true', decide_eq_true_eq] at hcan
    rw [not_or, Bool.not_eq_true]
    exact hcan
  case tenantList => exact .ok rfl exec_tenantList State.tenantList.eq_def fun _ _ _ => rfl
  case keyLoad =>
    refine .ok rfl exec_keyLoad State.keyLoad.eq_def fun s c ⟨_, _, hcan⟩ => ?_
    simp only [Bool.and_eq_true, decide_eq_true_eq, Option.isNone_iff_eq_none] at hcan
    obtain ⟨⟨⟨⟨hstate, hslot⟩, hkcv⟩, hkey⟩, hroom⟩ := hcan
    have hfull : ¬ 1024 ≤ s.jr.keys.length := Nat.not_le.2 hroom
    simp only [unlessFail_cons, unlessFail_nil, hslot, decide_eq_false hstate, Option.isSome_none, Bool.or_self, Bool.false_eq_true, if_false, hkcv,
      hkey, hfull, ne_eq, not_true_eq_false, decide_false, or_self]
  case keyRetire =>
    refine .ok rfl exec_keyRetire State.keyRetire.eq_def fun s c ⟨_, _, hcan⟩ => ite_eq_of_false ?_ rfl
    simp only [Bool.and_eq_true, Bool.not_eq_true', Option.isSome_iff_ne_none] at hcan
    obtain ⟨hslot, hlast⟩ := hcan
    rw [hlast, Bool.or_false, Option.isNone_eq_false_iff, Option.isSome_iff_ne_none]
    exact hslot
  case authLogGet => exact .ok rfl exec_authLogGet State.authLogGet.eq_def fun _ _ _ => rfl

/-- Settles O13, by the rows of the class. -/
theorem class09Completes : Obligations.Class09Completes := fun r hr => (rows9_handled r hr).completes

/-- Class 0x0A (Table 14.9). -/
theorem rows10_handled : ∀ r ∈ rows10, r.Handled := by
  simp only [rows10, List.forall_mem_cons]
  refine ⟨?counterSet, ?counterGet, ?counterRead, ?counterClear, ?filterSet, ?filterGet, ?userSlotSet, ?wordTraceSet, ?traceRead, ?traceClear,
    by simp⟩
  case counterSet =>
    refine .ok rfl exec_counterSet State.counterSet.eq_def fun s c ⟨_, _, hcan⟩ => ?_
    obtain ⟨i, hpick, hsuits⟩ := (Option.any_eq_true ..).1 hcan
    have hpick' := hpick
    simp only [ctrPick, ctrAt] at hpick'
    simp only [hpick, hpick', hsuits, Bool.not_true, Bool.false_eq_true, if_false, Option.getD_some]
  case counterGet => exact .ok rfl exec_counterGet State.counterGet.eq_def fun _ _ _ => rfl
  case counterRead => exact .ok rfl exec_counterRead State.counterRead.eq_def fun _ _ _ => rfl
  case counterClear => exact .ok rfl exec_counterClear State.counterClear.eq_def fun _ _ _ => rfl
  case filterSet => exact .ok rfl exec_filterSet State.filterSet.eq_def fun _ _ _ => rfl
  case filterGet => exact .ok rfl exec_filterGet State.filterGet.eq_def fun _ _ _ => rfl
  case userSlotSet => exact .ok rfl exec_userSlotSet State.userSlotSet.eq_def fun _ _ _ => rfl
  case wordTraceSet => exact .ok rfl exec_wordTraceSet State.wordTraceSet.eq_def fun _ _ _ => rfl
  case traceRead => exact .ok rfl exec_traceRead State.traceRead.eq_def fun _ _ _ => rfl
  case traceClear => exact .ok rfl exec_traceClear State.traceClear.eq_def fun _ _ _ => rfl

/-- SNAPSHOT and COUNTER_DUMP (R472, R473). -/
theorem later10_completes : ∀ r ∈ later10, r.completes := by
  simp only [later10, List.forall_mem_cons]
  refine ⟨?snapshot, ?counterDump, by simp⟩
  case snapshot => exact LaterRow.completes_of exec_snapshot State.snapshotCmd.eq_def fun _ _ _ => rfl
  case counterDump =>
    refine LaterRow.completes_of exec_counterDump State.counterDump.eq_def fun s c hcan => if_neg ?_
    exact Nat.not_le.2 (of_decide_eq_true hcan)

/-- Settles O14, by the rows of the class. -/
theorem class0ACompletes : Obligations.Class0ACompletes := ⟨fun r hr => (rows10_handled r hr).completes, later10_completes⟩

end Sys2Proof.Machine
end

section
/-!
PROOFS. Classes 0x0B to 0x0F (O15, O16, O17, O18, O19).
-/
namespace Sys2Proof.Machine

open Sys2Proof.Claims

/-- Class 0x0B (Table 15.9). -/
theorem rows11_handled : ∀ r ∈ rows11, r.Handled := by
  simp only [rows11, List.forall_mem_cons]
  refine ⟨?memStatus, ?memErrLog, ?journalStatus, ?journalRead, ?memInject, by simp⟩
  case memStatus => exact .ok rfl exec_memStatus State.memStatus.eq_def fun _ _ _ => rfl
  case memErrLog => exact .ok rfl exec_memErrLog State.memErrLog.eq_def fun _ _ _ => rfl
  case journalStatus => exact .ok rfl exec_journalStatus State.journalStatus.eq_def fun _ _ _ => rfl
  case journalRead => exact .ok rfl exec_journalRead State.journalRead.eq_def fun _ _ _ => rfl
  case memInject =>
    refine .ok rfl exec_memInject State.memInject.eq_def fun s c ⟨_, _, hcan⟩ => ?_
    rw [unlessFail_cons, unlessFail_nil]
    refine ite_eq_of_false ?_ rfl
    simpa only [Bool.not_eq_true'] using hcan

/-- JOURNAL_COMPACT (R506). -/
theorem later11_completes : ∀ r ∈ later11, r.completes := by
  simp only [later11, List.forall_mem_cons]
  refine ⟨LaterRow.completes_of exec_journalCompact State.journalCompact.eq_def fun s c hcan => ite_eq_of_false ?_ rfl, by simp⟩
  simpa only [Bool.not_eq_true'] using hcan

/-- CKPT_NOW takes the checkpoint, and its deferred reply is fixed at once (R475). -/
theorem checkpointTaken : CheckpointTaken := by
  intro s c hacc hslot
  rw [exec_ckptNow hacc.1, State.ckptNow]
  exact congrArg (fun t => Host.Outcome.next (State.fix t _ _ _)) (runOp_later hacc rfl rfl hslot)

/-- Settles O15, by the rows of the class. -/
theorem class0BCompletes : Obligations.Class0BCompletes :=
  ⟨fun r hr => (rows11_handled r hr).completes, later11_completes, checkpointTaken⟩

/-- Class 0x0C (Table 16.9). -/
theorem rows12_handled : ∀ r ∈ rows12, r.Handled := by
  simp only [rows12, List.forall_mem_cons]
  refine ⟨?pairSet, ?pairGet, ?pairStatus, ?pairHold, ?pairResync, by simp⟩
  case pairSet =>
    refine .ok rfl exec_pairSet State.pairSet.eq_def fun s c ⟨_, _, hcan⟩ => ite_eq_of_false ?_ rfl
    simpa only [acts, Bool.not_eq_true'] using hcan
  case pairGet => exact .ok rfl exec_pairGet State.pairGet.eq_def fun _ _ _ => rfl
  case pairStatus => exact .ok rfl exec_pairStatus State.pairStatus.eq_def fun _ _ _ => rfl
  case pairHold => exact .ok rfl exec_pairHold State.pairHold.eq_def fun _ _ _ => rfl
  case pairResync =>
    refine .ok rfl exec_pairResync State.pairResync.eq_def fun s c ⟨_, _, hcan⟩ => ite_eq_of_false ?_ rfl
    simpa only [acts, Bool.not_eq_true'] using hcan

/-- PAIR_FORCE (R526). -/
theorem later12_completes : ∀ r ∈ later12, r.completes := by
  simp only [later12, List.forall_mem_cons]
  refine ⟨LaterRow.completes_of exec_pairForce State.pairForce.eq_def fun s c hcan => ?_, by simp⟩
  cases htake : flag (c.word 1) 0 with
  | false => simp only [htake, Bool.false_eq_true, if_false]
  | true =>
    simp only [htake, Bool.not_true, Bool.false_or, Bool.not_eq_true'] at hcan
    simp only [htake, hcan, Bool.false_eq_true, if_true, if_false]

/-- PAIR_SWITCH (R522). -/
theorem switchProposes : SwitchProposes := by
  intro s c hacc hidle hmode hup hhealthy hslot
  rw [exec_pairSwitch hacc.1, State.pairSwitch]
  have hactive : (decide (s.pair.mode ≠ .active) || !s.pair.mateUp || !s.pair.peer.healthy) = false := by
    rw [hmode, hup, hhealthy]; rfl
  exact congrArg _ (Eq.trans (runOp_later (o := plainOp 0x0C 0x04 OPR [0, maskOf [(47, 0)]]) hacc rfl
    (unlessFail_pass (Option.isSome_eq_false_iff.2 (Option.isNone_iff_eq_none.2 hidle)) (unlessFail_pass hactive rfl)) hslot) rfl)

/-- Settles O16, by the rows of the class. -/
theorem class0CCompletes : Obligations.Class0CCompletes :=
  ⟨fun r hr => (rows12_handled r hr).completes, later12_completes, switchProposes⟩

/-- Class 0x0D (Table 17.10). -/
theorem rows13_handled : ∀ r ∈ rows13, r.Handled := by
  simp only [rows13, List.forall_mem_cons]
  refine ⟨?pwrSet, ?pwrGet, ?wakeSet, ?wakeGet, ?pwrStatus, ?wakeLog, ?sleepGapGet, ?voscCtrl, ?firkinCheck, ?wakeSend, by simp⟩
  case pwrSet => exact .ok rfl exec_pwrSet State.pwrSet.eq_def fun _ _ _ => rfl
  case pwrGet => exact .ok rfl exec_pwrGet State.pwrGet.eq_def fun _ _ _ => rfl
  case wakeSet => exact .ok rfl exec_wakeSet State.wakeSet.eq_def fun _ _ _ => rfl
  case wakeGet => exact .ok rfl exec_wakeGet State.wakeGet.eq_def fun _ _ _ => rfl
  case pwrStatus => exact .ok rfl exec_pwrStatus State.pwrStatus.eq_def fun _ _ _ => rfl
  case wakeLog => exact .ok rfl exec_wakeLog State.wakeLogGet.eq_def fun _ _ _ => rfl
  case sleepGapGet => exact .ok rfl exec_sleepGapGet State.sleepGapGet.eq_def fun _ _ _ => rfl
  case voscCtrl =>
    exact .ok rfl exec_voscCtrl State.voscCtrl.eq_def fun s c ⟨_, _, hcan⟩ => ite_eq_of_false (congrArg not hcan) rfl
  case firkinCheck => exact .ok rfl exec_firkinCheck State.firkinCheck.eq_def fun _ _ _ => rfl
  case wakeSend =>
    refine .ok rfl exec_wakeSend State.wakeSend.eq_def fun s c ⟨_, _, hcan⟩ => ite_eq_of_false ?_ rfl
    simp only [acts, Bool.or_eq_true, Bool.not_eq_true', decide_eq_true_eq] at hcan
    rw [Bool.and_eq_false_iff, decide_eq_false_iff_not, Decidable.not_not]
    exact hcan

/-- PWR_STATE to Run or Firkin (R531, R535). -/
theorem powerStateMoves : PowerStateMoves := by
  intro s c hacc hgill hmode
  have hup : (!decide (s.pwr.mode = .run ∨ s.pwr.mode = .firkin)) = false := congrArg not (decide_eq_true hmode)
  have hentry : s.pwr.mode ≠ .entry := by rcases hmode with h | h <;> simp [h]
  rw [exec_pwrState hacc.1]
  unfold State.pwrState
  extract_lets v spec r
  constructor
  · intro hgoal hthere
    have hr : r = s.answer c 0x0D 0x01 stOk 0 [s.tick.fn.setWidth 64] := by
      refine (runOp_ok (o := pwrSpec) hacc rfl ((if_neg hgill).trans (ite_eq_of_false hup (if_pos ?_))) (.inl rfl)).trans
        (finish_plain _ _ _ _ _ rfl rfl)
      exact ⟨Option.isNone_iff_eq_none.2 hgoal, hthere⟩
    rw [hr, State.answer_pwr, if_neg fun h => hentry h.1]
  · intro hmoves hslot
    have hr : r = { s with
        pwr.goal := some (decide (v = 1)), cmd.deferred := s.cmd.deferred ++ [⟨c, 0x0D, 0x01, .pwrState, none⟩] } :=
      Eq.trans (runOp_later (o := pwrSpec) hacc rfl
        ((if_neg hgill).trans (ite_eq_of_false hup (if_neg fun h : _ ∧ _ => hmoves h.2))) hslot) rfl
    rw [hr, if_neg fun h => hentry h.1]

/-- PWR_STATE to the Gill state (R543, R544). -/
theorem gillBegins : GillBegins := by
  intro s c hacc hgill hmode htoken hsched hcopy hpfw
  rw [exec_pwrState hacc.1]
  unfold State.pwrState
  extract_lets v spec r
  have hclear : ((s.paired && s.pair.token) || (s.bush.list.any fun b => b.scheduled && b.live) || decide (s.tick.copyLeft ≠ 0) || s.pwr.pfwLow ||
      !decide (s.pwr.mode = .run ∨ s.pwr.mode = .firkin)) = false := by
    rw [htoken, hsched, hcopy, hpfw, decide_eq_true hmode]; rfl
  have hr : r = State.finish { s with
      pwr.fromFirkin := decide (s.pwr.mode = .firkin), pwr.mode := .entry, pwr.entryEnd := s.now + 160, pwr.goal := none }
      c pwrSpec stOk [s.tick.fn.setWidth 64] :=
    runOp_ok (o := pwrSpec) hacc rfl ((if_pos hgill).trans (unlessFail_pass hclear rfl)) (.inl rfl)
  have hentry : s.pwr.mode ≠ .entry := by rcases hmode with h | h <;> simp [h]
  have hbegins : r.pwr.mode = .entry := by
    rw [hr, finish_plain _ _ _ _ _ rfl rfl, State.answer_pwr]
  rw [if_pos ⟨hbegins, hentry⟩, hr]

/-- Settles O17, by the rows of the class. -/
theorem class0DCompletes : Obligations.Class0DCompletes :=
  ⟨fun r hr => (rows13_handled r hr).completes, powerStateMoves, gillBegins⟩

/-- Class 0x0E (Table 18.11). -/
theorem rows14_handled : ∀ r ∈ rows14, r.Handled := by
  simp only [rows14, List.forall_mem_cons]
  refine ⟨?sysReset, ?resetLog, ?wdtSet, ?tamperSet, ?tamperGet, ?tamperClear, ?tamperLog, ?captureStatus, ?recSet, by simp⟩
  case sysReset =>
    refine .ok rfl exec_sysReset State.sysReset.eq_def fun s c ⟨_, _, hcan⟩ => ite_eq_of_false ?_ rfl
    simp only [acts] at hcan
    simp only [Bool.and_eq_false_iff, Bool.not_eq_false', Bool.or_eq_true, Bool.not_eq_true'] at hcan ⊢
    exact hcan
  case resetLog => exact .ok rfl exec_resetLog State.resetLog.eq_def fun _ _ _ => rfl
  case wdtSet => exact .ok rfl exec_wdtSet State.wdtSet.eq_def fun _ _ _ => rfl
  case tamperSet => exact .ok rfl exec_tamperSet State.tamperSet.eq_def fun _ _ _ => rfl
  case tamperGet => exact .ok rfl exec_tamperGet State.tamperGet.eq_def fun _ _ _ => rfl
  case tamperClear => exact .ok rfl exec_tamperClear State.tamperClear.eq_def fun _ _ _ => rfl
  case tamperLog => exact .ok rfl exec_tamperLog State.tamperLogGet.eq_def fun _ _ _ => rfl
  case captureStatus => exact .ok rfl exec_captureStatus State.captureStatus.eq_def fun _ _ _ => rfl
  case recSet => exact .ok rfl exec_recSet State.recSet.eq_def fun _ _ _ => rfl

/-- FW_STAGE (R585). -/
theorem stageBegins : StageBegins := by
  intro s c image hacc hport hidle hsound hslot
  rw [exec_fwStage hacc.1, State.fwStage]
  exact congrArg _ (Eq.trans (runOp_later (o := plainOp 0x0E 0x0B SUP [0, allBits, maskOf [(31, 0)]]) hacc rfl
    (unlessFail_pass (decide_eq_false (Nat.not_le.2 hport)) (unlessFail_pass hidle
      (unlessFail_pass (decide_eq_false (not_not_intro hsound)) rfl))) hslot) rfl)

/-- RETURN_CAPTURE (R583, R584). -/
theorem captureRuns : CaptureRuns := by
  intro s c hacc hmay hslot
  have hfree : (s.pair.token && !flag (c.word 1) 9) = false := by rcases hmay with h | h <;> simp [h]
  rw [exec_returnCapture hacc.1]
  unfold State.returnCapture
  extract_lets w r
  have hr : r = { s with cmd.deferred := s.cmd.deferred ++ [⟨c, 0x0E, 0x08, .returnCapture, none⟩] } :=
    Eq.trans (runOp_later (o := plainOp 0x0E 0x08 SUP ([0, maskOf [(9, 0)]] ++ List.replicate 8 allBits)) hacc rfl
      (ite_eq_of_false hfree rfl) hslot) rfl
  rw [hr, if_neg (by simp)]

/-- Settles O18, by the rows of the class. -/
theorem class0ECompletes : Obligations.Class0ECompletes :=
  ⟨fun r hr => (rows14_handled r hr).completes, stageBegins, captureRuns⟩

/-- Class 0x0F (Table 14.10). -/
theorem rows15_handled : ∀ r ∈ rows15, r.Handled := by
  simp only [rows15, List.forall_mem_cons]
  refine ⟨?eventRead, ?eventLogStatus, ?evicRegRead, ?evicRegWrite, by simp⟩
  case eventRead => exact .ok rfl exec_eventRead State.eventRead.eq_def fun s c _ => (apply_ite (Answer.ok s) _ _ _).symm
  case eventLogStatus => exact .ok rfl exec_eventLogStatus State.eventLogStatus.eq_def fun _ _ _ => rfl
  case evicRegRead => exact .ok rfl exec_evicRegRead State.evicRegRead.eq_def fun _ _ _ => rfl
  case evicRegWrite =>
    refine .ok rfl exec_evicRegWrite State.evicRegWrite.eq_def fun s c ⟨_, _, hcan⟩ => ?_
    obtain ⟨p, hp, hrank⟩ := (Option.any_eq_true ..).1 hcan
    simp only [hp, if_neg (Nat.not_lt.2 (of_decide_eq_true hrank))]

/-- Settles O19, by the rows of the class. -/
theorem class0FCompletes : Obligations.Class0FCompletes := fun r hr => (rows15_handled r hr).completes

end Sys2Proof.Machine
end

section
/-!
PROOFS. What refuses an opcode (O35, O36, O38).
-/
namespace Sys2Proof.Machine

/-- A check that fails decides. -/
theorem firstFail_fails {b : Bool} (h : b = true) (x : Nat × Nat) (cs : List (Bool × Nat × Nat)) : firstFail ((b, x) :: cs) = some x := by
  rw [h]; rfl

/-- A check that does not fail leaves the decision to the next ones. -/
theorem firstFail_passes {b : Bool} (h : b = false) (x : Nat × Nat) {cs : List (Bool × Nat × Nat)} {r : Option (Nat × Nat)}
    (hr : firstFail cs = r) : firstFail ((b, x) :: cs) = r := by
  rw [h, ← hr]; rfl

end Sys2Proof.Machine

namespace Sys2Proof.Claims

open Sys2Proof.Machine

/-- The opcode's packet goes through steps 6 to 10 of R401 under the form of the row. -/
def OpRow.Formed (r : OpRow) : Prop :=
  ∀ s c, c.wf = true → ∃ o own f, OpSpec.SameForm o (r.spec s c) ∧ exec (r.instr c) s = .next (s.runOp c o (r.bad s c) own f)

theorem OpRow.Handled.formed {r : OpRow} (h : r.Handled) : r.Formed := fun s c hwf =>
  have ⟨o, own, f, hform, hexec, _⟩ := h.2 s c hwf
  ⟨o, own, f, hform, hexec⟩

theorem formed_of {rows : List OpRow} (h : ∀ r ∈ rows, r.Handled) : ∀ r ∈ rows, r.Formed := fun r hr => (h r hr).formed

theorem OpRow.Formed.of_op {r : OpRow} {op : State → Cmd → State} {f : State → Cmd → State → Answer}
    (hexec : ∀ {s c}, c.wf = true → exec (r.instr c) s = .next (op s c))
    (hop : ∀ s c, op s c = s.runOp c (r.spec s c) (r.bad s c) (r.own s c) (f s c)) : r.Formed :=
  fun s c hwf => ⟨_, _, _, ⟨rfl, rfl, rfl, rfl, rfl⟩, (hexec hwf).trans (congrArg _ (hop s c))⟩

/-- Class 0x06 (Table 9.8). -/
theorem rows6_formed : ∀ r ∈ rows6, r.Formed := by
  simp only [rows6, List.forall_mem_cons]
  refine ⟨?alignSet, ?alignGet, ?alignStatus, ?symSet, ?symGet, ?symStatus, ?markSet, ?markCapture, ?vcatAlignSet, ?fathomMap, by simp⟩
  case alignSet => refine (joins_handled exec_alignSet fun s c => ?_).formed; exact ⟨_, rfl, fun _ => rfl⟩
  case alignGet => exact .of_op exec_alignGet State.alignGet.eq_def
  case alignStatus => exact .of_op exec_alignStatus State.alignStatus.eq_def
  case symSet => refine (joins_handled exec_symSet fun s c => ?_).formed; exact ⟨_, rfl, fun _ => rfl⟩
  case symGet => exact .of_op exec_symGet State.symGet.eq_def
  case symStatus => exact .of_op exec_symStatus State.symStatus.eq_def
  case markSet => exact .of_op exec_markSet State.markSet.eq_def
  case markCapture => exact .of_op exec_markCapture State.markCapture.eq_def
  case vcatAlignSet => exact .of_op exec_vcatAlignSet State.vcatAlignSet.eq_def
  case fathomMap => exact .of_op exec_fathomMap State.fathomMap.eq_def

/-- Every opcode that is settled when it is handled goes through steps 6 to 10. -/
theorem opRows_formed : ∀ r ∈ opRows, r.Formed := by
  simp only [opRows, List.mem_append, List.mem_singleton, or_imp, forall_and, forall_eq]
  exact ⟨⟨⟨⟨⟨⟨⟨⟨⟨⟨⟨⟨⟨⟨⟨⟨formed_of rows0_handled, formed_of rows1_handled⟩, formed_of rows2_handled⟩, formed_of rows3_handled⟩,
    formed_of rows4_handled⟩, shedRow_handled.formed⟩, formed_of rows5_handled⟩, rows6_formed⟩, formed_of rows7_handled⟩,
    formed_of rows8_handled⟩, formed_of rows9_handled⟩, formed_of rows10_handled⟩, formed_of rows11_handled⟩, formed_of rows12_handled⟩,
    formed_of rows13_handled⟩, formed_of rows14_handled⟩, formed_of rows15_handled⟩

section
variable {r : OpRow} {s : State} {c : Cmd} {st d : Nat} (h : r.Formed) (hwf : c.wf = true)
include h hwf

/-- A claim that fails refuses the opcode. -/
theorem OpRow.Formed.refuses_claim (hclaim : s.claimFail c = some (st, d)) : r.refuses s c st d := by
  obtain ⟨o, own, f, ⟨hcls, hop, -⟩, hexec⟩ := h s c hwf
  rw [OpRow.refuses, hexec, runOp_claim hclaim, hcls, hop]

/-- A form that fails refuses the opcode once its claim stands. -/
theorem OpRow.Formed.refuses_form (hclaim : s.claimFail c = none) (hform : ∀ o, OpSpec.SameForm o (r.spec s c) → c.formFail o = some (st, d)) :
    r.refuses s c st d := by
  obtain ⟨o, own, f, hsame, hexec⟩ := h s c hwf
  rw [OpRow.refuses, hexec, runOp_form hclaim (hform o hsame), hsame.1, hsame.2.1]

end

end Sys2Proof.Claims

namespace Sys2Proof.Machine

open Sys2Proof.Claims

/-- Settles O35: the checks of step 6 stand in the order of Table 12.3, and the first that fails refuses the opcode. -/
theorem claimIsChecked : Obligations.ClaimIsChecked := by
  intro r hr s c hwf ten onPort
  have hrefuses : ∀ {d}, s.claimFail c = some (stNotPermitted, d) → r.refuses s c stNotPermitted d := (opRows_formed r hr).refuses_claim hwf
  have hrank {n : Nat} (h : c.rank ≠ n) : decide (c.rank = n) = false := decide_eq_false h
  have hmaxPriv (h : c.rank ≤ tenMaxPriv ten) : decide (tenMaxPriv ten < c.rank) = false := decide_eq_false (Nat.not_lt.2 h)
  have hbit : decide ((tenPorts ten >>> c.port.val) % 2 = 0) = !onPort := by
    rcases Nat.mod_two_eq_zero_or_one (tenPorts ten >>> c.port.val) with h | h <;> simp only [onPort, h] <;> rfl
  have hoff (h : onPort = false) : decide ((tenPorts ten >>> c.port.val) % 2 = 0) = true := by rw [hbit, h]; rfl
  have hon (h : onPort = true) : decide ((tenPorts ten >>> c.port.val) % 2 = 0) = false := by rw [hbit, h]; rfl
  refine ⟨fun h3 => hrefuses ?_, fun h3 hmax => hrefuses ?_, fun h3 hmax hport => hrefuses ?_, fun h3 hmax hport hstate => hrefuses ?_,
    fun h3 hmax hport hstate hlock hsup => hrefuses ?_⟩
  · exact firstFail_fails (decide_eq_true h3) _ _
  · exact firstFail_passes (hrank h3) _ (firstFail_fails (decide_eq_true hmax) _ _)
  · exact firstFail_passes (hrank h3) _ (firstFail_passes (hmaxPriv hmax) _ (firstFail_fails (hoff hport) _ _))
  · exact firstFail_passes (hrank h3) _ (firstFail_passes (hmaxPriv hmax) _ (firstFail_passes (hon hport) _
      (firstFail_fails (decide_eq_true hstate) _ _)))
  · have hlocked : (s.cmd.locked.getLsbD c.port.val && decide (c.rank ≠ SUP)) = true := by rw [hlock, decide_eq_true hsup]; rfl
    exact firstFail_passes (hrank h3) _ (firstFail_passes (hmaxPriv hmax) _ (firstFail_passes (hon hport) _
      (firstFail_passes (decide_eq_false hstate) _ (firstFail_fails hlocked _ _))))

/-- Settles O36: steps 8 and 9 look at the privilege, then the bushel, then PLEN. -/
theorem privilegeAndFormAreChecked : Obligations.PrivilegeAndFormAreChecked := by
  intro r hr s c hwf hclaim
  have hrefuses : ∀ {st d}, (∀ o, OpSpec.SameForm o (r.spec s c) → c.formFail o = some (st, d)) → r.refuses s c st d :=
    (opRows_formed r hr).refuses_form hwf hclaim
  refine ⟨fun hpriv => hrefuses fun o ⟨_, _, ho, _, _⟩ => ?_, fun hpriv hchange hbushel => hrefuses fun o ⟨_, _, ho, _, hc⟩ => ?_,
    fun hpriv hmay hplen => hrefuses fun o ⟨_, _, ho, hm, hc⟩ => ?_⟩
  · exact firstFail_fails (decide_eq_true (ho ▸ hpriv)) _ _
  · have hnamed : (!o.change && decide (c.bushel ≠ 0)) = true := by rw [hc, hchange, decide_eq_true hbushel]; rfl
    exact firstFail_passes (decide_eq_false (Nat.not_lt.2 (ho ▸ hpriv))) _ (firstFail_fails hnamed _ _)
  · have hfits : (!o.change && decide (c.bushel ≠ 0)) = false := by
      rw [hc]; rcases hmay with h | h <;> simp [h]
    exact firstFail_passes (decide_eq_false (Nat.not_lt.2 (ho ▸ hpriv))) _ (firstFail_passes hfits _
      (firstFail_fails (decide_eq_true (hm ▸ hplen)) _ _))

/-- A standby that holds a queued bushel of tenant 1. -/
def standbyQueued : State :=
  { Tests.S0 with cfg.pair := setFlag pairCfgReset 63 true, pair.mode := .standby,
                  bush.list := [{ Bushel.make 1 1 false [] with mode := .queued }] }

/-- BUSHEL_CANCEL of bushel 1 by tenant 0, who does not own it, as TEN. -/
def foreignCancel : Cmd := { Tests.cmd [1] with priv := 0 }

/-- The refusal of a foreign BUSHEL_CANCEL names the owner, whatever the pair says. -/
theorem foreignCancel_refused :
    (foreignCancel.wf = true ∧ standbyQueued.claimFail foreignCancel = none ∧
      foreignCancel.formFail (rows4[2].spec standbyQueued foreignCancel) = none ∧
      foreignCancel.faultFrom (rows4[2].spec standbyQueued foreignCancel).masks (rows4[2].bad standbyQueued foreignCancel) 0 = none ∧
      rows4[2].own standbyQueued foreignCancel = none ∧ standbyQueued.isStandby = true ∧
      (rows4[2].spec standbyQueued foreignCancel).cls ≠ 0x0C ∧ (rows4[2].spec standbyQueued foreignCancel).mirror ≠ 0) ∧
    outsOf (exec (rows4[2].instr foreignCancel) standbyQueued) ≠
      outsOf (.next (standbyQueued.answer foreignCancel (rows4[2].spec standbyQueued foreignCancel).cls
        (rows4[2].spec standbyQueued foreignCancel).op stState 0 [])) := by
  decide +kernel

theorem bushelCancelRow_mem : rows4[2] ∈ opRows := by
  simp only [opRows, List.mem_append]
  exact .inl (.inl (.inl (.inl (.inl (.inl (.inl (.inl (.inl (.inl (.inl (.inl (.inr (List.getElem_mem _)))))))))))))

/-- Refutes O38: the row of BUSHEL_CANCEL has no ownership check of its own, and a standby that holds another tenant's bushel refuses the cancel with
NOT_PERMITTED, not with STATE. -/
theorem not_standbyRefusesChanges : ¬ Obligations.StandbyRefusesChanges := by
  intro h
  obtain ⟨⟨hwf, hclaim, hform, hfault, hown, hstandby, hcls, hmirror⟩, hdiffers⟩ := foreignCancel_refused
  exact hdiffers (congrArg outsOf (h _ bushelCancelRow_mem standbyQueued foreignCancel hwf hclaim hform hfault hown hstandby hcls (.inl hmirror)))

end Sys2Proof.Machine
end

section
/-!
PROOFS. Held opcodes (O39): the statement's list of class 0x05 ends before PG_SCAN (0x0C), which Table 8.9 and the model have.
-/
namespace Sys2Proof.Machine

open Sys2Proof.Claims

/-- PG_SCAN stands outside the statement's list, and right after reset it answers OK to tenant 0. -/
theorem pgScan_unlisted_handled : listedOps 5 0x0C = false ∧ Tests.S0.claimFail (Tests.cmd [0]) = none ∧
    (Tests.S0.handleOp 5 0x0C (Tests.cmd [0]) []).outs ≠ (Tests.S0.answer (Tests.cmd [0]) 5 0x0C stBadOpcode 0 []).outs := by
  decide +kernel

/-- Refutes O39: PG_SCAN is no held opcode, yet the statement has it answered BAD_OPCODE. -/
theorem not_heldOpcodesAreRejected : ¬ Obligations.HeldOpcodesAreRejected := by
  intro h
  obtain ⟨hunlisted, hclaim, hdiffers⟩ := pgScan_unlisted_handled
  have hbad := h Tests.S0 (Tests.cmd [0]) 5 0x0C [] hunlisted
  rw [hclaim] at hbad
  exact hdiffers (congrArg State.outs hbad)

end Sys2Proof.Machine
end

section
/-!
PROOFS. The queue and reset (O1, O3).
-/
namespace Sys2Proof.Machine

/-- Settles O1, by the two cases of the queue. -/
theorem stepTakesTheFrontCommand : Obligations.StepTakesTheFrontCommand :=
  ⟨fun _ _ _ => rfl, fun s hempty => by rw [step, hempty]⟩

/-- Settles O3: nothing is listed and nothing waits. -/
theorem resetIsSound : Obligations.ResetIsSound := ⟨State.reset_memWf, rfl, rfl⟩

end Sys2Proof.Machine
end


section
/-!
PROOFS. What replies and events leave alone (O40, O41).
-/
namespace Sys2Proof.Machine

open Sys2Proof.Claims

/-- A record appended to the journal leaves the works alone (R496). -/
@[simp] theorem State.journal_works (s : State) (body : Nat) : (s.journal body).works = s.works := rfl

/-- A command that succeeded: its record, its mirror message and its reply leave the works alone. -/
@[simp] theorem State.finish_works (s : State) (c : Cmd) (o : OpSpec) (st : Nat) (data : List Word) :
    (s.finish c o st data).works = s.works := by
  have hrecord : (if o.jrn = 0 then s else s.journal o.jrn).works = s.works := by split <;> simp
  unfold State.finish
  extract_lets s1 s2
  split
  · split <;> simp only [State.answer_works, State.awaitMate_works, s2, State.mirror_works, s1, hrecord]
  · rw [State.answer_works]; exact hrecord

/-- Settles O40, by the works that the reply and its record and message leave. -/
theorem repliesChangeNothingElse : Obligations.RepliesChangeNothingElse := fun s c o status detail data =>
  ⟨sameWorks_iff.2 (s.answer_works c o.cls o.op status detail data), sameWorks_iff.2 (s.finish_works c o status data)⟩

/-! An event counts nothing -/

@[simp] theorem State.setTarget_counters (s : State) (t : Nat) (x : EvicTarget) : (s.setTarget t x).ev.counters = s.ev.counters := rfl

@[simp] theorem State.stage_counters (s : State) (r : EvRec) : (s.stage r).ev.counters = s.ev.counters := by
  unfold State.stage; split <;> rfl

@[simp] theorem State.sendVector_counters (s : State) (b : Bool) (v : Nat) : (s.sendVector b v).ev.counters = s.ev.counters := by
  unfold State.sendVector; extract_lets p; split <;> rfl

@[simp] theorem State.emit_counters (s : State) (o : Out) : (s.emit o).ev.counters = s.ev.counters := rfl

@[simp] theorem State.notifyOne_counters (s : State) (t : Nat) : (s.notifyOne t).ev.counters = s.ev.counters := by
  unfold State.notifyOne
  cases s.bestClaim t with
  | none => rfl
  | some src =>
    simp only [apply_ite State.ev, apply_ite EvState.counters, State.emit_counters, State.sendVector_counters, State.setTarget_counters, ite_self]

@[simp] theorem State.notify_counters (s : State) : s.notify.ev.counters = s.ev.counters := by
  simp only [State.notify, State.notifyOne_counters]

@[simp] theorem State.fire_counters (s : State) (src : Nat) : (s.fire src).ev.counters = s.ev.counters := by
  unfold State.fire
  extract_lets c
  split
  · rfl
  · split
    · exact s.sendVector_counters _ _
    · exact State.notify_counters _

@[simp] theorem State.raise_counters (s : State) (e : Event) : (s.raise e).ev.counters = s.ev.counters := by
  rw [State.raise, State.fire_counters, State.stage_counters]

/-- Settles O41: the works stay, and of the rest all but the event logic and the host ports' pending bits. -/
theorem eventsChangeNothingElse : Obligations.EventsChangeNothingElse := fun s e =>
  have hall := s.raise_eventless e
  ⟨sameWorks_iff.2 (s.raise_works e), (congrArg State.cmd hall :), (congrArg State.pair hall :), (congrArg State.jr hall :),
    State.rings_of_eventless hall, State.matrix_of_eventless hall, s.raise_counters e⟩

end Sys2Proof.Machine
end

section
/-!
PROOFS. The flip (O44): nothing flips at a slipped tick, and a flip leaves the configuration of its bushel in force.
-/
namespace Sys2Proof.Machine

open Sys2Proof.Claims

/-- What a flip puts in force: the configuration that bushels change, the flip FN, the copy-forward and the half. -/
def State.flipCore (s : State) : BCfg × BitVec 48 × Nat × Bool := (s.cfg.b, s.tick.lastFlip, s.tick.copyLeft, s.bush.activeHalf)

theorem State.flipCore_of_works {s t : State} (h : t.works = s.works) : t.flipCore = s.flipCore :=
  (congrArg State.flipCore h :)

@[simp] theorem State.raise_flipCore (s : State) (e : Event) : (s.raise e).flipCore = s.flipCore :=
  State.flipCore_of_works (s.raise_works e)

@[simp] theorem State.raiseIf_flipCore (s : State) (b : Bool) (e : Event) : (s.raiseIf b e).flipCore = s.flipCore :=
  State.flipCore_of_works (s.raiseIf_works b e)

theorem State.foldl_flipCore {α : Type} {f : State → α → State} (hf : ∀ s a, (f s a).flipCore = s.flipCore) (l : List α) (s : State) :
    (l.foldl f s).flipCore = s.flipCore :=
  foldl_keeps (fun t : State => t.flipCore = s.flipCore) (fun t a h => (hf t a).trans h) l rfl

section
variable (s : State)

@[simp] theorem State.setProtection_flipCore (g : Bool) (n : Nat) (p : Prot) : (s.setProtection g n p).flipCore = s.flipCore := by
  cases g <;> rfl
@[simp] theorem State.setAlignGroup_flipCore (n : Nat) (g : AlignGroup) : (s.setAlignGroup n g).flipCore = s.flipCore := rfl
@[simp] theorem State.setSymRec_flipCore (n : Nat) (x : SymRec) : (s.setSymRec n x).flipCore = s.flipCore := rfl
@[simp] theorem State.setQueue_flipCore (q : Nat) (x : Queue) : (s.setQueue q x).flipCore = s.flipCore := rfl
@[simp] theorem State.setBushel_flipCore (b : Bushel) : (s.setBushel b).flipCore = s.flipCore := rfl
@[simp] theorem State.mapSnaps_flipCore (f : JSnap → JSnap) : (s.mapSnaps f).flipCore = s.flipCore := rfl

@[simp] theorem State.queueTo_flipCore (q : Nat) (x : Queue) : (s.queueTo q x).flipCore = s.flipCore := by
  simp only [State.queueTo, State.raiseIf_flipCore, State.setQueue_flipCore]

theorem pickBlocks_flipCore (n : Nat) : ∀ (free : List Nat) (s : State), (pickBlocks n free s).2.flipCore = s.flipCore := by
  induction n with
  | zero => intro free s; rfl
  | succ n ih =>
    intro free s
    unfold pickBlocks
    split
    · rfl
    · exact ih _ s.takeFree.2

@[simp] theorem State.takeBlocks_flipCore (n : Nat) : (s.takeBlocks n).2.flipCore = s.flipCore :=
  pickBlocks_flipCore n _ s

@[simp] theorem State.resizeRing_flipCore (l : List Nat) (n : Nat) : (s.resizeRing l n).2.flipCore = s.flipCore := by
  unfold State.resizeRing
  split
  · rfl
  · exact s.takeBlocks_flipCore _

@[simp] theorem State.flipGroup_flipCore (old new : BCfg) (pg : Nat) : (s.flipGroup old new pg).flipCore = s.flipCore := by
  unfold State.flipGroup
  split
  · rfl
  · rw [State.setAlignGroup_flipCore, State.setProtection_flipCore]
  · extract_lets g n delay ring0 _ _ ring1 t
    have hrings : t.flipCore = s.flipCore :=
      (State.resizeRing_flipCore _ _ _).trans (s.resizeRing_flipCore g.ring0 n)
    clear_value t
    split
    · rw [State.setAlignGroup_flipCore, State.setProtection_flipCore, hrings]
    · simp only [apply_ite State.flipCore, State.raiseIf_flipCore, State.setAlignGroup_flipCore, State.setProtection_flipCore, hrings,
        ite_self]

@[simp] theorem State.flipPair_flipCore (old new : BCfg) (n : Nat) : (s.flipPair old new n).flipCore = s.flipCore := by
  unfold State.flipPair
  cases old.lp n with
  | none => cases new.lp n <;> rfl
  | some o =>
    cases new.lp n with
    | none => rfl
    | some w =>
      dsimp only
      split <;> rfl

@[simp] theorem State.flipSym_flipCore (old new : BCfg) (cid : Nat) : (s.flipSym old new cid).flipCore = s.flipCore := by
  unfold State.flipSym
  extract_lets o r x k
  simp only [apply_ite State.flipCore, State.setSymRec_flipCore, State.resizeRing_flipCore, k, ite_self]

@[simp] theorem State.flipQueue_flipCore (old new : BCfg) (q : Nat) : (s.flipQueue old new q).flipCore = s.flipCore := by
  unfold State.flipQueue
  extract_lets o r
  simp only [apply_ite State.flipCore, State.setQueue_flipCore, State.queueTo_flipCore, ite_self]

@[simp] theorem State.flipStruct_flipCore (old new : BCfg) : (s.flipStruct old new).flipCore = s.flipCore := rfl

@[simp] theorem State.settleQuotas_flipCore : s.settleQuotas.flipCore = s.flipCore := by
  unfold State.settleQuotas
  exact State.foldl_flipCore (fun t x => by split; exact State.raise_flipCore _ _; rfl) _ s

/-- A flip leaves its bushel's changes in force and begins the copy-forward (R36, R37, R218). -/
theorem State.flip_flipCore (b : Bushel) : (s.flip b).flipCore = (s.cfg.b.applyAll b.changes, s.tick.fn, 8, !s.bush.activeHalf) := by
  unfold State.flip
  simp only [State.settleQuotas_flipCore, State.raiseIf_flipCore, State.raise_flipCore, State.flipStruct_flipCore,
    State.foldl_flipCore (fun s i => s.flipQueue_flipCore _ _ i), State.foldl_flipCore (fun s i => s.flipSym_flipCore _ _ i),
    State.foldl_flipCore (fun s i => s.flipPair_flipCore _ _ i), State.foldl_flipCore (fun s i => s.flipGroup_flipCore _ _ i),
    State.mapSnaps_flipCore, State.setBushel_flipCore]
  rfl

end

/-- At a slipped tick only the passed check is forgotten (R43). -/
theorem State.flipTick_slip (s : State) : s.flipTick true = { s with tick.flipPassed := false, tick.flipBushel := none } := by
  simp only [State.flipTick, Bool.not_true, Bool.and_false, Bool.false_eq_true, if_false]

/-- Settles O44, by the slipped tick and what a flip leaves in force. -/
theorem flipsAreWholeOrAbsent : Obligations.FlipsAreWholeOrAbsent := by
  refine ⟨fun s => ?_, fun s b => ?_⟩
  · rw [State.flipTick_slip]; exact ⟨rfl, rfl, rfl⟩
  · have hcore := s.flip_flipCore b
    simp only [State.flipCore, Prod.mk.injEq] at hcore
    exact hcore

end Sys2Proof.Machine
end

section
/-!
PROOFS. The reply cache (O56).
-/
namespace Sys2Proof.Machine

open Sys2Proof.Claims

/-- An entry put in leaves what every other index reads alone, in any table. -/
theorem Tab.look_ins_other {α : Type} {d a : α} {i j : Nat} (h : i ≠ j) : ∀ t : Tab α, (t.ins i a).look d j = t.look d j
  | [] => by simp [Tab.ins, Tab.look, h]
  | (k, v) :: t => by
    unfold Tab.ins
    split
    · next e => subst e; rw [Tab.look, Tab.look, if_neg h, if_neg h]
    · split
      · rw [Tab.look, if_neg h]
        split
        · rw [Tab.look, if_neg (by omega), if_pos (by omega)]
        · rfl
      · rw [Tab.look, Tab.look, Tab.look_ins_other h t]

/-- A port with a reply in its cache is listed. -/
theorem CmdPort.ne_reset_of_cache {p : CmdPort} (h : p.cache ≠ []) : p ≠ CmdPort.reset := fun e => h (e ▸ rfl)

/-- A cached port is read back. -/
theorem State.port_setPort_same {s : State} {n : Nat} {p : CmdPort} (h : p.cache ≠ []) : (s.setPort n p).port n = p := by
  rw [State.port, State.setPort, Tab.put, if_neg (CmdPort.ne_reset_of_cache h)]
  exact Tab.look_ins_same

theorem State.port_setPort_ne {s : State} {n m : Nat} {p : CmdPort} (h : p.cache ≠ []) (hne : n ≠ m) : (s.setPort n p).port m = s.port m := by
  rw [State.port, State.setPort, Tab.put, if_neg (CmdPort.ne_reset_of_cache h)]
  exact Tab.look_ins_other hne _

/-- The newest of the last 64 is the one that was appended. -/
theorem getLast?_lastN_append {α : Type} (l : List α) (e : α) : (lastN 64 (l ++ [e])).getLast? = some e := by
  rw [lastN, List.getLast?_drop, if_neg (by simp only [List.length_append, List.length_singleton]; omega), List.getLast?_concat]

theorem lastN_append_ne_nil {α : Type} (l : List α) (e : α) : lastN 64 (l ++ [e]) ≠ [] := fun h => by
  simpa [h] using getLast?_lastN_append l e

/-- Settles O56: the entry is appended to the last 64, and the port is listed. -/
theorem replyCacheKeepsTheLast64 : Obligations.ReplyCacheKeepsTheLast64 := by
  intro s c r hlen
  by_cases hcached : (c.key.isNone || decide (c.seq = 0)) = true
  · rw [State.cache, if_pos hcached]
    refine ⟨hlen, fun hkey hseq => ?_, fun _ _ => rfl⟩
    rw [Option.isNone_eq_false_iff.2 hkey, decide_eq_false hseq] at hcached
    exact absurd hcached Bool.false_ne_true
  · rw [State.cache, if_neg hcached]
    refine ⟨?_, fun _ _ hdata => ?_, fun n hne => State.port_setPort_ne (lastN_append_ne_nil _ _) hne.symm⟩
    · rw [State.port_setPort_same (lastN_append_ne_nil _ _), length_lastN]
      exact Nat.min_le_left ..
    · rw [State.port_setPort_same (lastN_append_ne_nil _ _), if_neg (Nat.not_lt.2 hdata)]
      exact getLast?_lastN_append _ _

end Sys2Proof.Machine
end

section
/-!
PROOFS. Writes of the stores (O57).
-/
namespace Sys2Proof.Machine

open Sys2Proof.Claims

/-- Octets below 4 GiB of two stores have keys of their own. -/
theorem octetKey_inj {st st' off off' : Nat} (h : off < 2 ^ 32) (h' : off' < 2 ^ 32) (e : octetKey st off = octetKey st' off') :
    st = st' ∧ off = off' := by
  simp only [octetKey] at e
  omega

theorem octetKey_ne_add (st off k : Nat) : octetKey st off ≠ octetKey st (off + 1 + k) := by
  simp only [octetKey]
  omega

/-- A run of octets is read back. -/
theorem Memory.look_putOctets_same {store k : Nat} : ∀ {l : List Byte} {off : Nat} {t : List Host.Cell}, Memory.wf t = true → k < l.length →
    Tab.look (0 : Byte) (putOctets store off l t) (octetKey store (off + k)) = nth 0 l k
  | b :: l, off, t, h, hk => by
    rw [putOctets]
    cases k with
    | zero =>
      have hkept := Memory.look_putOctets_ne (l := l) (Memory.wf_put (a := octetKey store off) (b := b) h) fun k _ => octetKey_ne_add store off k
      exact hkept.trans (Tab.look_put_same h)
    | succ k =>
      rw [← Nat.add_assoc, Nat.add_right_comm, Memory.look_putOctets_same (Memory.wf_put h) (Nat.lt_of_succ_lt_succ hk)]
      simp [nth]

/-- Where no injection is armed, a write is as it stands (MEM_INJECT). -/
theorem State.injected_unarmed {s : State} {store a : Nat}
    (h : (s.mem.injects.any fun i => decide (i.store = store) && decide (i.addr = a)) = false) : s.injected store a = s := by
  have hfind : (s.mem.injects.find? fun i => decide (i.store = store) && decide (i.addr = a)) = none := by
    simpa [List.find?_eq_none] using h
  rw [State.injected, hfind]

section
variable (s : State)

@[simp] theorem State.setEcc_injects (st a : Nat) (e : Ecc) : (s.setEcc st a e).mem.injects = s.mem.injects := rfl

@[simp] theorem State.eccCapture_injects (st k m a : Nat) : (s.eccCapture st k m a).mem.injects = s.mem.injects := by
  unfold State.eccCapture; extract_lets; split <;> rfl

@[simp] theorem State.noteCe_injects (st m a : Nat) : (s.noteCe st m a).mem.injects = s.mem.injects := State.eccCapture_injects _ _ _ _ _

@[simp] theorem State.notePoisonWrite_injects (st m a : Nat) : (s.notePoisonWrite st m a).mem.injects = s.mem.injects := by
  rw [State.notePoisonWrite, State.raise_mem]; exact State.eccCapture_injects _ _ _ _ _

end

/-- The octets a write of a word merges into what stood there (R489). -/
def State.merged (s : State) (store a : Nat) (kind : WriteKind) (octets : List Byte) (enables : List Bool) : List Byte :=
  (List.range 8).map fun i =>
    if nth false enables i then kind.apply (nth 0 (s.storeOctets store a) i) (nth 0 octets i) else nth 0 (s.storeOctets store a) i

/-- Whatever the check bits of the word say, a write stores the merged octets (Table 15.2). -/
theorem State.memWrite_octets {s : State} {store a : Nat} (master : Nat) (kind : WriteKind) (octets : List Byte) (enables : List Bool)
    (h : (s.mem.injects.any fun i => decide (i.store = store) && decide (i.addr = a)) = false) :
    (s.memWrite store a master kind octets enables).2.mem.octets =
      putOctets store (8 * a) (s.merged store a kind octets enables) s.mem.octets := by
  unfold State.memWrite
  extract_lets old merged _ put full
  have hput : put.mem.octets = putOctets store (8 * a) (s.merged store a kind octets enables) s.mem.octets := rfl
  have hinj : put.mem.injects = s.mem.injects := rfl
  clear_value put
  split
  · rw [State.injected_unarmed (by rwa [State.setEcc_injects, hinj]), State.setEcc_octets, hput]
  · split
    · rw [State.injected_unarmed (by rwa [hinj]), hput]
    · rw [State.injected_unarmed (by rwa [State.setEcc_injects, State.noteCe_injects, hinj]), State.setEcc_octets, State.noteCe_octets, hput]
    · rw [State.injected_unarmed (by rwa [State.setEcc_injects, State.notePoisonWrite_injects, hinj]), State.setEcc_octets,
        State.notePoisonWrite_octets, hput]

theorem nth_map_range {α : Type} (d : α) (f : Nat → α) {n i : Nat} (h : i < n) : nth d ((List.range n).map f) i = f i := by
  simp [nth, h]

@[simp] theorem State.length_merged (s : State) (store a : Nat) (kind : WriteKind) (octets : List Byte) (enables : List Bool) :
    (s.merged store a kind octets enables).length = 8 := by simp [State.merged]

/-- Settles O57: the merged octets are read back, and no other octet has a key among theirs. -/
theorem writesReachTheirOctetsAlone : Obligations.WritesReachTheirOctetsAlone := by
  intro s store a master kind octets enables ha hinj hwf t
  have hoctets : t.mem.octets = putOctets store (8 * a) (s.merged store a kind octets enables) s.mem.octets :=
    State.memWrite_octets master kind octets enables hinj
  refine ⟨State.memWrite_memWf hwf, fun i hi => ?_, fun st b hb hne => ?_⟩
  · rw [State.storeOctets, nth_map_range 0 _ hi, hoctets, Memory.look_putOctets_same hwf (by simpa using hi), State.merged, nth_map_range 0 _ hi]
  · refine List.map_congr_left fun i hi => ?_
    have hi8 : i < 8 := List.mem_range.1 hi
    rw [hoctets, Memory.look_putOctets_ne hwf]
    intro k hk hkey
    rw [State.length_merged] at hk
    obtain ⟨rfl, hoff⟩ := octetKey_inj (by omega) (by omega) hkey
    omega

end Sys2Proof.Machine
end


section
/-!
PROOFS. The frame tick's commands complete (O21).
-/
namespace Sys2Proof.Machine

open Sys2Proof.Claims

/-- A guard that turns away what fails a test lets a state that passes it through. -/
theorem ite_not_of_true {α : Type} {b : Bool} {x y : α} (h : b = true) : (if !b then x else y) = y :=
  if_neg (by rw [h]; exact Bool.false_ne_true)

/-- A load that begins on a device that mirrors nothing (R217). -/
theorem State.loadBegin_next {s : State} {b : Bushel} (hcopy : s.tick.copyLeft = 0) (hbusy : s.loaderBusy = false)
    (hfrozen : s.boot.frozen = false) (hnext : s.nextLoad = some b) (hmirror : s.mirroring = false) :
    s.loadBegin = { s.setBushel { b with mode := .loading, flipFn := if b.scheduled then b.s else fnAdd s.tick.fn b.l } with
      tick.loading := some b.id, tick.loadLeft := b.l } := by
  have hkeep : State.mirroring { s.setBushel { b with mode := .loading, flipFn := if b.scheduled then b.s else fnAdd s.tick.fn b.l } with
      tick.loading := some b.id, tick.loadLeft := b.l } = false := hmirror
  simp only [State.loadBegin, hcopy, hbusy, hfrozen, hnext, ne_eq, not_true_eq_false, Bool.false_eq_true, or_self, if_false, hkeep]

/-- A load that has no frame left is done (R217). -/
theorem State.loadDone_last {s : State} {b : Bushel} (hload : s.tick.loading = some b.id) (hleft : s.tick.loadLeft ≤ 1)
    (hb : s.bushel b.id = some b) :
    s.loadDone = { s.setBushel { b with mode := .loaded } with tick.loading := none, tick.loadLeft := 0 } := by
  simp only [State.loadDone, hload, hb, Nat.not_lt.2 hleft, if_false]

@[simp] theorem State.copyForwardDone_stepKnown (s : State) : s.copyForwardDone.tick.stepKnown = s.tick.stepKnown := by
  unfold State.copyForwardDone; split <;> rfl

@[simp] theorem State.loadDone_stepKnown (s : State) : s.loadDone.tick.stepKnown = s.tick.stepKnown := by
  unfold State.loadDone
  split
  · rfl
  · split
    · rfl
    · split <;> rfl

/-- A frame of a load or a copy-forward keeps the step of the frame (R33, R45). -/
@[simp] theorem State.loadFrame_stepKnown (s : State) (short : Bool) : (s.loadFrame short).tick.stepKnown = s.tick.stepKnown := by
  unfold State.loadFrame
  simp only [apply_ite State.tick, apply_ite TickState.stepKnown, State.loadDone_stepKnown, State.copyForwardDone_stepKnown, ite_self]

/-- Settles O21: each row's conditions choose the branch that the row states. -/
theorem frameTickCommandsComplete : Obligations.FrameTickCommandsComplete := by
  simp -zeta only [Obligations.FrameTickCommandsComplete, tickRows, List.forall_mem_cons]
  refine ⟨?frameTick, ?flipCheck, ?loadBegin, ?loadDone, ?copyForwardDone, ?firstStep, ?armedStep, ?stepArmLapse, ?fnLo, ?lastFlipLo,
    ?tickStatus, List.forall_mem_nil _⟩
  case frameTick =>
    intro s t h
    simp only [Bool.and_eq_true, List.isEmpty_iff] at h
    obtain ⟨⟨⟨hawake, hstages⟩, hslip⟩, hstep⟩ := h
    refine congrArg Host.Outcome.next ((ite_not_of_true hawake).trans ?_)
    simp -zeta only [hstages, List.isEmpty_nil, Bool.not_true, Bool.false_or, if_true]
    extract_lets _ given mismatch _ loads slip loaded slewed stepped _ _ _ _ _ stepped'
    have hkept : loaded.tick.stepKnown = loads.tick.stepKnown := loads.loadFrame_stepKnown _
    have hstepped : stepped' = stepped := congrArg (fun r : Option StepReq => (loaded.slew r.isSome).fnAdvance) hkept.symm
    clear_value stepped stepped'
    subst hstepped
    rfl
  case flipCheck => exact fun s _ h => congrArg Host.Outcome.next (if_pos h)
  case loadBegin =>
    intro s b h
    simp only [Bool.and_eq_true, decide_eq_true_eq, Bool.not_eq_true'] at h
    obtain ⟨⟨⟨⟨hcopy, hbusy⟩, hfrozen⟩, hnext⟩, hmirror⟩ := h
    exact congrArg Host.Outcome.next (State.loadBegin_next hcopy hbusy hfrozen hnext hmirror)
  case loadDone =>
    intro s b h
    simp only [Bool.and_eq_true, decide_eq_true_eq] at h
    obtain ⟨⟨hload, hleft⟩, hb⟩ := h
    exact congrArg Host.Outcome.next (State.loadDone_last hload hleft hb)
  case copyForwardDone => exact fun s _ h => congrArg Host.Outcome.next (if_neg (not_not_intro (of_decide_eq_true h)))
  case firstStep =>
    intro s a h
    simp only [Bool.and_eq_true, decide_eq_true_eq, Option.isNone_iff_eq_none] at h
    obtain ⟨⟨⟨hawake, hstep⟩, hsrc⟩, hcand⟩ := h
    refine congrArg Host.Outcome.next ((if_neg ?_).trans (if_pos (And.intro hsrc (And.intro hcand rfl))))
    rw [hawake, hstep]
    exact Bool.false_ne_true
  case armedStep =>
    intro s a h
    simp only [Bool.and_eq_true, decide_eq_true_eq, Option.isNone_iff_eq_none] at h
    obtain ⟨⟨⟨⟨hawake, hstep⟩, harm⟩, hcand⟩, hphase⟩ := h
    refine congrArg Host.Outcome.next ((if_neg ?_).trans (if_pos (And.intro harm (And.intro hcand hphase))))
    rw [hawake, hstep]
    exact Bool.false_ne_true
  case stepArmLapse => exact fun s _ h => congrArg Host.Outcome.next (if_pos (Bool.and_eq_true_iff.1 h))
  case fnLo => exact fun s m h => congrArg Host.Outcome.next (State.readReg_readable h)
  case lastFlipLo => exact fun s m h => congrArg Host.Outcome.next (State.readReg_readable h)
  case tickStatus => exact fun s m h => congrArg Host.Outcome.next (State.readReg_readable h)

end Sys2Proof.Machine
end


section
/-!
PROOFS. What lanes, mate lanes and tributary ports see completes (O22).
-/
namespace Sys2Proof.Machine

open Sys2Proof.Claims

/-- A mate lane whose lock changes is not what it was. -/
theorem MateLane.ne_reported {old m : MateLane} (h : old.locked ≠ m.locked) : old ≠ old.reported m :=
  fun e => h (congrArg MateLane.locked e :)

theorem State.cfg_of_works {s t : State} (h : t.works = s.works) : t.cfg = s.cfg :=
  (congrArg State.cfg h :)

/-- The clock loss of a port in transparent mode (MODE 2) reaches no framer (R86). -/
theorem State.clkLost_transparent {s : State} {p : Nat} (hloss : (s.trib p).clkLoss = false) (hmode : s.tribMode p = 2)
    (hon : s.tribOn p = true) :
    s.clkLost p = (((s.setTrib p { s.trib p with clkLoss := true, fallback := decide (s.tribTiming p = 1) }).count 0x0305 (portE1 p).toNat
      1).raise { src := 0x035, code := 1, obj := p }).alignerStep p false 0 := by
  have hguard : ¬ ((s.trib p).clkLoss || decide (s.tribMode p = 0) || !s.tribOn p) = true := by
    simp only [hloss, hmode, hon, Nat.reduceEqDiff, decide_false, Bool.not_true, Bool.or_self, Bool.false_eq_true, not_false_eq_true]
  have hkept (t : TribPort) (sel e n : Nat) (ev : Event) : (((s.setTrib p t).count sel e n).raise ev).tribMode p = 2 := by
    rw [State.tribMode, State.tribCfg, State.cfg_of_works ((State.raise_works _ _).trans (State.count_works _ _ _ _))]
    exact hmode
  refine (if_neg hguard).trans ?_
  simp only [hkept, Nat.reduceEqDiff, if_false]

/-- Settles O22: each row's conditions choose the branch that the row states. -/
theorem laneCommandsComplete : Obligations.LaneCommandsComplete := by
  simp -zeta only [Obligations.LaneCommandsComplete, lineRows, List.forall_mem_cons]
  refine ⟨?configDone, ?signalLow, ?signalHigh, ?transitions, ?cdrLock, ?active, fun _ _ _ => rfl, ?linkUp, ?prbsLock, ?mateLane, ?clkLoss,
    ?clkRestore, ?txSlip, ?aligned, ?alignerSlip, List.forall_mem_nil _⟩
  case configDone => exact fun s n h => congrArg Host.Outcome.next (ite_not_of_true h)
  case signalLow =>
    intro s a h
    simp only [Bool.and_eq_true, decide_eq_true_eq] at h
    exact congrArg Host.Outcome.next ((ite_not_of_true h.1).trans (if_pos h.2))
  case signalHigh =>
    intro s a h
    simp only [Bool.and_eq_true, decide_eq_true_eq] at h
    exact congrArg Host.Outcome.next ((ite_not_of_true h.1).trans ((if_neg (by omega)).trans (if_pos h.2)))
  case transitions => exact fun s a h => congrArg Host.Outcome.next (ite_not_of_true h)
  case cdrLock => exact fun s a h => congrArg Host.Outcome.next (ite_not_of_true h)
  case active =>
    intro s a h
    simp only [Bool.and_eq_true, Bool.or_eq_true, decide_eq_true_eq, List.all_eq_true] at h
    obtain ⟨⟨⟨_, hruns⟩, hlen⟩, hreach⟩ := h
    refine (exec_laneActivity hruns hlen).trans (congrArg Host.Outcome.next ((if_pos hreach).trans ?_))
    rw [State.declareActive, Bool.bne_true]
    rfl
  case linkUp => exact fun s a h => congrArg Host.Outcome.next (if_pos h)
  case prbsLock => exact fun s a h => congrArg Host.Outcome.next (if_neg (of_decide_eq_true h))
  case mateLane =>
    intro s a h
    simp only [Bool.and_eq_true, decide_eq_true_eq] at h
    exact exec_mateLaneChange h.1 (MateLane.ne_reported h.2)
  case clkLoss =>
    intro s p h
    simp only [Bool.and_eq_true, Bool.not_eq_true', decide_eq_true_eq] at h
    obtain ⟨⟨hloss, hmode⟩, hon⟩ := h
    exact congrArg Host.Outcome.next (State.clkLost_transparent hloss hmode hon)
  case clkRestore => exact fun s p h => congrArg Host.Outcome.next (ite_not_of_true h)
  case txSlip =>
    intro s a h
    simp only [Bool.and_eq_true, Bool.not_eq_true', decide_eq_true_eq] at h
    obtain ⟨⟨htiming, hmode⟩, hfill⟩ := h
    exact congrArg Host.Outcome.next (if_neg (by simp only [htiming, hmode, hfill, ne_eq, not_true_eq_false, decide_false, Bool.or_self,
      Bool.false_eq_true, not_false_eq_true]))
  case aligned =>
    intro s a h
    simp only [Bool.and_eq_true, Bool.not_eq_true', decide_eq_true_eq] at h
    obtain ⟨⟨⟨hphi, hon⟩, haligned⟩, hcount⟩ := h
    refine congrArg Host.Outcome.next ?_
    simp only [hphi, hon, haligned, Nat.not_lt.2 hcount, Bool.not_true, Bool.or_self, decide_false, Bool.false_eq_true, if_false]
  case alignerSlip =>
    intro s a h
    simp only [Bool.and_eq_true, decide_eq_true_eq] at h
    obtain ⟨⟨⟨hphi, hon⟩, haligned⟩, hdist⟩ := h
    refine congrArg Host.Outcome.next ?_
    simp only [hphi, hon, haligned, Nat.not_le.2 hdist, Bool.not_true, Bool.or_self, decide_false, Bool.false_eq_true, if_false]

end Sys2Proof.Machine
end


section
/-!
PROOFS. SDH frames, pointers, defects and transmission complete (O23).
-/
namespace Sys2Proof.Machine

open Sys2Proof.Claims

/-- A frame that leaves a lane out of SYNC, with no path of its own: the lane is masked and reports (R95). -/
theorem State.sdhReceive_lost {s : State} {f : SdhRx} (hruns : s.sdhRuns f.lane.val = true) (hlos : (s.sdhLane f.lane.val).los = false)
    (hframer : ((s.sdhLane f.lane.val).frameStep (decide (f.pattern = alignPattern))).1 ≠ .sync) (hpaths : ownPaths f = []) :
    s.sdhReceive f =
      ((s.setSdhLane f.lane.val (SdhLane.lofStep { s.sdhLane f.lane.val with
          framer := ((s.sdhLane f.lane.val).frameStep (decide (f.pattern = alignPattern))).1,
          badPattern := ((s.sdhLane f.lane.val).frameStep (decide (f.pattern = alignPattern))).2, masked := true } false)).noteOof
        f.lane.val (s.sdhLane f.lane.val)).reportLane f.lane.val := by
  rw [ownPaths] at hpaths
  simp only [State.sdhReceive, hruns, hlos, hframer, hpaths, Bool.not_true, Bool.or_self, Bool.false_eq_true, if_false, ne_eq, not_false_eq_true,
    decide_true, decide_false, Bool.or_true, List.foldl_nil]

/-- A frame that finds or keeps a lane in SYNC: the overhead of the line is read, then that of its own paths (R95, R96). -/
theorem State.sdhReceive_sync {s : State} {f : SdhRx} (hruns : s.sdhRuns f.lane.val = true) (hlos : (s.sdhLane f.lane.val).los = false)
    (hframer : ((s.sdhLane f.lane.val).frameStep (decide (f.pattern = alignPattern))).1 = .sync) :
    s.sdhReceive f =
      (ownPaths f).foldl State.hoReceive ((((s.setSdhLane f.lane.val (SdhLane.lofStep { s.sdhLane f.lane.val with
          framer := .sync,
          badPattern := ((s.sdhLane f.lane.val).frameStep (decide (f.pattern = alignPattern))).2 } true)).noteOof
        f.lane.val (s.sdhLane f.lane.val)).lineReceive f).reportLane f.lane.val) := by
  simp only [State.sdhReceive, ownPaths, hruns, hlos, hframer, Bool.not_true, Bool.or_self, Bool.false_eq_true, if_false, if_true, ne_eq,
    not_true_eq_false, decide_true, decide_false, Bool.or_false]

/-- A path that is line, of a form and below level 2, on a lane that runs SDH. -/
theorem bipGuard_false {s : State} {e : Eid} (hkind : eidKind e = .line) (hform : eidForm e = true) (hlevel : eidLevelN e < 2)
    (hruns : s.sdhRuns (eidPort e) = true) :
    (decide (eidKind e ≠ .line) || !eidForm e || decide (2 ≤ eidLevelN e) || !s.sdhRuns (eidPort e)) = false := by
  simp only [hkind, hform, hruns, Nat.not_le.2 hlevel, ne_eq, not_true_eq_false, decide_false, Bool.not_true, Bool.or_self]

/-- Settles O23: each row's conditions choose the branch that the row states. -/
theorem sdhCommandsComplete : Obligations.SdhCommandsComplete := by
  simp -zeta only [Obligations.SdhCommandsComplete, sdhRows, List.forall_mem_cons]
  refine ⟨?lost, ?sync, ?apsInconsistency, ?losDeclare, ?losClear, ?tuMultiframe, ?lineWindow, ?pathWindow, ?transmit, List.forall_mem_nil _⟩
  case lost =>
    intro s f h
    simp only [Bool.and_eq_true, Bool.not_eq_true', decide_eq_true_eq, List.isEmpty_iff] at h
    obtain ⟨⟨⟨hruns, hlos⟩, hframer⟩, hpaths⟩ := h
    refine congrArg Host.Outcome.next ?_
    rw [State.sdhReceive_lost hruns hlos hframer hpaths]
  case sync =>
    intro s f h
    simp only [Bool.and_eq_true, Bool.not_eq_true', decide_eq_true_eq] at h
    obtain ⟨⟨hruns, hlos⟩, hframer⟩ := h
    refine congrArg Host.Outcome.next ?_
    rw [State.sdhReceive_sync hruns hlos hframer]
  case apsInconsistency =>
    intro s a h
    simp only [Bool.and_eq_true, Bool.not_eq_true', decide_eq_true_eq] at h
    obtain ⟨⟨⟨hwait, hlong⟩, hinc⟩, hruns⟩ := h
    refine congrArg Host.Outcome.next ?_
    simp only [hwait, hinc, hruns, Nat.not_lt.2 hlong, Bool.not_true, Bool.or_self, decide_false, Bool.false_eq_true, if_false]
  case losDeclare =>
    intro s n h
    simp only [Bool.and_eq_true, Bool.not_eq_true'] at h
    obtain ⟨⟨hruns, hlos⟩, hquiet⟩ := h
    exact congrArg Host.Outcome.next (if_neg (by
      simp only [hruns, hlos, hquiet, Bool.not_true, Bool.or_self, Bool.false_eq_true, not_false_eq_true]))
  case losClear =>
    intro s n h
    simp only [Bool.and_eq_true, Bool.not_eq_true'] at h
    obtain ⟨⟨hruns, hlos⟩, hquiet⟩ := h
    exact congrArg Host.Outcome.next (if_neg (by
      simp only [hruns, hlos, hquiet, Bool.not_true, Bool.or_self, Bool.false_eq_true, not_false_eq_true]))
  case tuMultiframe =>
    intro s t h
    simp only [Bool.and_eq_true, Bool.not_eq_true', decide_eq_true_eq] at h
    obtain ⟨⟨⟨⟨hkind, hlevel⟩, hform⟩, hruns⟩, hmasked⟩ := h
    refine congrArg Host.Outcome.next ((if_neg ?_).trans (if_neg ?_))
    · simp only [hkind, hlevel, hform, hruns, ne_eq, not_true_eq_false, decide_false, Bool.not_true, Bool.or_self, Bool.false_eq_true,
        not_false_eq_true]
    · rw [hmasked]; exact Bool.false_ne_true
  case lineWindow => exact fun s a h => congrArg Host.Outcome.next (ite_not_of_true h)
  case pathWindow =>
    intro s a h
    simp only [Bool.and_eq_true, decide_eq_true_eq] at h
    obtain ⟨⟨⟨hkind, hform⟩, hlevel⟩, hruns⟩ := h
    exact congrArg Host.Outcome.next (if_neg (by rw [bipGuard_false hkind hform hlevel hruns]; exact Bool.false_ne_true))
  case transmit =>
    intro s f h
    simp only [Bool.and_eq_true, List.isEmpty_iff] at h
    obtain ⟨hruns, hpaths⟩ := h
    refine congrArg Host.Outcome.next ((ite_not_of_true hruns).trans ?_)
    simp only [hpaths, List.filter_nil, List.foldl_nil]

end Sys2Proof.Machine
end


section
/-!
PROOFS. Framing (O24): a C37.94 frame that finds no header out of frame leaves the port unclean, where the row keeps what stood there.
-/
namespace Sys2Proof.Machine

open Sys2Proof.Claims

/-- Whether the C37.94 framer of a port is left clean. -/
def c37CleanAfter (p : Nat) : Host.Outcome State Fault Refusal → Bool
  | .next t => (t.c37 p).clean
  | _ => false

/-- Port 1 carries C37.94 and lost its frame by a clock loss since its last clean block. -/
def staleClean : State := { Tests.sTrib with fram.c37 := [(1, { C37State.reset with clean := true })] }

/-- A C37.94 frame of port 1 that shows no header anywhere. -/
def headlessFrame : C37Rx :=
  { port := 1, heads := 0, phase := 0, viol := 0, count := 0, yellow := false, quiet := false, lively := true, qb := false }

/-- The frame takes the mark of a clean block back; the row does not. -/
theorem c37FrameReceive_staleClean : framingRows[10].can staleClean headlessFrame = true ∧
    c37CleanAfter 1 (exec (framingRows[10].instr headlessFrame) staleClean) = false ∧
    c37CleanAfter 1 (.next (framingRows[10].eff staleClean headlessFrame)) = true := by
  decide +kernel

/-- Refutes O24: out of frame the mark of a clean block goes, and the row of the C37.94 frame keeps it. -/
theorem not_framingCommandsComplete : ¬ Obligations.FramingCommandsComplete := by
  intro h
  obtain ⟨hcan, hleft, hrow⟩ := c37FrameReceive_staleClean
  have hsame := congrArg (c37CleanAfter 1) (h framingRows[10] (List.getElem_mem _) staleClean headlessFrame hcan)
  rw [hleft, hrow] at hsame
  exact Bool.false_ne_true hsame

end Sys2Proof.Machine
end


section
/-!
PROOFS. Protection switching, alignment and symmetry complete (O25).
-/
namespace Sys2Proof.Machine

open Sys2Proof.Claims

/-! Merged selection -/

/-- A group that is locked or holds has an entry of its own in the table. -/
theorem State.alignGroup_setAlignGroup_same {s : State} {pg : Nat} {g : AlignGroup} (h : g.mode = .locked ∨ g.mode = .hold) :
    (s.setAlignGroup pg g).alignGroup pg = g := by
  have hne : g ≠ AlignGroup.reset := fun e => by rw [e] at h; exact h.elim nofun nofun
  rw [State.alignGroup, State.setAlignGroup, Tab.put, if_neg hne]
  exact Tab.look_ins_same

theorem State.merging_iff {s : State} {pg : Nat} :
    s.merging pg = true ↔ (s.cfg.b.pg pg).any PgRec.merge = true ∧ ((s.alignGroup pg).mode = .locked ∨ (s.alignGroup pg).mode = .hold) ∧
      (s.protection true pg).cmd ≠ 1 ∧ (s.protection true pg).cmd ≠ 2 := by
  unfold State.merging
  cases s.cfg.b.pg pg <;> simp [and_assoc]

/-- The state a block of a merged group is judged in: its SKEW is noted and nothing is picked yet. -/
def State.judging (s : State) (pg : Nat) (skew : Bool) : State :=
  s.setAlignGroup pg { s.alignGroup pg with skew := (s.alignGroup pg).isLocked && skew, pick := none }

section
variable {s : State} {pg : Nat} (skew : Bool)

theorem State.judging_alignGroup (h : s.merging pg = true) :
    (s.judging pg skew).alignGroup pg = { s.alignGroup pg with skew := (s.alignGroup pg).isLocked && skew, pick := none } :=
  State.alignGroup_setAlignGroup_same (State.merging_iff.1 h).2.1

theorem State.judging_merging (h : s.merging pg = true) : (s.judging pg skew).merging pg = true := by
  have hgroup := State.judging_alignGroup skew h
  obtain ⟨hmerge, hmode, hcmd⟩ := State.merging_iff.1 h
  exact State.merging_iff.2 ⟨hmerge, by rw [hgroup]; exact hmode, hcmd⟩

theorem State.judging_legClean (h : s.merging pg = true) (r : PgRec) (one qb : Bool) :
    (s.judging pg skew).legClean pg r one qb = s.legClean pg r one qb := by
  rw [State.legClean, State.judging_alignGroup skew h]
  rfl

end

/-- What a merged group's block does once it is known which legs are clean (R270, R273). -/
def State.pickLeg (s : State) (pg : Nat) (pref other : Bool) : State :=
  let one := (s.protection true pg).sel
  let take := if pref then one else if other then !one else one
  let t := s.setAlignGroup pg { s.alignGroup pg with pick := some take }
  let p := t.protection true pg
  (t.setProtection true pg { p with notPref := satAdd 32 p.notPref (take != one).toNat }).count 0x0701 pg (take != one).toNat

/-- A block of a group that merges, without SKEW, with a clean leg. -/
theorem State.mergedBlock_clean {s : State} {x : BlockIn} {r : PgRec} {pref other : Bool} (hmerge : mergesNow s x r = true) (hskew : x.skew = false)
    (hpref : legsClean s x r (s.protection true x.pg.val).sel = pref) (hother : legsClean s x r (!(s.protection true x.pg.val).sel) = other)
    (hclean : (pref || other) = true) :
    s.mergedBlock x = (s.judging x.pg.val x.skew).pickLeg x.pg.val pref other := by
  simp only [mergesNow, Bool.and_eq_true, decide_eq_true_eq] at hmerge
  obtain ⟨⟨hpg, hmerging⟩, hread⟩ := hmerge
  unfold State.mergedBlock
  extract_lets pg g t one _
  rw [show s.cfg.b.pg pg = some r from hpg]
  dsimp -zeta only
  extract_lets c0 c1 first second
  have hc0 : c0 = legsClean s x r false := State.judging_legClean x.skew hmerging r false x.qb0
  have hc1 : c1 = legsClean s x r true := by
    simp only [c1, hskew, Bool.not_false, Bool.true_or, Bool.and_true]
    exact State.judging_legClean x.skew hmerging r true x.qb1
  have hone : one = (s.protection true x.pg.val).sel := rfl
  have hfirst : first = pref := by
    rw [← hpref, ← hone]
    cases hb : one <;> simp only [first, hb, hc0, hc1, Bool.false_eq_true, if_false, if_true]
  have hsecond : second = other := by
    rw [← hother, ← hone]
    cases hb : one <;> simp only [second, hb, hc0, hc1, Bool.false_eq_true, if_false, if_true, Bool.not_false, Bool.not_true]
  clear_value first second
  subst hfirst hsecond
  have hruns : ¬ (!t.merging pg || decide (g.judged0.length ≤ if one then g.read1 else g.read0)) = true := by
    rw [show t.merging pg = true from State.judging_merging x.skew hmerging,
      show decide (g.judged0.length ≤ if one then g.read1 else g.read0) = false from decide_eq_false (Nat.not_le.2 hread)]
    exact Bool.false_ne_true
  have hpicks : ¬ (!first && !second) = true := by
    rw [← Bool.not_or, hclean]
    exact Bool.false_ne_true
  exact (if_neg hruns).trans (if_neg hpicks)

@[simp] theorem State.putProt_fwStall (s : State) (group : Bool) (n wtr : Nat) (p : Prot) :
    (s.putProt group n wtr p).prot.fwStall = s.prot.fwStall := by
  have hset : (s.setProtection group n p).prot.fwStall = s.prot.fwStall := by cases group <;> rfl
  unfold State.putProt State.mirrorProt
  extract_lets old t
  split
  · exact hset
  · split <;> exact hset

@[simp] theorem State.count_zero (s : State) (sel obj : Nat) : s.count sel obj 0 = s := if_pos rfl

@[simp] theorem State.count_cfg (s : State) (sel obj n : Nat) : (s.count sel obj n).cfg = s.cfg :=
  State.cfg_of_works (s.count_works sel obj n)

/-- A span of a group that marks align, or with QB, is kept and compares nothing (R287). -/
theorem State.signatureSpan_kept {s : State} {x : SigRx} {r : PgRec} (hpg : s.cfg.b.pg x.pg.val = some r) (hruns : s.groupRuns x.pg.val = true)
    (hshut : s.cfg.b.alignModeOf x.pg.val = 2 ∨ x.qb = true) :
    s.signatureSpan x =
      (let pg := x.pg.val
       let g := s.alignGroup pg
       let sig : BitVec 32 := BitVec.ofNat 32 (crcOver 32 0x04C1_1DB7 0xFFFF_FFFF x.octets)
       let old := if x.leg1 then g.sigs1 else g.sigs0
       let flat := flatRun (lastN 7 (old.map (·.sig)) ++ [sig])
       let kept := lastN sigsKept (old ++ [⟨s.now, sig, !x.qb && !s.spanSf pg r x.leg1, flat⟩])
       (s.count 0x0702 pg flat.toNat).setAlignGroup pg { g with
         flats := satAdd 8 g.flats flat.toNat, sigs0 := if x.leg1 then g.sigs0 else kept, sigs1 := if x.leg1 then kept else g.sigs1 }) := by
  unfold State.signatureSpan
  extract_lets pg g sig old flat counted mode
  have hmode : mode = s.cfg.b.alignModeOf x.pg.val := congrArg (fun c : Cfg => c.b.alignModeOf pg) (s.count_cfg _ _ _)
  rw [show s.cfg.b.pg pg = some r from hpg]
  refine (ite_not_of_true hruns).trans (if_pos ?_)
  refine hshut.imp hmode.trans fun hqb => ?_
  simp only [Sig.good, hqb, Bool.not_true, Bool.false_and, Bool.not_false]

/-- A mark that is on no leg of a group touches none (R289). -/
theorem State.foldl_unmarked {s : State} {e : Eid} {step : State → Nat × PgRec → State}
    (hstep : ∀ x : Nat × PgRec, markPath x.2.leg0 ≠ e → markPath x.2.leg1 ≠ e → step s x = s) :
    ∀ {l : List (Nat × PgRec)}, (l.any fun x => decide (markPath x.2.leg0 = e) || decide (markPath x.2.leg1 = e)) = false →
      l.foldl step s = s
  | [], _ => rfl
  | x :: l, h => by
    simp only [List.any_cons, Bool.or_eq_false_iff, decide_eq_false_iff_not] at h
    rw [List.foldl_cons, hstep x h.1.1 h.1.2, State.foldl_unmarked hstep h.2]

/-- Settles O25: each row's conditions choose the branch that the row states. -/
theorem protectionAndAlignmentCommandsComplete : Obligations.ProtectionAndAlignmentCommandsComplete := by
  simp -zeta only [Obligations.ProtectionAndAlignmentCommandsComplete, protRows, List.forall_mem_cons]
  refine ⟨?abandoned, ?holdoff, ?wtr, ?apsService, ?fopOn, ?fopOff, ?fwStall, ?preferred, ?other, ?span, ?markBad, ?markFree, ?verify, ?stuck,
    List.forall_mem_nil _⟩
  case abandoned =>
    intro s b h
    refine congrArg Host.Outcome.next ?_
    simp only [of_decide_eq_true h]
    rfl
  case holdoff =>
    intro s a h
    exact congrArg Host.Outcome.next (if_pos h)
  case wtr =>
    intro s a h
    simp only [Option.any_eq_true] at h
    obtain ⟨t, ht, hdue⟩ := h
    refine congrArg Host.Outcome.next ?_
    simp only [ht, hdue, if_true]
  case apsService =>
    intro s a h
    simp only [Bool.and_eq_true, Bool.not_eq_true', decide_eq_true_eq] at h
    obtain ⟨⟨⟨hpair, hactive⟩, huni⟩, hstall⟩ := h
    refine congrArg Host.Outcome.next ?_
    simp only [hpair, hactive, huni, hstall, Bool.false_and, Bool.false_eq_true, if_false, Bool.toNat_false, State.count_zero,
      State.putProt_fwStall]
  case fopOn =>
    intro s n h
    simp only [Bool.and_eq_true, decide_eq_true_eq] at h
    exact congrArg Host.Outcome.next ((if_neg (by rw [Option.isNone_eq_false_iff.2 h.1]; exact Bool.false_ne_true)).trans (if_pos h.2))
  case fopOff =>
    intro s n h
    simp only [Bool.and_eq_true, decide_eq_true_eq] at h
    obtain ⟨⟨hpair, hbad⟩, hgood⟩ := h
    exact congrArg Host.Outcome.next ((if_neg (by rw [Option.isNone_eq_false_iff.2 hpair]; exact
      Bool.false_ne_true)).trans ((if_neg (Nat.not_le.2 hbad)).trans (if_pos hgood)))
  case fwStall =>
    intro s _ h
    simp only [Bool.and_eq_true, List.any_eq_true, Option.any_eq_true] at h
    obtain ⟨hstall, x, hx, t, hwait, hlate⟩ := h
    refine congrArg Host.Outcome.next (if_pos ?_)
    rw [hstall, Bool.and_true, List.any_eq_true]
    exact ⟨x, hx, by rw [hwait]; exact hlate⟩
  case preferred =>
    intro s a h
    simp only [Bool.and_eq_true, Bool.not_eq_true'] at h
    obtain ⟨⟨hmerge, hskew⟩, hclean⟩ := h
    refine congrArg Host.Outcome.next ((State.mergedBlock_clean hmerge hskew hclean rfl rfl).trans ?_)
    simp only [State.pickLeg, if_true, bne_self_eq_false, Bool.toNat_false]
    rfl
  case other =>
    intro s a h
    simp only [Bool.and_eq_true, Bool.not_eq_true'] at h
    obtain ⟨⟨⟨hmerge, hskew⟩, hbad⟩, hclean⟩ := h
    refine congrArg Host.Outcome.next ((State.mergedBlock_clean hmerge hskew hbad hclean rfl).trans ?_)
    simp only [State.pickLeg, Bool.false_eq_true, if_false, if_true, Bool.not_bne_self, Bool.toNat_true]
    rfl
  case span =>
    intro s a h
    simp only [Bool.and_eq_true, Bool.or_eq_true, decide_eq_true_eq] at h
    obtain ⟨⟨hpg, hruns⟩, hshut⟩ := h
    exact congrArg Host.Outcome.next (State.signatureSpan_kept hpg hruns hshut)
  case markBad =>
    intro s m h
    obtain ⟨hunts, hcrc⟩ := Bool.and_eq_true_iff.1 h
    exact congrArg Host.Outcome.next ((ite_not_of_true hunts).trans (if_pos (of_decide_eq_true hcrc)))
  case markFree =>
    intro s m h
    obtain ⟨h, hfree⟩ := Bool.and_eq_true_iff.1 h
    obtain ⟨h, hkind⟩ := Bool.and_eq_true_iff.1 h
    obtain ⟨hunts, hcrc⟩ := Bool.and_eq_true_iff.1 h
    replace hkind : markKind m.octets = 1 := of_decide_eq_true hkind
    refine congrArg Host.Outcome.next ((ite_not_of_true hunts).trans ((if_neg (not_not_intro (of_decide_eq_true hcrc))).trans
      ((if_neg fun hne => hne.1 hkind).trans ((if_pos (by rw [hkind]; decide)).trans ?_))))
    refine State.foldl_unmarked (fun x h0 h1 => ?_) ((Bool.not_eq_true' _).mp hfree)
    have hleg (leg : Eid) (hne : markPath leg ≠ m.eid) (b c : Bool) : ¬ (b && decide (markPath leg = m.eid) && c) = true := by
      rw [decide_eq_false hne, Bool.and_false]
      exact Bool.false_ne_true
    exact (if_neg (hleg x.2.leg1 h1 _ _)).trans (if_neg (hleg x.2.leg0 h0 _ _))
  case verify => exact fun s pg h => congrArg Host.Outcome.next (if_pos h)
  case stuck =>
    intro s pg h
    simp only [Bool.and_eq_true, Bool.not_eq_true', decide_eq_true_eq, Option.any_eq_true] at h
    obtain ⟨⟨⟨t, hfree, hdue⟩, hstuck⟩, hmode⟩ := h
    refine congrArg Host.Outcome.next ?_
    simp only [hfree, hstuck, hmode, hdue, decide_true, Bool.not_true, Bool.or_self, Bool.false_eq_true, if_false]

end Sys2Proof.Machine
end


section
/-!
PROOFS. Ethernet frames, pseudowires and their playout complete (O26).
-/
namespace Sys2Proof.Machine

open Sys2Proof.Claims

/-- A frame of a lane whose Ethernet link is up is heard. -/
theorem ethHeard {s : State} {n : Nat} (heth : s.laneEth n = true) (hup : s.linkUp n = true) : ¬ (!s.laneEth n || !s.linkUp n) = true := by
  rw [heth, hup]
  exact Bool.false_ne_true

theorem frameTaken_iff {s : State} {f : EthRx} :
    frameTaken s f = true ↔ s.laneEth f.lane.val = true ∧ s.linkUp f.lane.val = true ∧ f.fcsOk = true ∧ 64 ≤ f.octets.length + 4 ∧
      f.octets.length + 4 ≤ 9600 := by
  simp only [frameTaken, Bool.and_eq_true, decide_eq_true_eq, and_assoc]

/-- A frame that is taken passes the checks of the receiver (R315). -/
theorem State.ethReceive_taken {s : State} {f : EthRx} (h : frameTaken s f = true) :
    s.ethReceive f =
      if (ethHead f.octets).etype = 0x8808 then
        (s.setLane f.lane.val { s.lane f.lane.val with pauseDiscards := (s.lane f.lane.val).pauseDiscards + 1 }).count 0x0106 f.lane.val 1
      else if (ethHead f.octets).etype = 0x88F7 then (s.count 0x0107 f.lane.val 1).ptpFrame f.lane.val (ethHead f.octets) f.fn f.cycle
      else (s.count 0x0107 f.lane.val 1).ethForward f.lane.val (ethHead f.octets) f.octets := by
  obtain ⟨heth, hup, hfcs, hshort, hlong⟩ := frameTaken_iff.1 h
  refine (if_neg (ethHeard heth hup)).trans (if_neg ?_)
  rw [hfcs, decide_eq_false (Nat.not_lt.2 hshort), decide_eq_false (Nat.not_lt.2 hlong)]
  exact Bool.false_ne_true

/-- A pseudowire queue that plays is due (R327). -/
theorem playoutDue {s : State} {q : Nat} (hpw : (s.cfg.b.queue q).pw = true) (hon : s.queueOn q = true) (hdue : (s.queue q).playAt ≤ s.now) :
    ¬ (!(s.cfg.b.queue q).pw || !s.queueOn q || decide (s.now < (s.queue q).playAt)) = true := by
  rw [hpw, hon, decide_eq_false (Nat.not_lt.2 hdue)]
  exact Bool.false_ne_true

/-- Settles O26: each row's conditions choose the branch that the row states. -/
theorem packetCommandsComplete : Obligations.PacketCommandsComplete := by
  simp -zeta only [Obligations.PacketCommandsComplete, packetRows, List.forall_mem_cons]
  refine ⟨?bad, ?pause, ?ptp, ?forward, ?play, ?fillWaits, ?fillEnds, ?window, ?send, ?transmit, List.forall_mem_nil _⟩
  case bad =>
    intro s f h
    simp only [Bool.and_eq_true] at h
    obtain ⟨⟨heth, hup⟩, hbad⟩ := h
    exact congrArg Host.Outcome.next ((if_neg (ethHeard heth hup)).trans (if_pos hbad))
  case pause =>
    intro s f h
    simp only [Bool.and_eq_true, decide_eq_true_eq] at h
    exact congrArg Host.Outcome.next ((State.ethReceive_taken h.1).trans (if_pos h.2))
  case ptp =>
    intro s f h
    simp only [Bool.and_eq_true, decide_eq_true_eq] at h
    exact congrArg Host.Outcome.next ((State.ethReceive_taken h.1).trans ((if_neg (by rw [h.2]; decide)).trans (if_pos h.2)))
  case forward =>
    intro s f h
    simp only [Bool.and_eq_true, decide_eq_true_eq] at h
    obtain ⟨htaken, hptp, hpause⟩ := h
    exact congrArg Host.Outcome.next ((State.ethReceive_taken htaken).trans ((if_neg hpause).trans (if_neg hptp)))
  case play =>
    intro s q h
    simp only [Bool.and_eq_true, decide_eq_true_eq] at h
    obtain ⟨⟨⟨hpw, hon⟩, hdue⟩, hmode⟩ := h
    refine congrArg Host.Outcome.next ((if_neg (playoutDue hpw hon hdue)).trans ?_)
    simp only [hmode]
  case fillWaits =>
    intro s q h
    simp only [Bool.and_eq_true, decide_eq_true_eq] at h
    obtain ⟨⟨⟨⟨hpw, hon⟩, hdue⟩, hmode⟩, hearly⟩ := h
    refine congrArg Host.Outcome.next ((if_neg (playoutDue hpw hon hdue)).trans ?_)
    simp only [hmode, hearly, if_true]
  case fillEnds =>
    intro s q h
    simp only [Bool.and_eq_true, decide_eq_true_eq] at h
    obtain ⟨⟨⟨⟨hpw, hon⟩, hdue⟩, hmode⟩, hready⟩ := h
    refine congrArg Host.Outcome.next ((if_neg (playoutDue hpw hon hdue)).trans ?_)
    simp only [hmode, Nat.not_lt.2 hready, if_false]
  case window =>
    intro s a h
    refine congrArg Host.Outcome.next ?_
    simp only [of_decide_eq_true h]
  case send =>
    intro s q h
    simp only [Bool.and_eq_true, Bool.not_eq_true', decide_eq_true_eq] at h
    obtain ⟨⟨⟨⟨⟨hpw, hon⟩, hmode⟩, hfull⟩, hup⟩, hhdr⟩ := h
    refine congrArg Host.Outcome.next ((if_neg ?_).trans ((if_neg ?_).trans (if_neg ?_)))
    · rw [hpw, hon, decide_eq_false hmode, decide_eq_false (not_not_intro hfull)]
      exact Bool.false_ne_true
    · rw [hup]; exact Bool.false_ne_true
    · rw [hhdr]; exact Bool.false_ne_true
  case transmit =>
    intro s a h
    simp only [Bool.and_eq_true, decide_eq_true_eq] at h
    obtain ⟨⟨heth, hup⟩, hqueue⟩ := h
    refine congrArg Host.Outcome.next ((if_neg (ethHeard heth hup)).trans ?_)
    simp only [hqueue]

end Sys2Proof.Machine
end


section
/-!
PROOFS. Timing inputs, PTP, the servo and the oscillator model complete (O27).
-/
namespace Sys2Proof.Machine

open Sys2Proof.Claims

/-- A qualified candidate with a fault and no bad frequency is hit, or disqualified where hits are not waited for (R336). -/
theorem State.candStep_faulty {s : State} {c : Nat} (hmode : (s.cand c).mode = .qualified) (hfreq : (s.cand c).freqBad = false)
    (hfault : s.candFault c ≠ 0) :
    s.candStep c = (s.candTo c (if timHit (s.timIn c) = 0 then .disqualified else .hit) (decide (s.candFault c = 4))).candSettle := by
  simp only [State.candStep, hmode, hfreq, hfault, Bool.false_eq_true, if_false]

/-- A disabled candidate stays as it is. -/
theorem State.candStep_disabled {s : State} {c : Nat} (hmode : (s.cand c).mode = .disabled) : s.candStep c = s.candSettle := by
  simp only [State.candStep, hmode]

/-- The first pulse of an input that carries no time: it is good, and it tells no offset (R347). -/
theorem State.ppsPulse_first {s : State} {p : PpsRx} (hpps : s.isPps (104 + p.refin.val) = true)
    (hen : timEn (s.timIn (104 + p.refin.val)) = true) (htod : (s.cand (104 + p.refin.val)).tod = none)
    (hlabel : (s.cand (104 + p.refin.val)).label = none) (hgood : (s.cand (104 + p.refin.val)).lastGood = none) :
    s.ppsPulse p =
      ((s.setCand (104 + p.refin.val) { s.cand (104 + p.refin.val) with
        lastGood := some s.now, offPulse := false, unlabelled := (s.cand (104 + p.refin.val)).unlabelled + 1, theta := none }).count 0x0808
        p.refin.val 1).candStep (104 + p.refin.val) := by
  simp only [State.ppsPulse, hpps, hen, htod, hlabel, hgood, Bool.not_true, Bool.or_self, Bool.true_or, Bool.false_eq_true, if_false, if_true,
    Option.map_none, Option.isSome_none, Option.isNone_none, Bool.toNat_true]

/-- An evaluation that neither a command nor the active unit decides selects for itself (R340). -/
theorem State.evaluate_selects {s : State} {a : Int × Int} (hfn : s.fnNat % 8 = 0) (hlast : s.tim.lastEval ≠ some s.now)
    (hforced : (evaluated s a).1.tim.forced = false) (hactive : ((evaluated s a).1.isStandby && (evaluated s a).1.pair.mateUp) = false) :
    s.evaluate a.1 a.2 = (((evaluated s a).1.select (evaluated s a).2).followQl).squelchStep := by
  have hdue : ¬ (s.fnNat % 8 ≠ 0 || decide (s.tim.lastEval = some s.now)) = true := by
    simp only [hfn, hlast, ne_eq, not_true_eq_false, decide_false, Bool.or_self, Bool.false_eq_true, not_false_eq_true]
  revert hforced hactive
  unfold State.evaluate evaluated
  rw [if_neg hdue]
  extract_lets _ r t m wtr _ steered r' t' m' wtr' _ judged _ selected
  have hr : r' = r := rfl
  clear_value r r'
  subst hr
  have ht : t' = t := rfl
  clear_value t t'
  subst ht
  change judged.tim.forced = false → (judged.isStandby && judged.pair.mateUp) = false →
    selected.followQl.squelchStep = (judged.select r'.2).followQl.squelchStep
  intro hforced hactive
  have hselected : selected = judged.select r'.2 := by simp only [selected, hforced, hactive, Bool.false_eq_true, if_false]
  rw [hselected]

/-- Settles O27: each row's conditions choose the branch that the row states. -/
theorem timingCommandsComplete : Obligations.TimingCommandsComplete := by
  simp -zeta only [Obligations.TimingCommandsComplete, timingRows, List.forall_mem_cons]
  refine ⟨?fault, ?disabled, ?gate, ?qualified, ?hitEnds, ?evaluation, ?lock, ?holdover, ?record, ?fit, ?age, ?pps, ?tod, ?sync, ?request,
    ?announce, ?servo, ?offset, List.forall_mem_nil _⟩
  case fault =>
    intro s a h
    simp only [Bool.and_eq_true, Bool.not_eq_true', decide_eq_true_eq] at h
    obtain ⟨⟨hmode, hfreq⟩, hfault⟩ := h
    refine congrArg Host.Outcome.next (?_ : (edgeNoted s a).candStep a.1.val = _)
    exact State.candStep_faulty hmode hfreq hfault
  case disabled =>
    intro s a h
    refine congrArg Host.Outcome.next (?_ : (edgeNoted s a).candStep a.1.val = _)
    exact State.candStep_disabled (of_decide_eq_true h)
  case gate =>
    intro s a h
    have hen : timEn (s.timIn a.1.val) = true := h
    refine congrArg Host.Outcome.next ?_
    simp only [hen, Bool.not_true, Bool.false_eq_true, if_false]
  case qualified =>
    intro s c h
    simp only [Bool.and_eq_true, Bool.not_eq_true', decide_eq_true_eq] at h
    obtain ⟨⟨⟨hmode, hdue⟩, hfault⟩, hfreq⟩ := h
    refine congrArg Host.Outcome.next ((if_pos (And.intro hmode hdue)).trans (if_pos (And.intro hfault ?_)))
    rw [hfreq]; rfl
  case hitEnds =>
    intro s c h
    simp only [Bool.and_eq_true, decide_eq_true_eq, and_assoc] at h
    exact congrArg Host.Outcome.next (if_pos h)
  case evaluation =>
    intro s a h
    simp only [Bool.and_eq_true, Bool.not_eq_true', decide_eq_true_eq] at h
    obtain ⟨⟨⟨hfn, hlast⟩, hforced⟩, hactive⟩ := h
    refine congrArg Host.Outcome.next (?_ : s.evaluate a.1 a.2 = _)
    exact State.evaluate_selects hfn hlast hforced hactive
  case lock =>
    intro s c h
    simp only [Bool.and_eq_true, decide_eq_true_eq] at h
    obtain ⟨⟨⟨hsys, hsel⟩, husable⟩, hdue⟩ := h
    refine congrArg Host.Outcome.next (if_pos ?_)
    simp only [hsys, hsel, husable, hdue, decide_true, Bool.and_self]
  case holdover => exact fun s _ h => congrArg Host.Outcome.next (if_pos h)
  case record =>
    intro s c h
    simp only [Bool.and_eq_true, Bool.not_eq_true', decide_eq_true_eq] at h
    obtain ⟨⟨⟨⟨⟨⟨hsys, hsel⟩, hql⟩, hmodel⟩, hlocked⟩, hdue⟩, hshort⟩ := h
    have hfew (x : ModelRec) : ¬ 8640 ≤ ((x :: s.tim.records).take modelKept).length := by
      rw [List.length_take, List.length_cons]
      omega
    refine congrArg Host.Outcome.next ?_
    simp only [hsys, hsel, hql, hmodel, hlocked, hdue, hfew, decide_true, Bool.not_false, Bool.true_or, Bool.and_self, Bool.not_true,
      Bool.false_eq_true, reduceCtorEq, ne_eq, not_false_eq_true, if_false]
  case fit =>
    intro s a h
    simp only [Bool.and_eq_true, decide_eq_true_eq] at h
    obtain ⟨⟨⟨⟨hrange, hmodel⟩, hdue⟩, hnarrow⟩, hshort⟩ := h
    refine congrArg Host.Outcome.next ?_
    simp only [hrange, hmodel, hdue, decide_false, Bool.not_true, Bool.or_self, Bool.false_eq_true, if_false, Int.not_le.2 hnarrow,
      Nat.not_le.2 hshort]
  case age => exact fun s _ h => congrArg Host.Outcome.next (if_neg (of_decide_eq_true h))
  case pps =>
    intro s p h
    simp only [Bool.and_eq_true, Option.isNone_iff_eq_none] at h
    obtain ⟨⟨⟨⟨hpps, hen⟩, htod⟩, hlabel⟩, hgood⟩ := h
    refine congrArg Host.Outcome.next ?_
    simp only [State.ppsPulse_first hpps hen htod hlabel hgood]
  case tod =>
    intro s t h
    refine congrArg Host.Outcome.next ?_
    simp only [of_decide_eq_true h, ne_eq, not_true_eq_false, if_false]
  case sync =>
    intro s a h
    refine congrArg Host.Outcome.next ?_
    simp only [of_decide_eq_true h, Fin.val_zero, and_self, if_true]
  case request =>
    intro s a h
    exact congrArg Host.Outcome.next ((if_neg fun hsync => absurd hsync.1 (by decide)).trans (if_pos (And.intro rfl (of_decide_eq_true h))))
  case announce =>
    intro s i h
    simp only [Bool.and_eq_true, decide_eq_true_eq] at h
    obtain ⟨⟨hdisabled, hmaster⟩, hdue⟩ := h
    refine congrArg Host.Outcome.next ?_
    simp only [hdisabled, hmaster, hdue, Bool.not_true, Bool.false_eq_true, or_self, if_false]
  case servo =>
    intro s _ h
    simp only [Bool.and_eq_true, Option.any_eq_true] at h
    obtain ⟨⟨p, hparent, hcls⟩, t, hgood, hdue⟩ := h
    refine congrArg Host.Outcome.next ?_
    simp only [hparent, hcls, hgood, hdue, Bool.and_self, if_true]
  case offset =>
    intro s _ h
    simp only [Bool.and_eq_true, decide_eq_true_eq] at h
    exact congrArg Host.Outcome.next ((if_pos h).trans (if_pos h.1))

end Sys2Proof.Machine
end


section
/-!
PROOFS. Packets at the four command ports and the craft interface complete (O28).
-/
namespace Sys2Proof.Machine

open Sys2Proof.Claims

theorem mgmtTaken_iff {s : State} {f : MgmtRx} :
    mgmtTaken s f = true ↔ s.host.craft.cp2Link = true ∧ s.awake = true ∧ f.fcsOk = true ∧ f.octets.length + 4 ≤ 4132 ∧
      s.cp2Vlan (ethHead f.octets) = true := by
  simp only [mgmtTaken, Bool.and_eq_true, decide_eq_true_eq, and_assoc]

/-- A management frame that is taken goes on to its command port, to PTP, or is counted (R388, R391). -/
theorem State.mgmtReceive_taken {s : State} {f : MgmtRx} (h : mgmtTaken s f = true) :
    s.mgmtReceive f =
      if (ethHead f.octets).etype = 0x88B5 ∧ (ethHead f.octets).dst = s.host.craft.mgmtMac.toNat then
        s.arrive ⟨2, (ethHead f.octets).rest, .eth (BitVec.ofNat 48 (at_ f.octets 6 6))
          (if (ethHead f.octets).vids.isEmpty then none else some (BitVec.ofNat 16 (at_ f.octets 14 2)))⟩ f.fetched
      else if s.cp2Ptp (ethHead f.octets) then s.ptpFrame 40 (ethHead f.octets) f.fn f.cycle
      else State.count { s with host.craft.cp2Other := s.host.craft.cp2Other + 1 } 0x0907 2 1 := by
  obtain ⟨hlink, hawake, hfcs, hsize, hvlan⟩ := mgmtTaken_iff.1 h
  simp only [State.mgmtReceive, hlink, hawake, hfcs, hvlan, Nat.not_lt.2 hsize, decide_false, Bool.not_true, Bool.or_self, Bool.false_eq_true,
    if_false]

/-- A packet that the craft interface wrote whole is taken (R455). -/
theorem State.craftWrite_taken {s : State} {n : BitVec 16} {data : List Byte} (fetched : List Byte) (hen : s.spiEn = true) (hmin : 48 ≤ n.toNat)
    (hmax : n.toNat ≤ 4096) (hlen : n.toNat + 2 ≤ data.length) (hheld : s.host.craft.held = none)
    (hcrc : craftCrc (data.take n.toNat) = at_ data n.toNat 2) :
    s.craftWrite n data fetched = (s.emit (.spi (List.replicate (2 + data.length) 0xFF))).craftTake false (data.take n.toNat) fetched := by
  have hheld' : (s.emit (.spi (List.replicate (2 + data.length) 0xFF))).host.craft.held = none := hheld
  simp only [State.craftWrite, hen, Nat.not_lt.2 hmin, Nat.not_lt.2 hmax, Nat.not_lt.2 hlen, hheld', hcrc, ne_eq, not_true_eq_false, or_self,
    Option.isSome_none, Bool.not_true, Bool.false_eq_true, if_false]

/-- A frame of the optical line that is whole is taken (R456). -/
theorem State.opticalReceive_taken {s : State} {chars : List Byte} (fetched : List Byte) (hlistens : s.optListens = true)
    (hchars : chars.isEmpty = false) (hnibbles : chars.all isNibble = true) (heven : chars.length % 2 = 0) (hmin : 2 ≤ (unNibble chars).length)
    (hheld : s.host.craft.held = none)
    (hcrc : craftCrc ((unNibble chars).take ((unNibble chars).length - 2)) = at_ (unNibble chars) ((unNibble chars).length - 2) 2) :
    s.opticalReceive chars false fetched = s.craftTake true ((unNibble chars).take ((unNibble chars).length - 2)) fetched := by
  simp only [State.opticalReceive, hlistens, hchars, hnibbles, heven, Nat.not_lt.2 hmin, hheld, hcrc, ne_eq, not_true_eq_false, decide_false,
    Nat.zero_ne_one, Option.isSome_none, Bool.not_true, Bool.or_self, Bool.false_eq_true, if_false]

/-- Settles O28: each row's conditions choose the branch that the row states. -/
theorem portCommandsComplete : Obligations.PortCommandsComplete := by
  simp -zeta only [Obligations.PortCommandsComplete, portRows, List.forall_mem_cons]
  refine ⟨?quietEnd, ?waiting, ?arrived, ?deferred, ?mgmtBad, ?mgmtPacket, ?mgmtPtp, ?craftTaken, ?craftShort, fun _ _ h => congrArg _ (if_pos h),
    ?craftRead, ?craftPart, ?opticalTaken, ?opticalGap, ?lineFault, ?lineQuiet, ?opticalReply, fun _ _ _ => rfl, List.forall_mem_nil _⟩
  case quietEnd =>
    intro s a h
    simp only [Bool.and_eq_true, decide_eq_true_eq] at h
    obtain ⟨hquiet, hdue⟩ := h
    refine congrArg Host.Outcome.next ?_
    simp only [hquiet, hdue, if_true, State.endQuiet, Option.isNone_some, Bool.false_eq_true, if_false]
  case waiting =>
    intro s a h
    simp only [Bool.and_eq_true, decide_eq_true_eq] at h
    obtain ⟨htakes, hready⟩ := h
    refine congrArg Host.Outcome.next ?_
    simp only [htakes, hready, Bool.not_true, Bool.false_eq_true, if_false]
  case arrived =>
    intro s a h
    simp only [Bool.and_eq_true, decide_eq_true_eq, Option.isNone_iff_eq_none] at h
    obtain ⟨⟨htakes, hready⟩, hfirst⟩ := h
    refine congrArg Host.Outcome.next ?_
    simp only [htakes, hready, hfirst, Bool.not_true, Bool.false_eq_true, if_false]
  case deferred =>
    intro s a h
    simp only [Bool.and_eq_true, decide_eq_true_eq] at h
    obtain ⟨⟨hwaits, hdone⟩, hanswer⟩ := h
    refine congrArg Host.Outcome.next ?_
    simp only [hwaits, hdone, hanswer]
  case mgmtBad =>
    intro s f h
    simp only [Bool.and_eq_true] at h
    obtain ⟨⟨hlink, hawake⟩, hbad⟩ := h
    refine congrArg Host.Outcome.next ((if_neg ?_).trans (if_pos hbad))
    rw [hlink, hawake]
    exact Bool.false_ne_true
  case mgmtPacket =>
    intro s f h
    simp only [Bool.and_eq_true, decide_eq_true_eq, and_assoc] at h
    exact congrArg Host.Outcome.next ((State.mgmtReceive_taken h.1).trans (if_pos h.2))
  case mgmtPtp =>
    intro s f h
    simp only [Bool.and_eq_true, decide_eq_true_eq] at h
    obtain ⟨⟨htaken, htype⟩, hptp⟩ := h
    exact congrArg Host.Outcome.next ((State.mgmtReceive_taken htaken).trans ((if_neg fun hcp => htype hcp.1).trans (if_pos hptp)))
  case craftTaken =>
    intro s a h
    simp only [Bool.and_eq_true, decide_eq_true_eq, Option.isNone_iff_eq_none] at h
    obtain ⟨⟨⟨⟨⟨hen, hmin⟩, hmax⟩, hlen⟩, hheld⟩, hcrc⟩ := h
    exact congrArg Host.Outcome.next (State.craftWrite_taken a.2.2 hen hmin hmax hlen hheld hcrc)
  case craftShort =>
    intro s a h
    simp only [Bool.and_eq_true, decide_eq_true_eq] at h
    exact congrArg Host.Outcome.next ((ite_not_of_true h.1).trans (if_pos (.inr (.inl h.2))))
  case craftRead =>
    intro s n h
    simp only [Bool.and_eq_true, decide_eq_true_eq] at h
    obtain ⟨⟨hen, hreply⟩, hall⟩ := h
    refine congrArg Host.Outcome.next ((ite_not_of_true hen).trans (if_pos ?_))
    rw [hreply, decide_eq_true hall]
    rfl
  case craftPart =>
    intro s n h
    simp only [Bool.and_eq_true, decide_eq_true_eq] at h
    refine congrArg Host.Outcome.next ((ite_not_of_true h.1).trans (if_neg ?_))
    rw [decide_eq_false (Nat.not_le.2 h.2), Bool.and_false]
    exact Bool.false_ne_true
  case opticalTaken =>
    intro s a h
    simp only [Bool.and_eq_true, Bool.not_eq_true', decide_eq_true_eq, Option.isNone_iff_eq_none] at h
    obtain ⟨⟨⟨⟨⟨⟨hlistens, hchars⟩, hnibbles⟩, heven⟩, hmin⟩, hheld⟩, hcrc⟩ := h
    exact congrArg Host.Outcome.next (State.opticalReceive_taken a.2 hlistens hchars hnibbles heven hmin hheld hcrc)
  case opticalGap =>
    intro s a h
    simp only [Bool.and_eq_true, Bool.not_eq_true'] at h
    refine congrArg Host.Outcome.next ((if_neg ?_).trans (if_pos ?_))
    · rw [h.1, h.2]; exact Bool.false_ne_true
    · rw [Bool.or_true, Bool.true_or]
  case lineFault =>
    intro s noise h
    refine congrArg Host.Outcome.next ((ite_not_of_true h).trans ?_)
    cases noise <;> rfl
  case lineQuiet => exact fun s _ h => congrArg Host.Outcome.next (if_pos (of_decide_eq_true h))
  case opticalReply =>
    intro s r h
    simp only [Bool.and_eq_true, decide_eq_true_eq] at h
    refine congrArg Host.Outcome.next ?_
    simp only [h.1, h.2]

end Sys2Proof.Machine
end


section
/-!
PROOFS. Host ports, rings, DMA channels and the craft port complete (O29).
-/
namespace Sys2Proof.Machine

open Sys2Proof.Claims

/-- Outside boot a link that comes up starts no host boot (R566). -/
theorem State.hostPortLinkUp_booted {s : State} (portB msix : Bool) (h : s.boot.mode ≠ .booting) :
    s.hostPortLinkUp portB msix =
      if (s.hostPort portB).linkUp then s.setHostPort portB { s.hostPort portB with linkUp := true, msixEn := msix }
      else (s.setHostPort portB { s.hostPort portB with linkUp := true, msixEn := msix }).hostLink portB true := by
  have hkept : (s.setHostPort portB { s.hostPort portB with linkUp := true, msixEn := msix }).boot.mode ≠ .booting := h
  simp only [State.hostPortLinkUp, hkept, decide_false, Bool.and_false, Bool.false_and, Bool.false_eq_true, if_false]

/-- A ring without an open descriptor has no events to close. -/
theorem State.closeEvents_none {s : State} {n : Nat} (h : (s.ring n).open_ = none) : s.closeEvents n = s := by
  simp only [State.closeEvents, h]

/-! Channels -/

theorem runs_iff {s : State} {c op : Nat} {i : DmaInstr} : runs s c op i = true ↔ s.chanInstr c .running op = some i := decide_eq_true_iff

/-- An instruction is handed only to a channel in the mode asked for. -/
theorem State.chan_mode_of_chanInstr {s : State} {c op : Nat} {m : ChanMode} {i : DmaInstr} (h : s.chanInstr c m op = some i) :
    (s.chan c).mode = m := by
  refine Decidable.byContradiction fun hmode => ?_
  simp [State.chanInstr, hmode] at h

/-- A channel that is not idle has an entry of its own in the table. -/
theorem State.chan_setChan_same {s : State} {c : Nat} {x : Chan} (h : x.mode ≠ .idle) : (s.setChan c x).chan c = x := by
  have hne : x ≠ Chan.reset := fun e => h (e ▸ rfl)
  rw [State.chan, State.setChan, Tab.put, if_neg hne]
  exact Tab.look_ins_same

/-- What a wait notes of a running channel leaves its doorbell as it was. -/
theorem State.doorbell_atWait {s : State} {c : Nat} (hrung : (s.chan c).doorbell = false) (hmode : (s.chan c).mode = .running) (n : Nat) :
    (((s.atIndex c).setChan c { (s.atIndex c).chan c with waitFor := n }).chan c).doorbell = false := by
  have hat : (s.atIndex c).chan c = { s.chan c with index := (s.chan c).pc } := State.chan_setChan_same (by simp [hmode])
  rw [State.chan_setChan_same (by simp [hat, hmode]), hat]
  exact hrung

/-- A wait for a doorbell that has not rung waits (R447). -/
theorem waitMet_doorbell {s : State} {c : Nat} {i : DmaInstr} (hmode : i.mode = 3) (hrung : (s.chan c).doorbell = false) :
    s.waitMet c i false = false := by
  simp only [State.waitMet, hmode, hrung]

/-- Settles O29: each row's conditions choose the branch that the row states. -/
theorem hostAndDmaCommandsComplete : Obligations.HostAndDmaCommandsComplete := by
  simp -zeta only [Obligations.HostAndDmaCommandsComplete, hostRows, List.forall_mem_cons]
  refine ⟨?reset, ?linkStays, ?linkUp, ?lockBroken, ?errCount, ?poll, ?descriptor, ?command, ?idle, ?receive, ?capture, ?playback, ?drops, ?move,
    ?reshuffle, ?loop, ?wait, ?waitEnd, ?signal, List.forall_mem_nil _⟩
  case reset =>
    intro s a _
    refine congrArg Host.Outcome.next ?_
    simp only [State.hostPortReset]
  case errCount =>
    intro s m h
    refine congrArg Host.Outcome.next ?_
    simp only [State.readReg_readable h]
    rfl
  case drops =>
    intro s a h
    refine congrArg Host.Outcome.next ?_
    simp only [State.readReg_readable h]
    rfl
  case linkStays =>
    intro s a h
    simp only [Bool.and_eq_true, decide_eq_true_eq] at h
    exact congrArg Host.Outcome.next ((State.hostPortLinkUp_booted a.1 a.2 h.2).trans (if_pos h.1))
  case linkUp =>
    intro s a h
    simp only [Bool.and_eq_true, Bool.not_eq_true', decide_eq_true_eq] at h
    refine congrArg Host.Outcome.next ((State.hostPortLinkUp_booted a.1 a.2 h.2).trans (if_neg ?_))
    rw [h.1]
    exact Bool.false_ne_true
  case lockBroken =>
    intro s a h
    refine congrArg Host.Outcome.next (?_ : s.breakLock a.1.val = _)
    simp only [State.breakLock, of_decide_eq_true h]
  case poll => exact fun s n h => congrArg Host.Outcome.next (if_pos h)
  case descriptor => exact fun s a h => congrArg Host.Outcome.next (if_neg (of_decide_eq_true h))
  case command =>
    intro s a h
    simp only [Bool.and_eq_true, decide_eq_true_eq] at h
    exact congrArg Host.Outcome.next ((if_pos h.1).trans (if_pos h.2))
  case idle =>
    intro s n h
    simp only [Bool.and_eq_true, Bool.not_eq_true', Option.isNone_iff_eq_none] at h
    obtain ⟨⟨hen, hstalled⟩, hopen⟩ := h
    refine congrArg Host.Outcome.next ?_
    simp only [hen, State.closeEvents_none hopen, hstalled, Bool.false_eq_true, if_false]
  case receive =>
    intro s a h
    simp only [Bool.and_eq_true, decide_eq_true_eq] at h
    obtain ⟨⟨⟨⟨⟨⟨hen, hkind⟩, hqueue⟩, hon⟩, hstore⟩, hroom⟩, _⟩ := h
    refine congrArg Host.Outcome.next ?_
    simp only [hen, hkind, hqueue, hon, hstore, Nat.not_lt.2 hroom, ne_eq, not_true_eq_false, decide_false, Bool.not_true, Bool.or_self,
      Bool.false_eq_true, if_false]
  case capture =>
    intro s a h
    simp only [Bool.and_eq_true, Bool.not_eq_true', decide_eq_true_eq, Option.isNone_iff_eq_none] at h
    obtain ⟨⟨⟨⟨⟨⟨⟨hrec, hen⟩, hkind⟩, hblk⟩, hfn⟩, hown⟩, hfault⟩, hsize⟩ := h
    refine congrArg Host.Outcome.next ?_
    simp only [hrec, hen, hkind, hblk, hfn, hown, hfault, Nat.not_lt.2 hsize, ne_eq, not_true_eq_false, decide_false, Bool.not_true, Bool.or_self,
      Bool.false_eq_true, if_false]
  case playback =>
    intro s a h
    simp only [Bool.and_eq_true, Bool.not_eq_true', decide_eq_true_eq, Option.isNone_iff_eq_none] at h
    obtain ⟨⟨⟨⟨⟨⟨⟨hrec, hen⟩, hkind⟩, hblk⟩, hfn⟩, hown⟩, hfault⟩, hsize⟩ := h
    refine congrArg Host.Outcome.next ?_
    simp only [hrec, hen, hkind, hblk, hfn, hown, hfault, Nat.not_lt.2 hsize, ne_eq, not_true_eq_false, decide_false, Bool.not_true, Bool.or_self,
      Bool.false_eq_true, if_false]
  case move =>
    intro s a h
    simp only [Bool.and_eq_true, Bool.not_eq_true', decide_eq_true_eq, runs_iff] at h
    obtain ⟨⟨hruns, hlock⟩, hmode⟩ := h
    refine congrArg Host.Outcome.next ?_
    simp only [hruns, hlock, hmode, Bool.false_eq_true, if_false, if_true]
  case reshuffle =>
    intro s a h
    simp only [Bool.and_eq_true, Bool.not_eq_true', decide_eq_true_eq, runs_iff] at h
    obtain ⟨⟨hruns, hlock⟩, hmode⟩ := h
    refine congrArg Host.Outcome.next ?_
    simp only [hruns, hlock, hmode, Bool.false_eq_true, if_false]
  case loop =>
    intro s a h
    refine congrArg Host.Outcome.next ?_
    simp only [runs_iff.1 h]
  case wait =>
    intro s a h
    simp only [Bool.and_eq_true, Bool.not_eq_true', decide_eq_true_eq, runs_iff] at h
    obtain ⟨⟨hruns, hmode⟩, hrung⟩ := h
    refine congrArg Host.Outcome.next ?_
    simp only [hruns, hmode, waitMet_doorbell hmode (State.doorbell_atWait hrung (State.chan_mode_of_chanInstr hruns) _), Nat.reduceEqDiff,
      false_and, Bool.false_eq_true, if_false]
  case waitEnd =>
    intro s a h
    simp only [Bool.and_eq_true, decide_eq_true_eq] at h
    refine congrArg Host.Outcome.next ?_
    simp only [h.1, h.2, if_true]
  case signal =>
    intro s a h
    simp only [Bool.and_eq_true, Bool.not_eq_true', runs_iff] at h
    refine congrArg Host.Outcome.next ?_
    simp only [h.1, h.2, Bool.not_false, if_true]

end Sys2Proof.Machine
end


section
/-!
PROOFS. Events and counters (O30): a hub read that a filter counts answers the counter of before, where the row reads the counter it has counted.
-/
namespace Sys2Proof.Machine

open Sys2Proof.Claims

/-- The high half that a 4-octet hub read keeps for the next read (R475). -/
def hubLatchAfter (portB : Bool) (o : Nat) : Host.Outcome State Fault Refusal → Option (Option Half)
  | .next t => some (t.ev.latches.look none (latchIndex portB false o))
  | _ => none

/-- Filter 0 counts every read of the counter hub over host port A, and counter 864, about to carry into its high half, counts filter 0. -/
def countedHub : State :=
  { Tests.sRun with
    cfg.ev.filters := [(0, mkWord [(63, 63, 1), (58, 58, 1), (48, 48, 1), (44, 44, 1)], mkWord [(63, 32, 0xFFFF)])]
    cfg.ev.counters := [(864, mkWord [(63, 48, 0x0911), (47, 47, 1)], 0)]
    ev.counters := [(864, { Counter.reset with live := 0xFFFF_FFFF })] }

/-- The read latches the high half of before the count; the row latches the one after it. -/
theorem counterHubRead_countedHub : eventRows[9].can countedHub (false, 0x1B00) = true ∧
    hubLatchAfter false 0x1B00 (exec (eventRows[9].instr (false, 0x1B00)) countedHub) = some (some 0) ∧
    hubLatchAfter false 0x1B00 (.next (eventRows[9].eff countedHub (false, 0x1B00))) = some (some 1) := by
  decide +kernel

/-- Refutes O30: a counter that counts the hub's own reads is read before it counts, and the row reads it after. -/
theorem not_eventAndCounterCommandsComplete : ¬ Obligations.EventAndCounterCommandsComplete := by
  intro h
  obtain ⟨hcan, hread, hrow⟩ := counterHubRead_countedHub
  have hsame := congrArg (hubLatchAfter false 0x1B00) (h eventRows[9] (List.getElem_mem _) countedHub (false, 0x1B00) hcan)
  rw [hread, hrow] at hsame
  exact absurd hsame (by decide)

end Sys2Proof.Machine
end


section
/-!
PROOFS. Memories and the journal complete (O31).
-/
namespace Sys2Proof.Machine

open Sys2Proof.Claims

/-- Torn flash leaves the power state as it was. -/
@[simp] theorem State.tearFlash_pwr (s : State) : s.tearFlash.pwr = s.pwr := by
  rw [State.tearFlash]
  split <;> rfl

/-- Settles O31: each row's conditions choose the branch that the row states. -/
theorem memoryCommandsComplete : Obligations.MemoryCommandsComplete := by
  simp -zeta only [Obligations.MemoryCommandsComplete, memoryRows, List.forall_mem_cons]
  refine ⟨fun _ _ h => congrArg Host.Outcome.next (if_pos h), ?band, fun _ _ _ => rfl, fun _ _ h => congrArg Host.Outcome.next (if_pos h),
    fun _ _ h => congrArg Host.Outcome.next (if_pos h), ?powerFail, ?powerBack, ?eccStat, fun _ _ _ => rfl, List.forall_mem_nil _⟩
  case band =>
    intro s t h
    refine congrArg Host.Outcome.next ((if_pos (of_decide_eq_true h)).trans ?_)
    cases t <;> rfl
  case powerFail =>
    intro s _ h
    simp only [Bool.and_eq_true, Bool.not_eq_true'] at h
    have hawake : State.awake { s.tearFlash with pwr.pfwLow := true } = true := by
      simpa only [State.awake, State.tearFlash_pwr] using h.2
    refine congrArg Host.Outcome.next ?_
    simp only [h.1, hawake, Bool.false_eq_true, if_false, if_true]
  case powerBack =>
    intro s _ h
    simp only [Bool.and_eq_true] at h
    have hawake : State.awake { s with pwr.pfwLow := false, cmd.held := false } = true := h.2
    refine congrArg Host.Outcome.next ?_
    simp only [h.1, hawake, Bool.not_true, Bool.false_eq_true, if_false, if_true]
  case eccStat =>
    intro s m h
    refine congrArg Host.Outcome.next ?_
    simp only [State.readReg_readable h]
    rfl

end Sys2Proof.Machine
end


section
/-!
PROOFS. Status blocks, mirror messages, acknowledgements and the token complete (O32).
-/
namespace Sys2Proof.Machine

open Sys2Proof.Claims

theorem inStream_iff {s : State} {words : List Word} :
    inStream s words = true ↔ s.isStandby = true ∧ s.pair.mateUp = true ∧ words.length = fld (nth 0 words 0) 55 40 + 2 ∧
      crc32 (words.take (fld (nth 0 words 0) 55 40 + 1)) = fld (nth 0 words (fld (nth 0 words 0) 55 40 + 1)) 31 0 ∧
      mateType (fld (nth 0 words 0) 63 56) = true ∧ fld (nth 0 words 0) 63 56 ≠ 0x0A ∧
      fld (nth 0 words 0) 39 0 = (s.pair.mirrorRecv + 1) % 2 ^ 40 := by
  simp only [inStream, Bool.and_eq_true, decide_eq_true_eq, and_assoc]

/-- The next message of the stream is applied and taken (R502). -/
theorem State.mateMessage_inStream {s : State} {words : List Word} (image : Option MateImage) (h : inStream s words = true) :
    s.mateMessage words image =
      (s.mateApply (fld (nth 0 words 0) 63 56) ((words.drop 1).take (fld (nth 0 words 0) 55 40))).mateTaken (fld (nth 0 words 0) 63 56)
        (fld (nth 0 words 0) 39 0) := by
  obtain ⟨hstandby, hmate, hlen, hcrc, htype, himage, hseq⟩ := inStream_iff.1 h
  simp only [State.mateMessage, hstandby, hmate, decide_eq_true hlen, hcrc, htype, himage, hseq, ne_eq, not_true_eq_false, decide_true,
    Bool.not_true, Bool.and_self, Bool.or_self, Bool.false_eq_true, if_false]

/-- Settles O32: each row's conditions choose the branch that the row states. -/
theorem pairCommandsComplete : Obligations.PairCommandsComplete := by
  simp -zeta only [Obligations.PairCommandsComplete, pairRows, List.forall_mem_cons]
  refine ⟨?claimKnown, ?claim, ?readback, ?release, ?releaseNone, ?block, ?badBlock, ?message, ?timeout, ?step, ?wtr, ?tickBefore, ?tickGive,
    ?tickTake, ?bootWait, ?actClaim, List.forall_mem_nil _⟩
  case claimKnown =>
    intro s _ h
    simp only [Bool.and_eq_true, decide_eq_true_eq] at h
    refine congrArg Host.Outcome.next ?_
    simp only [h.1, h.2, Bool.not_true, Bool.false_eq_true, false_and, decide_false, State.raiseIf, if_false]
  case claim =>
    intro s _ h
    simp only [Bool.and_eq_true, decide_eq_true_eq] at h
    refine congrArg Host.Outcome.next ?_
    simp only [h.1, h.2, Bool.not_true, Bool.false_eq_true, true_and, Bool.decide_or, Bool.decide_eq_true, if_false, if_true]
  case readback =>
    intro s _ h
    have hread : s.pair.readback = true := h
    refine congrArg Host.Outcome.next ?_
    simp only [hread, Bool.not_true, Bool.not_false, Bool.false_eq_true, if_false, if_true]
  case release => exact fun s _ h => congrArg Host.Outcome.next (if_pos h)
  case releaseNone =>
    intro s _ h
    simp only [Bool.not_eq_true'] at h
    refine congrArg Host.Outcome.next (?_ : s.fatal = _)
    simp only [State.fatal, h, Bool.false_eq_true, if_false]
  case block =>
    intro s w h
    simp only [Bool.and_eq_true, decide_eq_true_eq, and_assoc] at h
    exact congrArg Host.Outcome.next ((ite_not_of_true h.1).trans (if_pos h.2))
  case badBlock =>
    intro s w h
    simp only [Bool.and_eq_true, decide_eq_true_eq] at h
    obtain ⟨⟨hlink, hlen⟩, hfew⟩ := h
    have hcount : Nat.min 8 (s.pair.badBlocks + 1) = s.pair.badBlocks + 1 := Nat.min_eq_right (by omega)
    have hstill : s.pair.badBlocks + 1 ≠ 8 := by omega
    refine congrArg Host.Outcome.next ?_
    simp only [hlink, hlen, hcount, hstill, Bool.not_true, Bool.false_eq_true, false_and, if_false]
  case message => exact fun s a h => congrArg Host.Outcome.next (State.mateMessage_inStream a.2 h)
  case timeout =>
    intro s w h
    simp only [Bool.and_eq_true, decide_eq_true_eq] at h
    refine congrArg Host.Outcome.next ?_
    simp only [h.1, h.2, List.filter_cons, List.filter_nil, List.isEmpty_cons, List.foldl_cons, List.foldl_nil, Bool.not_true, Bool.false_eq_true,
      if_false, if_true]
  case step =>
    intro s a h
    simp only [Bool.and_eq_true, Bool.not_eq_true', decide_eq_true_eq] at h
    obtain ⟨⟨⟨⟨hmate, hpaired⟩, htoken⟩, hinside⟩, hshort⟩ := h
    refine congrArg Host.Outcome.next ?_
    simp only [hmate, hpaired, htoken, hinside, Nat.not_le.2 hshort, and_self, decide_true, false_and, Bool.not_true, Bool.or_self,
      Bool.false_eq_true, if_false, if_true]
  case wtr =>
    intro s t h
    simp only [Bool.and_eq_true, decide_eq_true_eq] at h
    refine congrArg Host.Outcome.next ?_
    simp only [h.1, h.2, if_true]
  case tickBefore =>
    intro s n h
    simp only [Bool.and_eq_true, Bool.not_eq_true', decide_eq_true_eq] at h
    obtain ⟨⟨⟨hhand, hagreed⟩, hfn⟩, hgive⟩ := h
    refine congrArg Host.Outcome.next ?_
    simp only [hhand, hagreed, hfn, hgive, Bool.not_true, Bool.false_eq_true, if_false, if_true]
  case tickGive =>
    intro s n h
    simp only [Bool.and_eq_true, decide_eq_true_eq] at h
    obtain ⟨⟨⟨hhand, hagreed⟩, hfn⟩, hgive⟩ := h
    have hnow : BitVec.ofNat 48 n ≠ BitVec.ofNat 48 n - 1 := by bv_omega
    refine congrArg Host.Outcome.next ?_
    simp only [hhand, hagreed, hfn, hgive, hnow, Bool.not_true, Bool.false_eq_true, if_false, if_true]
  case tickTake =>
    intro s n h
    simp only [Bool.and_eq_true, Bool.not_eq_true', decide_eq_true_eq] at h
    obtain ⟨⟨⟨hhand, hagreed⟩, hfn⟩, hgive⟩ := h
    have hnow : BitVec.ofNat 48 n ≠ BitVec.ofNat 48 n - 1 := by bv_omega
    refine congrArg Host.Outcome.next ?_
    simp only [hhand, hagreed, hfn, hgive, hnow, Bool.not_true, Bool.false_eq_true, if_false, if_true]
  case bootWait =>
    intro s t h
    simp only [Bool.and_eq_true, decide_eq_true_eq] at h
    refine congrArg Host.Outcome.next ?_
    simp only [h.1, h.2, if_true]
  case actClaim =>
    intro s high h
    have hslow : ¬ (s.pair.claimCause = 1 ∧ (!s.pair.home) = true ∧ (!s.pair.mateUp) = true ∧ s.paired = true) :=
      by rintro ⟨_, hfar, _⟩; rw [show s.pair.home = true from h] at hfar; exact Bool.false_ne_true hfar
    refine congrArg Host.Outcome.next ?_
    simp only [hslow, and_false, if_false]

end Sys2Proof.Machine
end


section
/-!
PROOFS. The Gill state, wakes, voltages and power failure complete (O33).
-/
namespace Sys2Proof.Machine

open Sys2Proof.Claims

theorem wakes_iff {s : State} {n : Nat} : wakes s n = true ↔ s.pwr.mode = .waking n ∧ s.pwr.pfwLow = false := by
  simp only [wakes, Bool.and_eq_true, Bool.not_eq_true', decide_eq_true_eq]

/-- Settles O33: each row's conditions choose the branch that the row states. -/
theorem powerCommandsComplete : Obligations.PowerCommandsComplete := by
  simp -zeta only [Obligations.PowerCommandsComplete, powerRows, List.forall_mem_cons]
  refine ⟨?entry, ?entryLate, ?wakeFirst, ?wakeArm, ?step1, ?step2, ?step3, ?step4, ?step5, ?stepLate, ?retry, ?timebase, ?calibration,
    fun _ _ h => congrArg Host.Outcome.next (if_pos h), ?avsLate, ?avsLost, ?adjust, ?nackAgain, ?nack, ?vcore, ?latchOff,
    fun _ _ h => congrArg Host.Outcome.next (if_pos h), fun _ _ h => congrArg Host.Outcome.next (if_pos h), ?oscinAsleep, ?oscinBack,
    List.forall_mem_nil _⟩
  case entry =>
    intro s _ h
    simp only [Bool.and_eq_true, decide_eq_true_eq] at h
    exact congrArg Host.Outcome.next (if_pos h)
  case entryLate =>
    intro s _ h
    simp only [Bool.and_eq_true, decide_eq_true_eq] at h
    exact congrArg Host.Outcome.next ((if_pos h.1).trans (if_pos h.2))
  case wakeFirst =>
    intro s a h
    simp only [Bool.and_eq_true, Bool.not_eq_true', decide_eq_true_eq] at h
    obtain ⟨⟨⟨hon, hgill⟩, harmed⟩, hpending⟩ := h
    refine congrArg Host.Outcome.next ?_
    simp only [hon, hgill, harmed, hpending, Bool.not_true, Bool.false_eq_true, if_false]
  case wakeArm =>
    intro s a h
    simp only [Bool.and_eq_true, decide_eq_true_eq] at h
    refine congrArg Host.Outcome.next ?_
    simp only [h.1, h.2, Bool.not_true, Bool.not_false, Bool.false_eq_true, if_false, if_true]
  case step1 =>
    intro s a h
    simp only [Bool.and_eq_true, wakes_iff] at h
    obtain ⟨⟨hstep, hpower⟩, hvosc⟩ := h
    refine congrArg Host.Outcome.next ?_
    simp only [hstep, hpower, Bool.false_and, Bool.false_eq_true, if_false, if_true]
    exact if_pos hvosc
  case step2 =>
    intro s a h
    obtain ⟨hstep, hpower⟩ := wakes_iff.1 h
    refine congrArg Host.Outcome.next ?_
    simp only [hstep, hpower, Bool.false_and, Bool.false_eq_true, Nat.reduceEqDiff, if_false, if_true]
  case step3 =>
    intro s a h
    obtain ⟨hstep, hpower⟩ := wakes_iff.1 h
    refine congrArg Host.Outcome.next ?_
    simp only [hstep, hpower, Bool.false_and, Bool.false_eq_true, Nat.reduceEqDiff, if_false, if_true]
  case step4 =>
    intro s a h
    obtain ⟨hstep, hpower⟩ := wakes_iff.1 h
    refine congrArg Host.Outcome.next ?_
    simp only [hstep, hpower, Bool.false_and, Bool.false_eq_true, Nat.reduceEqDiff, if_false, if_true]
  case step5 =>
    intro s a h
    obtain ⟨hstep, hpower⟩ := wakes_iff.1 h
    refine congrArg Host.Outcome.next ?_
    simp only [hstep, hpower, Bool.false_and, Bool.false_eq_true, Nat.reduceEqDiff, if_false]
  case stepLate =>
    intro s a h
    simp only [Bool.and_eq_true, decide_eq_true_eq] at h
    obtain ⟨⟨hstep, hcode⟩, hmain⟩ := h
    refine congrArg Host.Outcome.next ?_
    simp only [hstep, hcode, hmain, Bool.not_true, Bool.false_eq_true, if_false]
  case retry =>
    intro s _ h
    simp only [Bool.and_eq_true, Bool.not_eq_true'] at h
    obtain ⟨⟨⟨hgill, hpending⟩, hpower⟩, hvosc⟩ := h
    refine congrArg Host.Outcome.next ((if_pos ⟨of_decide_eq_true hgill, hpending, Bool.not_eq_true' _ ▸ hpower⟩).trans (if_neg ?_))
    rw [hvosc]
    exact Bool.false_ne_true
  case timebase =>
    intro s n h
    simp only [Bool.and_eq_true, Bool.not_eq_true', decide_eq_true_eq] at h
    refine congrArg Host.Outcome.next ?_
    simp only [h.1, h.2, decide_false, Bool.or_self, Bool.false_eq_true, if_false]
  case calibration =>
    intro s a h
    simp only [Bool.and_eq_true, decide_eq_true_eq] at h
    obtain ⟨⟨hmode, hosc⟩, hrc⟩ := h
    refine congrArg Host.Outcome.next ((if_pos ⟨hmode, hosc⟩).trans ?_)
    simp only [Option.getD_some, hrc, if_false]
  case avsLate =>
    intro s _ h
    simp only [Bool.and_eq_true, decide_eq_true_eq] at h
    exact congrArg Host.Outcome.next ((ite_not_of_true h.1).trans (if_neg fun hthird => absurd hthird (Nat.not_le.2 (Nat.succ_lt_succ h.2))))
  case avsLost =>
    intro s _ h
    simp only [Bool.and_eq_true, decide_eq_true_eq] at h
    exact congrArg Host.Outcome.next ((ite_not_of_true h.1).trans (if_pos (Nat.succ_le_succ h.2)))
  case adjust =>
    intro s up h
    simp only [Bool.and_eq_true, decide_eq_true_eq, and_assoc] at h
    exact congrArg Host.Outcome.next (if_pos h)
  case nackAgain => exact fun s _ h => congrArg Host.Outcome.next ((if_pos rfl).trans (if_pos h))
  case nack =>
    intro s _ h
    refine congrArg Host.Outcome.next ((if_neg Bool.false_ne_true).trans (if_neg fun hthird => ?_))
    exact absurd hthird (Nat.not_le.2 (Nat.succ_lt_succ (of_decide_eq_true h)))
  case vcore =>
    intro s mv h
    simp only [Bool.and_eq_true, Bool.not_eq_true', decide_eq_true_eq] at h
    obtain ⟨⟨hrange, hawake⟩, hfault⟩ := h
    refine congrArg Host.Outcome.next ((if_pos ⟨hrange, hawake⟩).trans (if_neg ?_))
    exact Bool.eq_false_iff.1 hfault
  case latchOff => exact fun s _ h => congrArg Host.Outcome.next (ite_not_of_true h)
  case oscinAsleep =>
    intro s _ h
    simp only [Bool.not_eq_true'] at h
    exact congrArg Host.Outcome.next (if_neg (Bool.eq_false_iff.1 h))
  case oscinBack =>
    intro s _ h
    simp only [Bool.and_eq_true, Bool.not_eq_true'] at h
    exact congrArg Host.Outcome.next ((if_neg (Bool.eq_false_iff.1 h.1)).trans ((ite_not_of_true h.2).trans (if_neg Bool.false_ne_true)))

end Sys2Proof.Machine
end


section
/-!
PROOFS. Resets, boot, the watchdog, the recovery port and tamper inputs complete (O34).
-/
namespace Sys2Proof.Machine

open Sys2Proof.Claims

/-! The recovery port -/

/-- An accepted operation of the recovery port runs in the disarmed state (R590). -/
theorem State.recOp_accepted {s : State} {op : Nat} {argOk : Bool} {armed : Option Nat} (h : recOk s op argOk armed = true) (f : State → State) :
    s.recOp op true argOk armed f = f (disarmed s) := by
  simp only [State.recOp, of_decide_eq_true h, disarmed]

/-- A read of free words one after the other gives the free words. -/
theorem foldl_takeFree {α : Type} (l : List α) (read : List Word) (s : State) :
    l.foldl (fun (r : List Word × State) _ => (r.1 ++ [r.2.takeFree.1], r.2.takeFree.2)) (read, s) =
      (read ++ (freeWords l.length s).1, (freeWords l.length s).2) := by
  induction l generalizing read s with
  | nil => simp [freeWords]
  | cons _ l ih => simp [ih, freeWords]

/-! What a forced standby leaves of the works -/

@[simp] theorem State.drive_works (s : State) (b : Bool) : (s.drive b).works = s.works := by
  rw [State.drive]
  split <;> rfl

@[simp] theorem State.setActOut_works (s : State) (b : Bool) : (s.setActOut b).works = s.works := by
  rw [State.setActOut]
  split <;> rfl

@[simp] theorem State.letGo_works (s : State) : s.letGo.works = s.works :=
  (State.drive_works _ false).trans (State.setActOut_works s false)

@[simp] theorem State.role_works (s : State) (m : PairMode) (cause : Nat) : (s.role m cause).works = s.works := by
  rw [State.role]
  split
  · rfl
  · exact State.raise_works ..

@[simp] theorem State.fix_works (s : State) (w : Waits) (status : Nat) (data : List Word) : (s.fix w status data).works = s.works := rfl

/-- An abandoned handover answers a waiting PAIR_SWITCH and leaves the works alone. -/
@[simp] theorem State.abandonHand_works (s : State) : s.abandonHand.works = s.works := by
  have hroled (t : State) (b : Bool) : (if b then t.role t.pair.before t.pair.lastCause else t).works = t.works := by
    split <;> simp
  have hdriven (b : Bool) : (if b then s.drive false else s).works = s.works := by
    split <;> simp
  rw [State.abandonHand]
  split
  · rfl
  · split
    · rfl
    · rw [State.fix_works, hroled]
      exact hdriven _

theorem State.awake_of_works {s t : State} (h : t.works = s.works) : t.awake = s.awake := by
  rw [State.awake, State.awake, State.pwr_of_works h]

/-- Settles O34: each row's conditions choose the branch that the row states. -/
theorem resetAndRecoveryCommandsComplete : Obligations.ResetAndRecoveryCommandsComplete := by
  simp -zeta only [Obligations.ResetAndRecoveryCommandsComplete, bootRows, List.forall_mem_cons]
  refine ⟨fun _ _ _ => rfl, fun _ _ h => congrArg Host.Outcome.next (if_pos h), ?watchdogBoot, ?watchdogLate, ?hostBoot, ?flashBoot, ?hardFail,
    ?planFail, ?goLate, ?svn, ?shortRuns, ?kick, ?status, ?arm, ?freeze, ?tail, ?standbyEnd, ?standby, ?hardReset, ?gillRead, ?mboxRead,
    ?mboxWrite, ?tamper, ?tamperEnd, fun _ _ _ => rfl, ?e1Frame, ?c37Frame, List.forall_mem_nil _⟩
  case watchdogBoot =>
    intro s _ h
    simp only [Bool.and_eq_true, decide_eq_true_eq] at h
    refine congrArg Host.Outcome.next ?_
    simp only [h.1, h.2, decide_false, Bool.false_and, Bool.not_true, Bool.false_eq_true, if_false]
  case watchdogLate =>
    intro s _ h
    simp only [Bool.and_eq_true, decide_eq_true_eq] at h
    refine congrArg Host.Outcome.next ?_
    simp only [h.1, Nat.not_lt.2 h.2, decide_false, Bool.and_false, Bool.false_and, Bool.not_true, Bool.false_eq_true, if_false]
  case hostBoot =>
    intro s a h
    refine congrArg Host.Outcome.next ?_
    simp only [of_decide_eq_true h]
  case flashBoot =>
    intro s a h
    simp only [Bool.and_eq_true, decide_eq_true_eq] at h
    refine congrArg Host.Outcome.next ?_
    simp only [h.1, h.2]
  case hardFail => exact fun s _ h => congrArg Host.Outcome.next ((if_pos (of_decide_eq_true h)).trans (if_pos rfl))
  case planFail =>
    intro s c h
    simp only [Bool.and_eq_true, decide_eq_true_eq] at h
    refine congrArg Host.Outcome.next ((if_pos h.1).trans ?_)
    simp only [h.2, State.bootStop, Bool.false_eq_true, if_false]
  case goLate =>
    intro s _ h
    simp only [Bool.and_eq_true, decide_eq_true_eq, and_assoc] at h
    exact congrArg Host.Outcome.next (if_pos h)
  case svn =>
    intro s _ h
    simp only [Bool.and_eq_true, decide_eq_true_eq, and_assoc] at h
    exact congrArg Host.Outcome.next (if_pos h)
  case shortRuns =>
    intro s _ h
    simp only [Bool.and_eq_true, decide_eq_true_eq, and_assoc] at h
    exact congrArg Host.Outcome.next (if_pos h)
  case kick =>
    intro s p h
    simp only [Bool.and_eq_true, Bool.not_eq_true', decide_eq_true_eq] at h
    obtain ⟨⟨hfrozen, hmode⟩, harmed⟩ := h
    refine congrArg Host.Outcome.next ?_
    simp only [hfrozen, hmode, harmed, decide_false, Bool.or_self, Bool.false_eq_true, if_false, if_true]
  case status => exact fun s a h => congrArg Host.Outcome.next (State.recOp_accepted h _)
  case arm => exact fun s a h => congrArg Host.Outcome.next (State.recOp_accepted h _)
  case freeze =>
    intro s a h
    simp only [Bool.and_eq_true] at h
    exact congrArg Host.Outcome.next ((State.recOp_accepted h.1 _).trans (ite_not_of_true h.2))
  case tail =>
    intro s a h
    simp only [Bool.and_eq_true, Bool.not_eq_true'] at h
    exact congrArg Host.Outcome.next ((State.recOp_accepted h.1 _).trans (if_neg (Bool.eq_false_iff.1 h.2)))
  case standbyEnd =>
    intro s a h
    simp only [Bool.and_eq_true, Bool.not_eq_true'] at h
    refine congrArg Host.Outcome.next ((State.recOp_accepted h.1 _).trans ?_)
    simp only [h.2, Bool.false_and, Bool.false_eq_true, if_false]
  case standby =>
    intro s a h
    simp only [Bool.and_eq_true] at h
    obtain ⟨⟨⟨⟨hok, hhold⟩, hawake⟩, htoken⟩, hpaired⟩ := h
    have hstill : (disarmed s).awake = true := hawake
    have hhad : (disarmed s).pair.token = true := htoken
    have hlet : (disarmed s).abandonHand.letGo.awake = true :=
      (State.awake_of_works ((State.letGo_works _).trans (State.abandonHand_works _))).trans hawake
    refine congrArg Host.Outcome.next ((State.recOp_accepted hok _).trans ?_)
    simp only [hhold, hstill, hhad, hlet, hpaired, Bool.and_self, if_true]
  case hardReset =>
    intro s a h
    simp only [Bool.and_eq_true, Bool.not_eq_true'] at h
    refine congrArg Host.Outcome.next ((State.recOp_accepted h.1 _).trans ?_)
    simp only [h.2, Bool.false_eq_true, if_false]
  case gillRead =>
    intro s a h
    refine congrArg Host.Outcome.next ((State.recOp_accepted h _).trans ?_)
    simp only [foldl_takeFree, List.length_range, List.nil_append]
  case mboxRead => exact fun s a h => congrArg Host.Outcome.next (State.recOp_accepted h _)
  case mboxWrite =>
    intro s a h
    simp only [Bool.and_eq_true] at h
    refine congrArg Host.Outcome.next ?_
    simp only [h.2, Bool.and_self, State.recOp_accepted h.1]
    rfl
  case tamper =>
    intro s n h
    simp only [Bool.and_eq_true, Bool.not_eq_true'] at h
    obtain ⟨⟨hen, hactive⟩, hkeep⟩ := h
    refine congrArg Host.Outcome.next (?_ : s.tamperChange n.val true = _)
    simp only [State.tamperChange, hen, hactive, hkeep, Bool.true_and, Bool.not_true, Bool.false_or, Bool.beq_eq_decide_eq, Bool.false_eq_true,
      decide_false, if_false, if_true]
  case tamperEnd =>
    intro s n h
    simp only [Bool.and_eq_true] at h
    refine congrArg Host.Outcome.next (?_ : s.tamperChange n.val false = _)
    simp only [State.tamperChange, h.1, h.2, Bool.false_and, Bool.not_true, Bool.not_false, Bool.false_or, Bool.beq_eq_decide_eq,
      Bool.true_eq_false, Bool.false_eq_true, decide_false, if_false]
  case e1Frame =>
    intro s a h
    simp only [Bool.and_eq_true, decide_eq_true_eq] at h
    obtain ⟨⟨he1, htrib⟩, hruns⟩ := h
    exact congrArg Host.Outcome.next ((ite_not_of_true he1).trans ((if_neg fun hc37 => htrib hc37.1).trans (if_pos hruns)))
  case c37Frame =>
    intro s a h
    simp only [Bool.and_eq_true, decide_eq_true_eq] at h
    obtain ⟨⟨he1, htrib⟩, hruns⟩ := h
    exact congrArg Host.Outcome.next ((ite_not_of_true he1).trans (if_pos ⟨htrib, hruns⟩))

end Sys2Proof.Machine
end


section
/-!
PROOFS. Register writes complete (O20): a write that lands does what its register does.
-/
namespace Sys2Proof.Machine

open Sys2Proof.Claims

/-- A row of register writes completes when its command is the bus write of its register and the register does what the row says. -/
theorem writesReg_completes {β : Type} {instr : β → RegW → Instr} {off : β → Nat} {can : State → β → RegW → Bool} {eff : State → β → RegW → State}
    (program : β → Option (List Word)) (hbus : ∀ b w s, exec (instr b w) s = .next (s.bus (regBus (off b) w (program b)) []))
    (hoff : ∀ b, off b < 0x10000 ∧ off b % 4 = 0)
    (heff : ∀ s b w, can s b w = true → s.regWrite w.master.toNat (off b) w.value (program b) [] = eff s b w) :
    (writesReg β instr off can eff).completes := by
  intro s a h
  obtain ⟨hlands, hcan⟩ := Bool.and_eq_true_iff.1 h
  have hland := (Lands.of_writeLands hlands).bus (program a.1) [] (hoff a.1).1 (hoff a.1).2
  exact (hbus a.1 a.2 s).trans (congrArg Host.Outcome.next (hland.trans (heff _ _ _ hcan)))

/-! The register files (Table 13.4) -/

/-- The interrupt controller's registers stand at 0x8000 to 0xBFFF. -/
theorem State.regWrite_evic (s : State) (m : Nat) {off : Nat} (hlow : 0x8000 ≤ off) (hhigh : off < 0xC000) (v : Half) (program : Option (List Word))
    (octets : List Byte) : s.regWrite m off v program octets = s.evicWrite off v := by
  have hring : ringAt off = none := by
    unfold ringAt; rw [if_neg (by omega), if_neg (by omega), if_neg (by omega)]
  have hchan : chanAt off = none := if_neg (by omega)
  simp only [State.regWrite, hring, hchan]
  rw [if_neg (by omega), if_neg (by omega), if_neg (by omega), if_pos ⟨hlow, hhigh⟩]

/-- The third dword of a ring's registers is RING_CFG. -/
theorem ringAt_ringCfgOff {n : Nat} (hn : n < 64) : ringAt (ringCfgOff n) = some (n, 8) := by
  unfold ringAt ringCfgOff
  split
  · rw [if_pos (by omega)]; congr 2 <;> omega
  · split
    · rw [if_neg (by omega), if_pos (by omega)]; congr 2 <;> omega
    · rw [if_neg (by omega), if_neg (by omega), if_pos (by omega)]; congr 2 <;> omega

theorem ringCfgOff_ok {n : Nat} (hn : n < 64) : ringCfgOff n < 0x10000 ∧ ringCfgOff n % 4 = 0 := by
  unfold ringCfgOff
  split
  · omega
  · split <;> omega

theorem State.regWrite_ringCfg (s : State) (m : Nat) {n : Nat} (hn : n < 64) (v : Half) (program : Option (List Word)) (octets : List Byte) :
    s.regWrite m (ringCfgOff n) v program octets = s.writeRingCfg m n (ringCfgOff n) v := by
  simp only [State.regWrite, ringAt_ringCfgOff hn]
  rfl

/-- A channel below 4 is no host's to write, and another is that of its host port only. -/
theorem mayWriteChan_host {s : State} {c : Nat} {w : RegW} (hmay : mayWriteChan s c w = true) (hhost : w.master.toNat = 4 ∨ w.master.toNat = 5) :
    4 ≤ c ∧ (s.chan c).portB = decide (w.master.toNat = 5) := by
  simp only [mayWriteChan, Bool.or_eq_true, Bool.and_eq_true, decide_eq_true_eq] at hmay
  refine hmay.resolve_left ?_
  rcases hhost with hA | hB
  · rw [hA]; decide
  · rw [hB]; decide

/-- A master that may write a channel reaches its CH_CTRL (R444). -/
theorem State.regWrite_chCtrl {s : State} {c : Nat} (hc : c < 8) {w : RegW} (hmay : mayWriteChan s c w = true) (program : Option (List Word))
    (octets : List Byte) : s.regWrite w.master.toNat (chCtrlOff c) w.value program octets = s.chanCtrl c w.value program := by
  have hring : ringAt (chCtrlOff c) = none := by
    unfold ringAt chCtrlOff; rw [if_neg (by omega), if_neg (by omega), if_neg (by omega)]
  have hchan : chanAt (chCtrlOff c) = some (c, 0x14) := by
    unfold chanAt chCtrlOff; rw [if_pos (by omega)]; congr 2 <;> omega
  simp only [State.regWrite, hring, hchan, State.chanWrite]
  by_cases hhost : w.master.toNat = 4 ∨ w.master.toNat = 5
  · obtain ⟨hhigh, hport⟩ := mayWriteChan_host hmay hhost
    simp only [hhost, hport, Nat.not_lt.2 hhigh, decide_true, decide_false, Bool.and_false, bne_self_eq_false, Bool.false_eq_true, if_false, if_true]
  · simp only [hhost, decide_false, Bool.false_and, Bool.false_eq_true, if_false, if_true]

/-! The three command bits of CH_CTRL (Table 13.12) -/

theorem flag_of_fld_low {v : Half} {k : Nat} (h : fld v 2 0 = k) {i : Nat} (hi : i < 3) : flag v i = k.testBit i := by
  have hlow : fld v 2 0 = v.toNat % 2 ^ 3 := rfl
  rw [← h, hlow, Nat.testBit_mod_two_pow, decide_eq_true hi, Bool.true_and]
  rfl

theorem State.chanCtrl_start {s : State} {c : Nat} {v : Half} (program : Option (List Word)) (hmode : (s.chan c).mode = .idle) (hv : fld v 2 0 = 1) :
    s.chanCtrl c v program = s.chanStart c program := by
  have h0 : flag v 0 = true := flag_of_fld_low hv (by decide)
  have h2 : flag v 2 = false := flag_of_fld_low hv (by decide)
  simp only [State.chanCtrl, hmode, h0, h2, ne_eq, not_true_eq_false, Bool.false_eq_true, if_false, if_true]

theorem State.chanCtrl_abort {s : State} {c : Nat} {v : Half} (program : Option (List Word)) (hmode : (s.chan c).mode ≠ .idle) (hv : fld v 2 0 = 2) :
    s.chanCtrl c v program = s.chanAbort c := by
  have h1 : flag v 1 = true := flag_of_fld_low hv (by decide)
  have h2 : flag v 2 = false := flag_of_fld_low hv (by decide)
  simp only [State.chanCtrl, hmode, h1, h2, ne_eq, not_false_eq_true, Bool.false_eq_true, if_false, if_true]

theorem State.chanCtrl_doorbell {s : State} {c : Nat} {v : Half} (program : Option (List Word)) (hv : fld v 2 0 = 4) :
    s.chanCtrl c v program = s.setChan c { s.chan c with doorbell := true } := by
  have h0 : flag v 0 = false := flag_of_fld_low hv (by decide)
  have h1 : flag v 1 = false := flag_of_fld_low hv (by decide)
  have h2 : flag v 2 = true := flag_of_fld_low hv (by decide)
  simp only [State.chanCtrl, h0, h1, h2, Bool.false_eq_true, if_false, if_true, ite_self]

/-- CH_CTRL of each channel is a register below 64 KiB. -/
theorem chCtrlOff_ok (c : Fin 8) : chCtrlOff c.val < 0x10000 ∧ chCtrlOff c.val % 4 = 0 := by
  unfold chCtrlOff
  omega

/-- Settles O20: each row's register does what the row states. -/
theorem registerWritesComplete : Obligations.RegisterWritesComplete := by
  simp -zeta only [Obligations.RegisterWritesComplete, regRows, List.forall_mem_cons]
  refine ⟨?stepArm, ?slewEn, ?snapReq, ?eccErrClear, ?matrixCtrl, ?matrixErrClear, ?doorbell, ?evicSrc, ?eoi, ?soft, ?ringEnable, ?ringDisable,
    ?chStart, ?chAbort, ?chDoorbell, ?bootGo, ?bootLen, List.forall_mem_nil _⟩
  case stepArm => exact writesReg_completes (fun _ => none) (fun _ _ _ => rfl) (fun _ => by decide) fun _ _ _ _ => rfl
  case slewEn => exact writesReg_completes (fun _ => none) (fun _ _ _ => rfl) (fun _ => by decide) fun _ _ _ _ => rfl
  case snapReq => exact writesReg_completes (fun _ => none) (fun _ _ _ => rfl) (fun _ => by decide) fun _ _ _ h => if_pos h
  case eccErrClear => exact writesReg_completes (fun _ => none) (fun _ _ _ => rfl) (fun _ => by decide) fun _ _ _ h => if_pos h
  case matrixCtrl =>
    exact writesReg_completes (fun _ => none) (fun _ _ _ => rfl) (fun _ => by decide) fun _ _ w h =>
      State.writeMatrixCtrl_first w.master.toNat w.value (Bool.not_eq_true' _ ▸ h)
  case matrixErrClear => exact writesReg_completes (fun _ => none) (fun _ _ _ => rfl) (fun _ => by decide) fun _ _ _ h => if_pos h
  case doorbell =>
    exact writesReg_completes (fun _ => none) (fun _ _ _ => rfl) (fun r => by omega) fun s r w _ =>
      s.regWrite_doorbell w.master.toNat r.isLt w.value none []
  case evicSrc =>
    exact writesReg_completes (fun _ => none) (fun _ _ _ => rfl) (fun n => by omega) fun s n w _ =>
      s.regWrite_evic _ (by omega) (by omega) _ _ _
  case eoi =>
    exact writesReg_completes (fun _ => none) (fun _ _ _ => rfl) (fun t => by omega) fun s t w _ =>
      s.regWrite_evic _ (by omega) (by omega) _ _ _
  case soft =>
    exact writesReg_completes (fun _ => none) (fun _ _ _ => rfl) (fun _ => by decide) fun s _ w _ =>
      s.regWrite_evic _ (by decide) (by decide) _ _ _
  case ringEnable =>
    exact writesReg_completes (fun _ => none) (fun _ _ _ => rfl) (fun r => ringCfgOff_ok r.isLt) fun s r w _ =>
      s.regWrite_ringCfg _ r.isLt _ _ _
  case ringDisable =>
    exact writesReg_completes (fun _ => none) (fun _ _ _ => rfl) (fun r => ringCfgOff_ok r.isLt) fun s r w _ =>
      s.regWrite_ringCfg _ r.isLt _ _ _
  case chStart =>
    refine writesReg_completes (fun a => a.2) (fun _ _ _ => rfl) (fun a => chCtrlOff_ok a.1) fun s a w h => ?_
    simp only [Bool.and_eq_true, decide_eq_true_eq] at h
    exact (State.regWrite_chCtrl a.1.isLt h.2 _ _).trans (State.chanCtrl_start _ h.1.1 h.1.2)
  case chAbort =>
    refine writesReg_completes (fun _ => none) (fun _ _ _ => rfl) chCtrlOff_ok fun s c w h => ?_
    simp only [Bool.and_eq_true, decide_eq_true_eq] at h
    exact (State.regWrite_chCtrl c.isLt h.2 _ _).trans (State.chanCtrl_abort _ h.1.1 h.1.2)
  case chDoorbell =>
    refine writesReg_completes (fun _ => none) (fun _ _ _ => rfl) chCtrlOff_ok fun s c w h => ?_
    simp only [Bool.and_eq_true, decide_eq_true_eq] at h
    exact (State.regWrite_chCtrl c.isLt h.2 _ _).trans (State.chanCtrl_doorbell _ h.1)
  case bootGo =>
    intro s a h
    obtain ⟨hlands, hgo⟩ := Bool.and_eq_true_iff.1 h
    exact congrArg Host.Outcome.next (((Lands.of_writeLands hlands).bus none a.2 (by decide) (by decide)).trans (if_pos hgo))
  case bootLen => exact fun s w h => congrArg Host.Outcome.next ((Lands.of_writeLands h).bus none _ (by decide) (by decide))

end Sys2Proof.Machine
end


section
/-!
PROOFS. Every step is safe (O60): what the operations keep of the queue and of the memories' octets.
-/
namespace Sys2Proof.Machine

open Sys2Proof.Claims

/-- What the invariant of a step speaks of: the waiting commands and the octets of the memories. -/
def State.kept (s : State) : List Instr × List Host.Cell := (s.pending, s.mem.octets)

/-- What an answer of an opcode's own rules keeps: that of the state it carries. -/
def Answer.kept : Answer → List Instr × List Host.Cell
  | .ok t _ => t.kept
  | .pend t _ => t.kept
  | .no _ _ t _ => t.kept
  | .later t _ => t.kept

@[simp] theorem State.kept_mk (pending : List Instr) (outs : List Out) (freeIdx now : Nat) (ident : Identity) (tick : TickState) (line : LineState)
    (sdh : SdhState) (fab : FabState) (cmd : CmdState) (host : HostState) (ev : EvState) (mem : MemState) (fram : FramState) (bush : BushelState)
    (prot : ProtState) (align : AlignState) (pie : PieState) (tim : TimState) (pwr : PowerState) (pair : PairState) (boot : BootState) (cfg : Cfg)
    (jr : Journal) :
    (State.mk pending outs freeIdx now ident tick line sdh fab cmd host ev mem fram bush prot align pie tim pwr pair boot cfg jr).kept =
      (pending, mem.octets) := Prod.ext rfl rfl

@[simp] theorem State.kept_eta (s : State) : (s.pending, s.mem.octets) = s.kept := Prod.ext rfl rfl

@[simp] theorem State.kept_ite (c : Prop) [Decidable c] (a b : State) : (if c then a else b).kept = if c then a.kept else b.kept := apply_ite ..

@[simp] theorem Answer.kept_ok (s : State) (d : List Word) : (Answer.ok s d).kept = s.kept := Prod.ext rfl rfl
@[simp] theorem Answer.kept_pend (s : State) (d : List Word) : (Answer.pend s d).kept = s.kept := Prod.ext rfl rfl
@[simp] theorem Answer.kept_no (st d : Nat) (s : State) (data : List Word) : (Answer.no st d s data).kept = s.kept := Prod.ext rfl rfl
@[simp] theorem Answer.kept_later (s : State) (w : Waits) : (Answer.later s w).kept = s.kept := Prod.ext rfl rfl
@[simp] theorem Answer.kept_ite (c : Prop) [Decidable c] (a b : Answer) : (if c then a else b).kept = if c then a.kept else b.kept := apply_ite ..

/-- A pass over a list keeps what each of its steps keeps. -/
@[simp] theorem State.foldl_kept {α : Type} {f : State → α → State} (hf : ∀ s a, (f s a).kept = s.kept) (l : List α) (s : State) :
    (l.foldl f s).kept = s.kept := by
  induction l generalizing s with
  | nil => rfl
  | cons a l ih => exact (ih _).trans (hf s a)

theorem State.kept_of_eq {s t : State} (hqueue : t.pending = s.pending) (hoctets : t.mem.octets = s.mem.octets) : t.kept = s.kept :=
  Prod.ext hqueue hoctets

theorem State.kept_of_works {s t : State} (h : t.works = s.works) : t.kept = s.kept := (congrArg State.kept h :)

end Sys2Proof.Machine
end


section
/-!
PROOFS. What the operations keep of the queue and the octets (O60): the shared operations, commands and maps.
-/
namespace Sys2Proof.Machine

open Sys2Proof.Claims

/-! The shared operations -/

@[simp] theorem State.emit_keeps (s : State) (o : Out) : (s.emit o).kept = s.kept := State.kept_of_eq rfl rfl
@[simp] theorem State.takeFree_keeps (s : State) : s.takeFree.2.kept = s.kept := State.kept_of_eq rfl rfl
@[simp] theorem State.stage_keeps (s : State) (r : EvRec) : (s.stage r).kept = s.kept := State.kept_of_works (by simp)
@[simp] theorem State.setHostPort_keeps (s : State) (portB : Bool) (p : HostPort) : (s.setHostPort portB p).kept = s.kept := State.kept_of_eq rfl rfl
@[simp] theorem State.sendVector_keeps (s : State) (portB : Bool) (v : Nat) : (s.sendVector portB v).kept = s.kept := State.kept_of_works (by simp)
@[simp] theorem State.setTarget_keeps (s : State) (t : Nat) (x : EvicTarget) : (s.setTarget t x).kept = s.kept := State.kept_of_eq rfl rfl
@[simp] theorem State.notifyOne_keeps (s : State) (t : Nat) : (s.notifyOne t).kept = s.kept := State.kept_of_works (by simp)
@[simp] theorem State.notify_keeps (s : State) : s.notify.kept = s.kept := State.kept_of_works (by simp)
@[simp] theorem State.fire_keeps (s : State) (src : Nat) : (s.fire src).kept = s.kept := State.kept_of_works (by simp)
@[simp] theorem State.raise_keeps (s : State) (e : Event) : (s.raise e).kept = s.kept := State.kept_of_works (by simp)
@[simp] theorem State.raiseIf_keeps (s : State) (b : Bool) (e : Event) : (s.raiseIf b e).kept = s.kept := State.kept_of_works (by simp)
@[simp] theorem State.journal_keeps (s : State) (body : Nat) : (s.journal body).kept = s.kept := State.kept_of_eq rfl rfl
@[simp] theorem State.setCounter_keeps (s : State) (i : Nat) (c : Counter) : (s.setCounter i c).kept = s.kept := State.kept_of_eq rfl rfl
@[simp] theorem State.addCounter_keeps (s : State) (i n : Nat) : (s.addCounter i n).kept = s.kept := State.kept_of_works (by simp)
@[simp] theorem State.count_keeps (s : State) (sel obj n : Nat) : (s.count sel obj n).kept = s.kept := State.kept_of_works (by simp)
@[simp] theorem State.sampleCycle_keeps (s : State) : s.sampleCycle.2.kept = s.kept := State.kept_of_eq rfl rfl

/-! The handling of commands -/

@[simp] theorem refuse_keeps (status detail : Nat) (s : State) : (refuse status detail s).kept = s.kept := State.kept_of_eq rfl rfl
@[simp] theorem badParam_keeps (i : Nat) (s : State) : (badParam i s).kept = s.kept := State.kept_of_eq rfl rfl

@[simp] theorem unlessFail_keeps (s : State) (cs : List (Bool × Nat × Nat)) {k : Answer} (hk : k.kept = s.kept) :
    (unlessFail s cs k).kept = s.kept := by
  rw [unlessFail]
  split
  · rfl
  · exact hk

@[simp] theorem State.setTenantKeys_keeps (s : State) (t : Nat) (k : TenantKeys) : (s.setTenantKeys t k).kept = s.kept := State.kept_of_eq rfl rfl

@[simp] theorem State.journalKey_keeps (s : State) (t : Nat) (slot : Bool) (e : Option KeyEntry) : (s.journalKey t slot e).kept = s.kept :=
  State.kept_of_eq rfl rfl

@[simp] theorem State.reserve_keeps (s : State) (t : Nat) (slot : Bool) (key : Key) (r : BitVec 32) : (s.reserve t slot key r).kept = s.kept :=
  State.kept_of_eq rfl rfl

@[simp] theorem State.setPort_keeps (s : State) (n : Nat) (p : CmdPort) : (s.setPort n p).kept = s.kept := State.kept_of_eq rfl rfl
@[simp] theorem State.silent_keeps (s : State) (n : Nat) : (s.silent n).kept = s.kept := State.kept_of_works (by simp)
@[simp] theorem State.setRing_keeps (s : State) (n : Nat) (r : Ring) : (s.setRing n r).kept = s.kept := State.kept_of_eq rfl rfl
@[simp] theorem State.unreserve_keeps (s : State) (n : Nat) : (s.unreserve n).kept = s.kept := State.kept_of_eq rfl rfl
@[simp] theorem State.releaseTo_keeps (s : State) (port : Nat) (ret : RetPath) : (s.releaseTo port ret).kept = s.kept := State.kept_of_works (by simp)
@[simp] theorem State.deliver_keeps (s : State) (r : Reply) : (s.deliver r).kept = s.kept := State.kept_of_works (by simp)
@[simp] theorem State.send_keeps (s : State) (r : Reply) : (s.send r).kept = s.kept := State.kept_of_works (by simp)
@[simp] theorem State.release_keeps (s : State) (c : Cmd) : (s.release c).kept = s.kept := by simp [State.release]

@[simp] theorem State.logAuth_keeps (s : State) (port : Fin 4) (status : Nat) (seq : BitVec 32) (tid : BitVec 12) (priv : BitVec 2) :
    (s.logAuth port status seq tid priv).kept = s.kept :=
  State.kept_of_eq rfl rfl

@[simp] theorem State.cache_keeps (s : State) (c : Cmd) (r : Reply) : (s.cache c r).kept = s.kept := State.kept_of_works (by simp)
@[simp] theorem State.mirror_keeps (s : State) (type : Nat) (body : List Word) : (s.mirror type body).kept = s.kept := State.kept_of_eq rfl rfl

@[simp] theorem State.awaitMate_keeps (s : State) (c : Cmd) (cls op status detail : Nat) (data : List Word) :
    (s.awaitMate c cls op status detail data).kept = s.kept :=
  State.kept_of_eq rfl rfl

@[simp] theorem State.countBadLength_keeps (s : State) (n : Nat) : (s.countBadLength n).kept = s.kept := State.kept_of_works (by simp)

@[simp] theorem State.respond_keeps (s : State) (c : Cmd) (cls op status detail : Nat) (data : List Word) :
    (s.respond c cls op status detail data).kept = s.kept :=
  State.kept_of_works (by simp)

@[simp] theorem State.answer_keeps (s : State) (c : Cmd) (cls op status detail : Nat) (data : List Word) :
    (s.answer c cls op status detail data).kept = s.kept :=
  State.kept_of_works (by simp)

@[simp] theorem State.finish_keeps (s : State) (c : Cmd) (o : OpSpec) (status : Nat) (data : List Word) : (s.finish c o status data).kept = s.kept :=
  State.kept_of_works (by simp)

@[simp] theorem State.settle_keeps (s : State) (c : Cmd) (o : OpSpec) {a : Answer} (ha : a.kept = s.kept) :
    (s.settle c o a).kept = s.kept := by
  cases a with
  | ok t data =>
    have ht : t.kept = s.kept := ha
    simp [State.settle, ht]
  | pend t data => exact (State.finish_keeps ..).trans ha
  | no st d t data => exact (State.answer_keeps ..).trans ha
  | later t w =>
    have ht : t.kept = s.kept := ha
    simp [State.settle, ht]

@[simp] theorem State.runOp_keeps (s : State) (c : Cmd) (o : OpSpec) (bad : List (Bool × Nat)) (own : Option (Nat × Nat)) {h : State → Answer}
    (hh : (h s).kept = s.kept) : (s.runOp c o bad own h).kept = s.kept := by
  unfold State.runOp
  repeat' split
  all_goals simp [hh]

@[simp] theorem State.fix_keeps (s : State) (w : Waits) (status : Nat) (data : List Word) : (s.fix w status data).kept = s.kept :=
  State.kept_of_eq rfl rfl

/-! Lookups that take a free value or note a table -/

@[simp] theorem State.setLane_keeps (s : State) (n : Nat) (l : Lane) : (s.setLane n l).kept = s.kept := State.kept_of_eq rfl rfl
@[simp] theorem State.setTrib_keeps (s : State) (n : Nat) (t : TribPort) : (s.setTrib n t).kept = s.kept := State.kept_of_eq rfl rfl

/-! The checks of a commit -/

@[simp] theorem State.loadLength_keeps (s : State) (n : Nat) : (s.loadLength n).2.kept = s.kept := by
  rw [State.loadLength]
  split <;> exact State.kept_of_eq rfl rfl

/-! The state of pairs, groups, queues and timing inputs -/

@[simp] theorem State.setProtection_keeps (s : State) (group : Bool) (n : Nat) (p : Prot) : (s.setProtection group n p).kept = s.kept := by
  simp [State.setProtection]

@[simp] theorem State.setAlignGroup_keeps (s : State) (pg : Nat) (g : AlignGroup) : (s.setAlignGroup pg g).kept = s.kept := State.kept_of_eq rfl rfl
@[simp] theorem State.setSymRec_keeps (s : State) (cid : Nat) (r : SymRec) : (s.setSymRec cid r).kept = s.kept := State.kept_of_eq rfl rfl
@[simp] theorem State.setQueue_keeps (s : State) (q : Nat) (x : Queue) : (s.setQueue q x).kept = s.kept := State.kept_of_eq rfl rfl
@[simp] theorem State.setPath_keeps (s : State) (e : Eid) (p : PathState) : (s.setPath e p).kept = s.kept := State.kept_of_eq rfl rfl
@[simp] theorem State.setSdhLane_keeps (s : State) (n : Nat) (l : SdhLane) : (s.setSdhLane n l).kept = s.kept := State.kept_of_eq rfl rfl

@[simp] theorem pickBlocks_keeps (n : Nat) (free : List Nat) (s : State) : (pickBlocks n free s).2.kept = s.kept := by
  induction n generalizing free s with
  | zero => rfl
  | succ n ih =>
    rw [pickBlocks]
    split
    · rfl
    · exact (ih _ _).trans (State.takeFree_keeps s)

@[simp] theorem State.takeBlocks_keeps (s : State) (n : Nat) : (s.takeBlocks n).2.kept = s.kept := by simp [State.takeBlocks]

@[simp] theorem State.resizeRing_keeps (s : State) (ring : List Nat) (n : Nat) : (s.resizeRing ring n).2.kept = s.kept := by
  rw [State.resizeRing]
  split <;> simp

@[simp] theorem State.noteFree_keeps (s : State) : s.noteFree.kept = s.kept := State.kept_of_eq rfl rfl
@[simp] theorem State.setBushel_keeps (s : State) (b : Bushel) : (s.setBushel b).kept = s.kept := State.kept_of_eq rfl rfl
@[simp] theorem State.dropBushel_keeps (s : State) (id : Nat) : (s.dropBushel id).kept = s.kept := State.kept_of_eq rfl rfl
@[simp] theorem State.settleQuotas_keeps (s : State) : s.settleQuotas.kept = s.kept := by simp [State.settleQuotas]
@[simp] theorem State.discard_keeps (s : State) (id : Nat) : (s.discard id).kept = s.kept := by simp [State.discard]

/-! Loads, the flip check, the flip and copy-forward -/

@[simp] theorem State.mapSnaps_keeps (s : State) (f : JSnap → JSnap) : (s.mapSnaps f).kept = s.kept := State.kept_of_eq rfl rfl

@[simp] theorem State.flipGroup_keeps (s : State) (old new : BCfg) (pg : Nat) : (s.flipGroup old new pg).kept = s.kept := by
  unfold State.flipGroup
  dsimp only
  repeat' split
  all_goals simp

@[simp] theorem State.flipPair_keeps (s : State) (old new : BCfg) (n : Nat) : (s.flipPair old new n).kept = s.kept := by
  unfold State.flipPair
  dsimp only
  repeat' split
  all_goals simp

@[simp] theorem State.flipSym_keeps (s : State) (old new : BCfg) (cid : Nat) : (s.flipSym old new cid).kept = s.kept := by simp [State.flipSym]
@[simp] theorem State.queueTo_keeps (s : State) (q : Nat) (x : Queue) : (s.queueTo q x).kept = s.kept := by simp [State.queueTo]
@[simp] theorem State.flipQueue_keeps (s : State) (old new : BCfg) (q : Nat) : (s.flipQueue old new q).kept = s.kept := by simp [State.flipQueue]
@[simp] theorem State.flipStruct_keeps (s : State) (old new : BCfg) : (s.flipStruct old new).kept = s.kept := State.kept_of_eq rfl rfl
@[simp] theorem State.flip_keeps (s : State) (b : Bushel) : (s.flip b).kept = s.kept := by simp [State.flip]

@[simp] theorem State.loadBegin_keeps (s : State) : s.loadBegin.kept = s.kept := by
  unfold State.loadBegin
  dsimp only
  repeat' split
  all_goals simp

@[simp] theorem State.loadDone_keeps (s : State) : s.loadDone.kept = s.kept := by
  unfold State.loadDone
  dsimp only
  repeat' split
  all_goals simp

@[simp] theorem State.flipCheckMaps_keeps (s : State) : s.flipCheckMaps.kept = s.kept := by
  rw [State.flipCheckMaps]
  split <;> exact State.kept_of_eq rfl rfl

@[simp] theorem State.copyForwardDone_keeps (s : State) : s.copyForwardDone.kept = s.kept := by simp [State.copyForwardDone]
@[simp] theorem State.schedDiscard_keeps (s : State) (b : Bushel) : (s.schedDiscard b).kept = s.kept := by simp [State.schedDiscard]
@[simp] theorem State.firstTraceable_keeps (s : State) : s.firstTraceable.kept = s.kept := by simp [State.firstTraceable]
@[simp] theorem State.abandon_keeps (s : State) (b : Bushel) (code : Nat) : (s.abandon b code).kept = s.kept := by simp [State.abandon]

/-! Changes and bushels -/

@[simp] theorem Slot.answer_keeps (x : Slot) (s : State) (data : List Word) : (x.answer s data).kept = s.kept := by
  cases x <;> rfl

@[simp] theorem State.accept_keeps (s : State) (b : Bushel) (x : Slot) (l : Nat) (fnS : BitVec 48) : (s.accept b x l fnS).kept = s.kept := by
  simp [State.accept]

@[simp] theorem State.refused_keeps (s : State) (st : Nat) : (s.refused st).kept = s.kept := by simp [State.refused]
@[simp] theorem State.append_keeps (s : State) (b : Bushel) (cs : List Change) : (s.append b cs).kept = s.kept := State.kept_of_eq rfl rfl

@[simp] theorem State.refuseCommit_keeps (s : State) (b : Bushel) (check : Bool) (f : CommitFail) : (s.refuseCommit b check f).kept = s.kept := by
  simp [State.refuseCommit]

@[simp] theorem State.commit_keeps (s : State) (b : Bushel) (check sched : Bool) (fnS : BitVec 48) : (s.commit b check sched fnS).kept = s.kept := by
  unfold State.commit
  dsimp only
  repeat' split
  all_goals simp

@[simp] theorem State.enter_keeps (s : State) (b : Bushel) : (s.enter b).kept = s.kept := State.kept_of_eq rfl rfl

@[simp] theorem State.addChange_keeps (s : State) (c : Cmd) (f : ChangeForm) : (s.addChange c f).kept = s.kept := by
  unfold State.addChange
  dsimp only
  repeat' split
  all_goals simp

@[simp] theorem State.changeOp_keeps (s : State) (c : Cmd) (cls op : Nat) : (s.changeOp c cls op).kept = s.kept := by
  rw [State.changeOp]
  split <;> simp

@[simp] theorem State.bushelOpen_keeps (s : State) (c : Cmd) : (s.bushelOpen c).kept = s.kept := by simp [State.bushelOpen]

@[simp] theorem State.bushelCommit_keeps (s : State) (c : Cmd) : (s.bushelCommit c).kept = s.kept := by
  refine State.runOp_keeps _ _ _ _ _ ?_
  repeat' split
  all_goals simp

@[simp] theorem State.bushelCancel_keeps (s : State) (c : Cmd) : (s.bushelCancel c).kept = s.kept := by
  refine State.runOp_keeps _ _ _ _ _ ?_
  dsimp only
  repeat' split
  all_goals simp

@[simp] theorem State.bushelStatus_keeps (s : State) (c : Cmd) : (s.bushelStatus c).kept = s.kept := by
  rw [State.bushelStatus]
  split <;> simp

@[simp] theorem State.bushelFetch_keeps (s : State) (c : Cmd) (f : List Byte) : (s.bushelFetch c f).kept = s.kept := by
  refine State.runOp_keeps _ _ _ _ _ ?_
  dsimp only
  repeat' split
  all_goals simp

@[simp] theorem State.shed_keeps (s : State) (c : Cmd) : (s.shed c).kept = s.kept := by
  refine State.runOp_keeps _ _ _ _ _ ?_
  dsimp only
  repeat' split
  all_goals simp

@[simp] theorem State.usageGet_keeps (s : State) (c : Cmd) : (s.usageGet c).kept = s.kept := by simp [State.usageGet]
@[simp] theorem State.bushelList_keeps (s : State) (c : Cmd) : (s.bushelList c).kept = s.kept := by simp [State.bushelList]

/-! The fabric -/

@[simp] theorem State.connGet_keeps (s : State) (c : Cmd) : (s.connGet c).kept = s.kept := by simp [State.connGet]

@[simp] theorem State.connFind_keeps (s : State) (c : Cmd) : (s.connFind c).kept = s.kept := by
  rw [State.connFind]
  split <;> simp

@[simp] theorem State.connLatency_keeps (s : State) (c : Cmd) : (s.connLatency c).kept = s.kept := by simp [State.connLatency]
@[simp] theorem State.structGet_keeps (s : State) (c : Cmd) : (s.structGet c).kept = s.kept := by simp [State.structGet]
@[simp] theorem State.tugGet_keeps (s : State) (c : Cmd) : (s.tugGet c).kept = s.kept := by simp [State.tugGet]

@[simp] theorem freeWords_keeps (n : Nat) (s : State) : (freeWords n s).2.kept = s.kept := by
  induction n generalizing s with
  | zero => rfl
  | succ n ih => exact (ih _).trans (State.takeFree_keeps s)

@[simp] theorem State.mapRead_keeps (s : State) (c : Cmd) : (s.mapRead c).kept = s.kept := by simp [State.mapRead]

@[simp] theorem State.testAnalyserLock_keeps (s : State) (inst : Nat) (lock0 : Bool) (errors0 : Nat) :
    (s.testAnalyserLock inst lock0 errors0).kept = s.kept := by
  rw [State.testAnalyserLock]
  split <;> simp

end Sys2Proof.Machine
end


section
/-!
PROOFS. What the operations keep of the queue and the octets (O60): lines, framing, protection, the Fathom and the stores.
-/
namespace Sys2Proof.Machine

open Sys2Proof.Claims

/-! Lanes -/

@[simp] theorem State.laneQueuesIdle_keeps (s : State) (n : Nat) : (s.laneQueuesIdle n).kept = s.kept := by simp [State.laneQueuesIdle]
@[simp] theorem State.linkCheck_keeps (s : State) (n : Nat) : (s.linkCheck n).kept = s.kept := by simp [State.linkCheck]
@[simp] theorem State.freezeEq_keeps (s : State) (n : Nat) : (s.freezeEq n).kept = s.kept := by simp [State.freezeEq]
@[simp] theorem State.detectors_keeps (s : State) (n : Nat) : (s.detectors n).kept = s.kept := by simp [State.detectors]
@[simp] theorem State.setLaneCfg_keeps (s : State) (n : Nat) (w : Word) : (s.setLaneCfg n w).kept = s.kept := by simp [State.setLaneCfg]
@[simp] theorem State.laneSet_keeps (s : State) (c : Cmd) : (s.laneSet c).kept = s.kept := by simp [State.laneSet]
@[simp] theorem State.laneGet_keeps (s : State) (c : Cmd) : (s.laneGet c).kept = s.kept := by simp [State.laneGet]

@[simp] theorem State.laneStatus_keeps (s : State) (c : Cmd) : (s.laneStatus c).kept = s.kept := by
  refine State.runOp_keeps _ _ _ _ _ ?_
  dsimp only
  repeat' split
  all_goals simp

@[simp] theorem State.laneLoop_keeps (s : State) (c : Cmd) : (s.laneLoop c).kept = s.kept := by simp [State.laneLoop]
@[simp] theorem State.lanePrbs_keeps (s : State) (c : Cmd) : (s.lanePrbs c).kept = s.kept := by simp [State.lanePrbs]
@[simp] theorem State.mateSet_keeps (s : State) (c : Cmd) : (s.mateSet c).kept = s.kept := by simp [State.mateSet]
@[simp] theorem State.mateStatus_keeps (s : State) (c : Cmd) : (s.mateStatus c).kept = s.kept := by simp [State.mateStatus]

/-! SDH reception -/

@[simp] theorem State.spoilMasked_keeps (s : State) : s.spoilMasked.kept = s.kept := by simp [State.spoilMasked]

@[simp] theorem State.raiseChanges_keeps (s : State) (src obj : Nat) (cs : List (Nat × Bool)) : (s.raiseChanges src obj cs).kept = s.kept := by
  simp [State.raiseChanges]

@[simp] theorem State.reportLane_keeps (s : State) (n : Nat) : (s.reportLane n).kept = s.kept := by simp [State.reportLane]
@[simp] theorem State.reportSeen_keeps (s : State) (e : Eid) : (s.reportSeen e).kept = s.kept := by simp [State.reportSeen]

@[simp] theorem State.reportPath_keeps (s : State) (e : Eid) : (s.reportPath e).kept = s.kept := by
  rw [State.reportPath]
  split <;> simp

@[simp] theorem State.ingress_keeps (s : State) (e : Eid) (drift : Int) : (s.ingress e drift).kept = s.kept := by simp [State.ingress]
@[simp] theorem State.pathBlock_keeps (s : State) (e : Eid) (viol : Nat) : (s.pathBlock e viol).kept = s.kept := by simp [State.pathBlock]

@[simp] theorem State.pathQuality_keeps (s : State) (e : Eid) (viol : Nat) (qb : Bool) : (s.pathQuality e viol qb).kept = s.kept :=
  State.kept_of_eq rfl rfl

@[simp] theorem State.hoReceive_keeps (s : State) (r : HoRx) : (s.hoReceive r).kept = s.kept := by simp [State.hoReceive]
@[simp] theorem State.noteOof_keeps (s : State) (n : Nat) (was : SdhLane) : (s.noteOof n was).kept = s.kept := by simp [State.noteOof]

@[simp] theorem State.kDelivered_keeps (s : State) (n : Nat) : (s.kDelivered n).kept = s.kept := by
  rw [State.kDelivered]
  split <;> exact State.kept_of_eq rfl rfl

@[simp] theorem State.lineReceive_keeps (s : State) (f : SdhRx) : (s.lineReceive f).kept = s.kept := by simp [State.lineReceive]
@[simp] theorem State.sdhReceive_keeps (s : State) (f : SdhRx) : (s.sdhReceive f).kept = s.kept := by simp [State.sdhReceive]
@[simp] theorem State.sdhOhSet_keeps (s : State) (c : Cmd) : (s.sdhOhSet c).kept = s.kept := by simp [State.sdhOhSet]
@[simp] theorem State.sdhOhGet_keeps (s : State) (c : Cmd) : (s.sdhOhGet c).kept = s.kept := by simp [State.sdhOhGet]
@[simp] theorem State.sdhStatus_keeps (s : State) (c : Cmd) : (s.sdhStatus c).kept = s.kept := by simp [State.sdhStatus]
@[simp] theorem State.sdhCapture_keeps (s : State) (c : Cmd) : (s.sdhCapture c).kept = s.kept := by simp [State.sdhCapture]
@[simp] theorem State.pathOhSet_keeps (s : State) (c : Cmd) : (s.pathOhSet c).kept = s.kept := by simp [State.pathOhSet]
@[simp] theorem State.pathStatus_keeps (s : State) (c : Cmd) : (s.pathStatus c).kept = s.kept := by simp [State.pathStatus]
@[simp] theorem State.pathCapture_keeps (s : State) (c : Cmd) : (s.pathCapture c).kept = s.kept := by simp [State.pathCapture]
@[simp] theorem State.captureTick_keeps (s : State) : s.captureTick.kept = s.kept := by simp [State.captureTick]
@[simp] theorem State.traceSet_keeps (s : State) (c : Cmd) : (s.traceSet c).kept = s.kept := by simp [State.traceSet]
@[simp] theorem State.traceGet_keeps (s : State) (c : Cmd) : (s.traceGet c).kept = s.kept := by simp [State.traceGet]
@[simp] theorem State.sdhThreshGet_keeps (s : State) (c : Cmd) : (s.sdhThreshGet c).kept = s.kept := by simp [State.sdhThreshGet]

/-! E1 and C37.94 framing, tributary ports -/

@[simp] theorem State.setE1_keeps (s : State) (e : Eid) (x : E1State) : (s.setE1 e x).kept = s.kept := State.kept_of_eq rfl rfl
@[simp] theorem State.setC37_keeps (s : State) (p : Nat) (x : C37State) : (s.setC37 p x).kept = s.kept := State.kept_of_eq rfl rfl
@[simp] theorem State.reportE1_keeps (s : State) (e : Eid) : (s.reportE1 e).kept = s.kept := by simp [State.reportE1]
@[simp] theorem State.crc4Event_keeps (s : State) (e : Eid) (lost : Bool) : (s.crc4Event e lost).kept = s.kept := by simp [State.crc4Event]
@[simp] theorem State.smfEnd_keeps (s : State) (e : Eid) (crc : BitVec 4) : (s.smfEnd e crc).kept = s.kept := by simp [State.smfEnd]
@[simp] theorem State.ssmStep_keeps (s : State) (e : Eid) (frame ts0 : Nat) : (s.ssmStep e frame ts0).kept = s.kept := by simp [State.ssmStep]

@[simp] theorem State.mfFrame_keeps (s : State) (e : Eid) (prev cur : BitVec 256) (ts0 : Nat) : (s.mfFrame e prev cur ts0).kept = s.kept := by
  simp [State.mfFrame]

@[simp] theorem State.e1Framed_keeps (s : State) (e : Eid) (prev cur : BitVec 256) (qb : Bool) : (s.e1Framed e prev cur qb).kept = s.kept := by
  unfold State.e1Framed
  dsimp only
  repeat' split
  all_goals simp

@[simp] theorem State.shortSlip_keeps (s : State) (p : Nat) : (s.shortSlip p).kept = s.kept := by simp [State.shortSlip]

@[simp] theorem State.alignerStep_keeps (s : State) (p : Nat) (inFrame : Bool) (phase : BitVec 8) :
    (s.alignerStep p inFrame phase).kept = s.kept := by
  unfold State.alignerStep
  dsimp only
  repeat' split
  all_goals simp

@[simp] theorem State.e1Receive_keeps (s : State) (f : E1Rx) : (s.e1Receive f).kept = s.kept := by
  unfold State.e1Receive
  dsimp only
  repeat' split
  all_goals simp

@[simp] theorem State.e1Quiet_keeps (s : State) (e : Eid) {t : State} (ht : t.kept = s.kept) : (s.e1Quiet e t).kept = s.kept := by
  simp [State.e1Quiet, ht]

@[simp] theorem State.reportC37_keeps (s : State) (p : Nat) : (s.reportC37 p).kept = s.kept := by simp [State.reportC37]
@[simp] theorem State.c37Receive_keeps (s : State) (f : C37Rx) : (s.c37Receive f).kept = s.kept := by simp [State.c37Receive]
@[simp] theorem State.clkLost_keeps (s : State) (p : Nat) : (s.clkLost p).kept = s.kept := by simp [State.clkLost]
@[simp] theorem State.tribSet_keeps (s : State) (c : Cmd) : (s.tribSet c).kept = s.kept := by simp [State.tribSet]
@[simp] theorem State.tribGet_keeps (s : State) (c : Cmd) : (s.tribGet c).kept = s.kept := by simp [State.tribGet]
@[simp] theorem State.tribStatus_keeps (s : State) (c : Cmd) : (s.tribStatus c).kept = s.kept := by simp [State.tribStatus]
@[simp] theorem State.tribLoop_keeps (s : State) (c : Cmd) : (s.tribLoop c).kept = s.kept := by simp [State.tribLoop]
@[simp] theorem State.e1Set_keeps (s : State) (c : Cmd) : (s.e1Set c).kept = s.kept := by simp [State.e1Set]
@[simp] theorem State.e1Get_keeps (s : State) (c : Cmd) : (s.e1Get c).kept = s.kept := by simp [State.e1Get]
@[simp] theorem State.e1Status_keeps (s : State) (c : Cmd) : (s.e1Status c).kept = s.kept := by simp [State.e1Status]

@[simp] theorem State.e1FramerBind_keeps (s : State) (c : Cmd) : (s.e1FramerBind c).kept = s.kept := by
  refine State.runOp_keeps _ _ _ _ _ ?_
  dsimp only
  repeat' split
  all_goals simp

@[simp] theorem State.c37Status_keeps (s : State) (c : Cmd) : (s.c37Status c).kept = s.kept := by simp [State.c37Status]

/-! Protection switching -/

@[simp] theorem State.mirrorProt_keeps (s : State) (group : Bool) (n wtr : Nat) : (s.mirrorProt group n wtr).kept = s.kept := by
  simp [State.mirrorProt]

@[simp] theorem State.putProt_keeps (s : State) (group : Bool) (n wtr : Nat) (p : Prot) : (s.putProt group n wtr p).kept = s.kept := by
  simp [State.putProt]

@[simp] theorem State.setAps_keeps (s : State) (n : Nat) (p : Prot) : (s.setAps n p).kept = s.kept := by simp [State.setAps]
@[simp] theorem State.fopFrame_keeps (s : State) (n : Nat) (w : Word) : (s.fopFrame n w).kept = s.kept := by simp [State.fopFrame]
@[simp] theorem State.evalPair_keeps (s : State) (n : Nat) (w : Word) : (s.evalPair n w).kept = s.kept := by simp [State.evalPair]
@[simp] theorem State.evalGroup_keeps (s : State) (pg : Nat) (r : PgRec) : (s.evalGroup pg r).kept = s.kept := by simp [State.evalGroup]
@[simp] theorem State.protEvaluate_keeps (s : State) : s.protEvaluate.kept = s.kept := by simp [State.protEvaluate]
@[simp] theorem State.switchPair_keeps (s : State) (n : Nat) (w : Word) (p : Prot) : (s.switchPair n w p).kept = s.kept := by simp [State.switchPair]

@[simp] theorem State.switchGroups_keeps (s : State) : s.switchGroups.kept = s.kept := by
  rw [State.switchGroups]
  split <;> simp

@[simp] theorem State.protTick_keeps (s : State) : s.protTick.kept = s.kept := by simp [State.protTick]

@[simp] theorem State.judgeK2_keeps (s : State) (lane : Nat) : (s.judgeK2 lane).kept = s.kept := by
  rw [State.judgeK2]
  split <;> simp

@[simp] theorem State.pgGet_keeps (s : State) (c : Cmd) : (s.pgGet c).kept = s.kept := by simp [State.pgGet]
@[simp] theorem State.lpGet_keeps (s : State) (c : Cmd) : (s.lpGet c).kept = s.kept := by simp [State.lpGet]

@[simp] theorem State.protCmd_keeps (s : State) (group : Bool) (n wtr code : Nat) : (s.protCmd group n wtr code).kept = s.kept := by
  simp [State.protCmd]

@[simp] theorem State.pgCmd_keeps (s : State) (c : Cmd) : (s.pgCmd c).kept = s.kept := by
  refine State.runOp_keeps _ _ _ _ _ ?_
  split <;> simp

@[simp] theorem State.lpCmd_keeps (s : State) (c : Cmd) : (s.lpCmd c).kept = s.kept := by
  refine State.runOp_keeps _ _ _ _ _ ?_
  split <;> simp

@[simp] theorem State.pgStatus_keeps (s : State) (c : Cmd) : (s.pgStatus c).kept = s.kept := by
  refine State.runOp_keeps _ _ _ _ _ ?_
  split <;> simp

@[simp] theorem State.lpStatus_keeps (s : State) (c : Cmd) : (s.lpStatus c).kept = s.kept := by
  refine State.runOp_keeps _ _ _ _ _ ?_
  split <;> simp

@[simp] theorem State.pgScan_keeps (s : State) (c : Cmd) : (s.pgScan c).kept = s.kept := by simp [State.pgScan]

/-! The Fathom -/

@[simp] theorem State.alignTo_keeps (s : State) (pg : Nat) (g : AlignGroup) (m : AlignMode) (step : optParam Bool false) :
    (s.alignTo pg g m step).kept = s.kept :=
  by simp [State.alignTo]

@[simp] theorem State.alignLock_keeps (s : State) (pg : Nat) (r : PgRec) (g : AlignGroup) (delta : Int) (method : Nat) :
    (s.alignLock pg r g delta method).kept = s.kept :=
  by simp [State.alignLock]

@[simp] theorem State.alignCompare_keeps (s : State) (pg : Nat) (g : AlignGroup) (same : Bool) : (s.alignCompare pg g same).kept = s.kept := by
  rw [State.alignCompare]
  split <;> simp

@[simp] theorem State.signatureSpan_keeps (s : State) (x : SigRx) : (s.signatureSpan x).kept = s.kept := by
  unfold State.signatureSpan
  dsimp only
  repeat' split
  all_goals simp

@[simp] theorem State.markPair_keeps (s : State) (pg : Nat) (r : PgRec) (g0 : AlignGroup) (off : Int) : (s.markPair pg r g0 off).kept = s.kept := by
  rw [State.markPair]
  split <;> simp

@[simp] theorem State.markOnLeg_keeps (s : State) (pg : Nat) (r : PgRec) (one : Bool) (stamp : Nat) (fn : BitVec 48) :
    (s.markOnLeg pg r one stamp fn).kept = s.kept := by
  unfold State.markOnLeg
  dsimp only
  repeat' split
  all_goals simp

@[simp] theorem State.symTo_keeps (s : State) (cid : Nat) (x : SymRec) : (s.symTo cid x).kept = s.kept := by simp [State.symTo]

@[simp] theorem State.symMeasure_keeps (s : State) (cid : Nat) (r : Conn) (m : MarkRx) (read : Nat) : (s.symMeasure cid r m read).kept = s.kept := by
  simp [State.symMeasure]

@[simp] theorem State.markOnSym_keeps (s : State) (cid : Nat) (r : Conn) (m : MarkRx) (read : Nat) : (s.markOnSym cid r m read).kept = s.kept := by
  simp [State.markOnSym]

@[simp] theorem State.markReceive_keeps (s : State) (m : MarkRx) : (s.markReceive m).kept = s.kept := by
  unfold State.markReceive
  extract_lets _ _ _ _ noted onLeg led
  have honLeg (t : State) (x : Nat × PgRec) (one : Bool) : (onLeg t x one).kept = t.kept := by
    dsimp only [onLeg]
    split <;> simp
  have hled : led.kept = s.kept := by
    refine (State.foldl_kept (fun t x => ?_) _ _).trans (State.kept_of_eq rfl rfl)
    rw [honLeg, honLeg]
  split; · rfl
  split; · exact State.count_keeps ..
  split; · rfl
  split; · exact hled
  refine (State.foldl_kept (fun t x => ?_) _ _).trans hled
  split
  · split
    · exact State.markOnSym_keeps ..
    · rfl
  · rfl

@[simp] theorem State.alignSf_keeps (s : State) (pg : Nat) (r : PgRec) : (s.alignSf pg r).kept = s.kept := by
  rw [State.alignSf]
  split <;> simp

@[simp] theorem State.alignRestarts_keeps (s : State) (pg : Nat) : (s.alignRestarts pg).kept = s.kept := by simp [State.alignRestarts]

@[simp] theorem State.symApply_keeps (s : State) (cid : Nat) (r : Conn) : (s.symApply cid r).kept = s.kept := by
  rw [State.symApply]
  split <;> simp

@[simp] theorem State.alignJudge_keeps (s : State) (pg : Nat) (r : PgRec) : (s.alignJudge pg r).kept = s.kept := State.kept_of_eq rfl rfl
@[simp] theorem State.alignSee_keeps (s : State) (pg : Nat) (r : PgRec) : (s.alignSee pg r).kept = s.kept := State.kept_of_eq rfl rfl
@[simp] theorem State.alignEvaluate_keeps (s : State) : s.alignEvaluate.kept = s.kept := by simp [State.alignEvaluate]
@[simp] theorem State.alignTick_keeps (s : State) : s.alignTick.kept = s.kept := by simp [State.alignTick]
@[simp] theorem State.alignAfresh_keeps (s : State) (keep : Nat → Bool) : (s.alignAfresh keep).kept = s.kept := by simp [State.alignAfresh]
@[simp] theorem State.doubleFail_keeps (s : State) (pg : Nat) : (s.doubleFail pg).kept = s.kept := by simp [State.doubleFail]

@[simp] theorem State.mergedBlock_keeps (s : State) (x : BlockIn) : (s.mergedBlock x).kept = s.kept := by
  rw [State.mergedBlock]
  split <;> simp

@[simp] theorem State.alignGet_keeps (s : State) (c : Cmd) : (s.alignGet c).kept = s.kept := by simp [State.alignGet]
@[simp] theorem State.alignStatus_keeps (s : State) (c : Cmd) : (s.alignStatus c).kept = s.kept := by simp [State.alignStatus]
@[simp] theorem State.alignRestart_keeps (s : State) (c : Cmd) : (s.alignRestart c).kept = s.kept := by simp [State.alignRestart]
@[simp] theorem State.symGet_keeps (s : State) (c : Cmd) : (s.symGet c).kept = s.kept := by simp [State.symGet]
@[simp] theorem State.symStatus_keeps (s : State) (c : Cmd) : (s.symStatus c).kept = s.kept := by simp [State.symStatus]
@[simp] theorem State.markSet_keeps (s : State) (c : Cmd) : (s.markSet c).kept = s.kept := by simp [State.markSet]
@[simp] theorem State.markCapture_keeps (s : State) (c : Cmd) : (s.markCapture c).kept = s.kept := by simp [State.markCapture]
@[simp] theorem State.vcatAlignSet_keeps (s : State) (c : Cmd) : (s.vcatAlignSet c).kept = s.kept := by simp [State.vcatAlignSet]
@[simp] theorem State.fathomMap_keeps (s : State) (c : Cmd) : (s.fathomMap c).kept = s.kept := by simp [State.fathomMap]

/-! The words of the stores -/

@[simp] theorem State.setEcc_keeps (s : State) (store a : Nat) (e : Ecc) : (s.setEcc store a e).kept = s.kept := State.kept_of_eq rfl rfl

@[simp] theorem State.setStoreCounts_keeps (s : State) (store : Nat) (c : StoreCounts) : (s.setStoreCounts store c).kept = s.kept :=
  State.kept_of_eq rfl rfl

@[simp] theorem State.eccCapture_keeps (s : State) (store kind master a : Nat) : (s.eccCapture store kind master a).kept = s.kept := by
  simp [State.eccCapture]

@[simp] theorem State.noteCe_keeps (s : State) (store master a : Nat) : (s.noteCe store master a).kept = s.kept := by simp [State.noteCe]
@[simp] theorem State.noteUe_keeps (s : State) (store master a : Nat) : (s.noteUe store master a).kept = s.kept := by simp [State.noteUe]

@[simp] theorem State.notePoisonRead_keeps (s : State) (store master a : Nat) : (s.notePoisonRead store master a).kept = s.kept := by
  simp [State.notePoisonRead]

@[simp] theorem State.notePoisonWrite_keeps (s : State) (store master a : Nat) : (s.notePoisonWrite store master a).kept = s.kept := by
  simp [State.notePoisonWrite]

@[simp] theorem State.noteMap_keeps (s : State) (store a : Nat) : (s.noteMap store a).kept = s.kept := by simp [State.noteMap]

@[simp] theorem State.eccFound_keeps (s : State) (e : EccEvent) : (s.eccFound e).kept = s.kept := by
  rw [State.eccFound]
  split <;> simp

@[simp] theorem State.memRead_keeps (s : State) (store a master : Nat) : (s.memRead store a master).2.2.kept = s.kept := by
  rw [State.memRead]
  split <;> simp

@[simp] theorem State.ceSecond_keeps (s : State) : s.ceSecond.kept = s.kept := by simp [State.ceSecond]

/-! The control matrix -/

@[simp] theorem State.matrixCapture_keeps (s : State) (master unit target kind : Nat) (write : Bool) (off : Nat) :
    (s.matrixCapture master unit target kind write off).kept = s.kept :=
  by simp [State.matrixCapture]

@[simp] theorem State.matrixError_keeps (s : State) (master unit target kind : Nat) (write : Bool) (off : Nat) :
    (s.matrixError master unit target kind write off).kept = s.kept :=
  by simp [State.matrixError]

@[simp] theorem State.lockedField_keeps (s : State) (master target off : Nat) : (s.lockedField master target off).kept = s.kept := by
  simp [State.lockedField]

@[simp] theorem State.filterAccess_keeps (s : State) (m t off : Nat) (write : Bool) (priv : Option Nat) :
    (s.filterAccess m t off write priv).kept = s.kept :=
  State.kept_of_works (by simp)

@[simp] theorem State.stall_keeps (s : State) (m unit : Nat) : (s.stall m unit).kept = s.kept := by simp [State.stall]

@[simp] theorem State.decodeError_keeps (s : State) (m unit t : Nat) (write : Bool) (off : Nat) : (s.decodeError m unit t write off).kept = s.kept :=
  by simp [State.decodeError]

@[simp] theorem State.refuseRead_keeps (s : State) (m : Nat) : (s.refuseRead m).kept = s.kept := by simp [State.refuseRead]
@[simp] theorem State.readHole_keeps (s : State) (m off : Nat) : (s.readHole m off).kept = s.kept := by simp [State.readHole]

@[simp] theorem State.readReg_keeps (s : State) (m off : Nat) (own : Bool) {read : State → Half × State}
    (hread : ∀ t, (read t).2.kept = t.kept) : (s.readReg m off own read).kept = s.kept := by
  simp [State.readReg, hread]

@[simp] theorem State.matrixJudge_keeps (s : State) (m unit t off len : Nat) (write lockBegin lockEnd : Bool) (priv : Option Nat) :
    (s.matrixJudge m unit t off len write lockBegin lockEnd priv).2.kept = s.kept := by
  unfold State.matrixJudge
  dsimp only
  repeat' split
  all_goals simp

@[simp] theorem State.busFault_keeps (s : State) (m : Nat) : (s.busFault m).kept = s.kept := by simp [State.busFault]

end Sys2Proof.Machine
end


section
/-!
PROOFS. What the operations keep of the queue and the octets (O60): packets, rings, tenants, events, memories and the pair.
-/
namespace Sys2Proof.Machine

open Sys2Proof.Claims

/-! The packet interworking engine -/

@[simp] theorem State.reportQueue_keeps (s : State) (q : Nat) : (s.reportQueue q).kept = s.kept := by simp [State.reportQueue]
@[simp] theorem State.mirrorRef_keeps (s : State) (q : Nat) : (s.mirrorRef q).kept = s.kept := by simp [State.mirrorRef]

@[simp] theorem State.setRecent_keeps (s : State) (q : Nat) (l : List (BitVec 16 × Nat)) : (s.setRecent q l).kept = s.kept := by
  simp [State.setRecent]

@[simp] theorem State.pwStore_keeps (s : State) (q : Nat) (seq : BitVec 16) (l : Bool) (payload : List Byte) :
    (s.pwStore q seq l payload).kept = s.kept :=
  by simp [State.pwStore]

@[simp] theorem State.pwReceive_keeps (s : State) (q : Nat) (o : List Byte) : (s.pwReceive q o).kept = s.kept := by simp [State.pwReceive]
@[simp] theorem State.packetDue_keeps (s : State) (q : Nat) : (s.packetDue q).kept = s.kept := by simp [State.packetDue]
@[simp] theorem State.playFrame_keeps (s : State) (q : Nat) : (s.playFrame q).kept = s.kept := by simp [State.playFrame]

@[simp] theorem State.playout_keeps (s : State) (q : Nat) : (s.playout q).kept = s.kept := by
  unfold State.playout
  dsimp only
  repeat' split
  all_goals simp

@[simp] theorem State.storeFull_keeps (s : State) (q : Nat) : (s.storeFull q).kept = s.kept := by simp [State.storeFull]

@[simp] theorem State.storeFrame_keeps (s : State) (q : Nat) (toPacket : Bool) (f : List Byte) : (s.storeFrame q toPacket f).kept = s.kept := by
  simp [State.storeFrame]

@[simp] theorem State.pwClassified_keeps (s : State) (lane : Nat) (encap : Bool) (q : Int) (body : Option (List Byte)) :
    (s.pwClassified lane encap q body).kept = s.kept := by
  unfold State.pwClassified
  dsimp only
  repeat' split
  all_goals simp

@[simp] theorem State.ethForward_keeps (s : State) (lane : Nat) (h : EthHead) (frame : List Byte) : (s.ethForward lane h frame).kept = s.kept := by
  unfold State.ethForward
  dsimp only
  repeat' split
  all_goals simp

@[simp] theorem State.pwGather_keeps (s : State) (q : Nat) (p : Payload) : (s.pwGather q p).kept = s.kept := by simp [State.pwGather]
@[simp] theorem State.pwSend_keeps (s : State) (q : Nat) : (s.pwSend q).kept = s.kept := by simp [State.pwSend]

@[simp] theorem State.ethSend_keeps (s : State) (lane : Nat) (credit : List Nat) : (s.ethSend lane credit).kept = s.kept := by
  unfold State.ethSend
  dsimp only
  repeat' split
  all_goals simp

@[simp] theorem State.queueGet_keeps (s : State) (c : Cmd) : (s.queueGet c).kept = s.kept := by simp [State.queueGet]
@[simp] theorem State.queueStatus_keeps (s : State) (c : Cmd) : (s.queueStatus c).kept = s.kept := by simp [State.queueStatus]
@[simp] theorem State.hdrSet_keeps (s : State) (c : Cmd) : (s.hdrSet c).kept = s.kept := by simp [State.hdrSet]
@[simp] theorem State.hdrGet_keeps (s : State) (c : Cmd) : (s.hdrGet c).kept = s.kept := by simp [State.hdrGet]
@[simp] theorem State.psnSet_keeps (s : State) (c : Cmd) : (s.psnSet c).kept = s.kept := by simp [State.psnSet]
@[simp] theorem State.psnGet_keeps (s : State) (c : Cmd) : (s.psnGet c).kept = s.kept := by simp [State.psnGet]
@[simp] theorem State.fwdSet_keeps (s : State) (c : Cmd) : (s.fwdSet c).kept = s.kept := by simp [State.fwdSet]
@[simp] theorem State.fwdGet_keeps (s : State) (c : Cmd) : (s.fwdGet c).kept = s.kept := by simp [State.fwdGet]
@[simp] theorem State.pieStatus_keeps (s : State) (c : Cmd) : (s.pieStatus c).kept = s.kept := by simp [State.pieStatus]

/-! Rings and the device log -/

@[simp] theorem State.ringFault_keeps (s : State) (n status : Nat) : (s.ringFault n status).kept = s.kept := by simp [State.ringFault]

@[simp] theorem State.writeBack_keeps (s : State) (n : Nat) (at_ : Word) (irq : Bool) (status : Nat) (b : Back) :
    (s.writeBack n at_ irq status b).kept = s.kept :=
  by simp [State.writeBack]

@[simp] theorem State.completeHead_keeps (s : State) (n : Nat) (d : DescRx) (status : Nat) (b : Back) : (s.completeHead n d status b).kept = s.kept :=
  by simp [State.completeHead]

@[simp] theorem State.ringDrop_keeps (s : State) (n : Nat) : (s.ringDrop n).kept = s.kept := by simp [State.ringDrop]
@[simp] theorem State.setEvRing_keeps (s : State) (er : Nat) (x : EvRing) : (s.setEvRing er x).kept = s.kept := State.kept_of_eq rfl rfl

@[simp] theorem State.closeEvents_keeps (s : State) (n : Nat) : (s.closeEvents n).kept = s.kept := by
  rw [State.closeEvents]
  split <;> simp

@[simp] theorem State.placeEvent_keeps (s : State) (n er : Nat) (o : OpenDesc) (x : EvRec) : (s.placeEvent n er o x).kept = s.kept := by
  simp [State.placeEvent]

@[simp] theorem State.loseEvent_keeps (s : State) (er : Nat) : (s.loseEvent er).kept = s.kept := by simp [State.loseEvent]

@[simp] theorem State.deliverEvent_keeps (s : State) (er : Nat) (rec_ : EvRec) : (s.deliverEvent er rec_).kept = s.kept := by
  unfold State.deliverEvent
  dsimp only
  repeat' split
  all_goals simp

@[simp] theorem State.drainBacklog_keeps (k : Nat) (s : State) (n er : Nat) : (State.drainBacklog k s n er).kept = s.kept := by
  induction k generalizing s with
  | zero => rfl
  | succ k ih =>
    rw [State.drainBacklog]
    dsimp only
    split
    · simp [ih]
    · rfl

@[simp] theorem State.drainStaging_keeps (s : State) : s.drainStaging.kept = s.kept := by
  rw [State.drainStaging]
  split <;> simp

@[simp] theorem State.fillReply_keeps (s : State) (n : Nat) (d : DescRx) : (s.fillReply n d).kept = s.kept := by
  rw [State.fillReply]
  split <;> simp

@[simp] theorem State.hostSend_keeps (s : State) (q : Nat) (f : List Byte) : (s.hostSend q f).2.kept = s.kept := by
  rw [State.hostSend]
  split <;> simp

@[simp] theorem State.completeFrame_keeps (s : State) (n status : Nat) (l : List (Word × List Byte × Bool)) :
    (s.completeFrame n status l).kept = s.kept :=
  by simp [State.completeFrame]

@[simp] theorem State.takeTransmit_keeps (s : State) (n : Nat) (d : DescRx) : (s.takeTransmit n d).kept = s.kept := by simp [State.takeTransmit]

@[simp] theorem State.takeDescriptor_keeps (s : State) (n : Nat) (d : DescRx) : (s.takeDescriptor n d).kept = s.kept := by
  rw [State.takeDescriptor]
  split <;> simp

@[simp] theorem State.readDescriptor_keeps (s : State) (n : Nat) (d : DescRx) {k : State → State} (hk : ∀ t, (k t).kept = t.kept) :
    (s.readDescriptor n d k).kept = s.kept := by
  unfold State.readDescriptor
  dsimp only
  repeat' split
  all_goals simp [hk]

@[simp] theorem State.fillFrame_keeps (ds : List DescRx) (n q : Nat) (first : Bool) (f : List Byte) (s : State) :
    (State.fillFrame ds n q first f s).kept = s.kept := by
  induction ds generalizing first f s with
  | nil => rfl
  | cons d ds ih =>
    rw [State.fillFrame]
    split
    · rfl
    · split <;> simp [ih]

@[simp] theorem State.dropReplies_keeps (s : State) (n : Nat) : (s.dropReplies n).kept = s.kept := by simp [State.dropReplies]

@[simp] theorem State.writeRingCfg_keeps (s : State) (m n off : Nat) (v : Half) : (s.writeRingCfg m n off v).kept = s.kept := by
  simp [State.writeRingCfg]

@[simp] theorem State.writeRingBind_keeps (s : State) (m n off : Nat) (v : Half) : (s.writeRingBind m n off v).kept = s.kept := by
  simp [State.writeRingBind]

@[simp] theorem State.writeRingBase_keeps (s : State) (m n off : Nat) (hi : Bool) (v : Half) : (s.writeRingBase m n off hi v).kept = s.kept := by
  simp [State.writeRingBase]

@[simp] theorem State.doorbell_keeps (s : State) (m n : Nat) (v : Half) : (s.doorbell m n v).kept = s.kept := by simp [State.doorbell]

/-! The end of DMA channels -/

@[simp] theorem State.setChan_keeps (s : State) (c : Nat) (x : Chan) : (s.setChan c x).kept = s.kept := State.kept_of_eq rfl rfl
@[simp] theorem State.chanStop_keeps (s : State) (c : Nat) : (s.chanStop c).kept = s.kept := by simp [State.chanStop]
@[simp] theorem State.chanEnd_keeps (s : State) (c status : Nat) : (s.chanEnd c status).kept = s.kept := by simp [State.chanEnd]
@[simp] theorem State.chanAbort_keeps (s : State) (c : Nat) : (s.chanAbort c).kept = s.kept := by simp [State.chanAbort]
@[simp] theorem State.ringOff_keeps (s : State) (n : Nat) : (s.ringOff n).kept = s.kept := by simp [State.ringOff]
@[simp] theorem State.ringsOff_keeps (s : State) : s.ringsOff.kept = s.kept := by simp [State.ringsOff]

/-! System commands, tenants and keys -/

@[simp] theorem State.setStreamH_keeps (s : State) (t : Nat) (slot : Bool) (port h : Nat) : (s.setStreamH t slot port h).kept = s.kept :=
  State.kept_of_eq rfl rfl

@[simp] theorem State.setStreams_keeps (s : State) (t : Nat) (slot : Bool) (h : Nat) : (s.setStreams t slot h).kept = s.kept :=
  State.kept_of_eq rfl rfl

@[simp] theorem State.putKey_keeps (s : State) (t : Nat) (slot : Bool) (key : Key) : (s.putKey t slot key).kept = s.kept := by simp [State.putKey]
@[simp] theorem State.clearKey_keeps (s : State) (t : Nat) (slot : Bool) : (s.clearKey t slot).kept = s.kept := by simp [State.clearKey]
@[simp] theorem State.devInfo_keeps (s : State) (c : Cmd) : (s.devInfo c).kept = s.kept := by simp [State.devInfo]
@[simp] theorem State.seqSync_keeps (s : State) (c : Cmd) : (s.seqSync c).kept = s.kept := by simp [State.seqSync]
@[simp] theorem State.echo_keeps (s : State) (c : Cmd) : (s.echo c).kept = s.kept := by simp [State.echo]
@[simp] theorem State.fnGet_keeps (s : State) (c : Cmd) : (s.fnGet c).kept = s.kept := by simp [State.fnGet]
@[simp] theorem State.endQuiet_keeps (s : State) (n : Nat) : (s.endQuiet n).kept = s.kept := by simp [State.endQuiet]
@[simp] theorem State.cmdPortSet_keeps (s : State) (c : Cmd) : (s.cmdPortSet c).kept = s.kept := by simp [State.cmdPortSet]
@[simp] theorem State.cmdPortStatus_keeps (s : State) (c : Cmd) : (s.cmdPortStatus c).kept = s.kept := by simp [State.cmdPortStatus]
@[simp] theorem State.putTenant_keeps (s : State) (t : Nat) (r : Rec2) : (s.putTenant t r).kept = s.kept := by simp [State.putTenant]
@[simp] theorem State.judgeQuota_keeps (s : State) (t : Nat) : (s.judgeQuota t).kept = s.kept := by simp [State.judgeQuota]
@[simp] theorem State.tenantSet_keeps (s : State) (c : Cmd) : (s.tenantSet c).kept = s.kept := by simp [State.tenantSet]
@[simp] theorem State.tenantGet_keeps (s : State) (c : Cmd) : (s.tenantGet c).kept = s.kept := by simp [State.tenantGet]
@[simp] theorem State.tenantDel_keeps (s : State) (c : Cmd) : (s.tenantDel c).kept = s.kept := by simp [State.tenantDel]
@[simp] theorem State.tenantList_keeps (s : State) (c : Cmd) : (s.tenantList c).kept = s.kept := by simp [State.tenantList]
@[simp] theorem State.keyLoad_keeps (s : State) (c : Cmd) : (s.keyLoad c).kept = s.kept := by simp [State.keyLoad]
@[simp] theorem State.keyRetire_keeps (s : State) (c : Cmd) : (s.keyRetire c).kept = s.kept := by simp [State.keyRetire]
@[simp] theorem State.authLogGet_keeps (s : State) (c : Cmd) : (s.authLogGet c).kept = s.kept := by simp [State.authLogGet]

/-! The EVIC, counters and traces -/

@[simp] theorem State.dropPin_keeps (s : State) (t : Nat) : (s.dropPin t).kept = s.kept := by simp [State.dropPin]
@[simp] theorem State.renotify_keeps (s : State) : s.renotify.kept = s.kept := by simp [State.renotify]
@[simp] theorem State.writeEvicSrc_keeps (s : State) (n : Nat) (v : Half) : (s.writeEvicSrc n v).kept = s.kept := by simp [State.writeEvicSrc]

@[simp] theorem State.claim_keeps (s : State) (t : Nat) : (s.claim t).2.kept = s.kept := by
  rw [State.claim]
  split <;> simp

@[simp] theorem State.endOfInterrupt_keeps (s : State) (t : Nat) (v : Half) : (s.endOfInterrupt t v).kept = s.kept := by
  rw [State.endOfInterrupt]
  split <;> simp

@[simp] theorem State.setEvPin_keeps (s : State) (n : Nat) (p : EvPin) : (s.setEvPin n p).kept = s.kept := State.kept_of_eq rfl rfl

@[simp] theorem State.evicRead_keeps (s : State) (off : Nat) : (s.evicRead off).2.kept = s.kept := by
  unfold State.evicRead
  dsimp only
  repeat' split
  all_goals simp

@[simp] theorem State.evicWrite_keeps (s : State) (off : Nat) (v : Half) : (s.evicWrite off v).kept = s.kept := by
  unfold State.evicWrite
  split
  · exact State.writeEvicSrc_keeps ..
  split
  · exact State.fire_keeps ..
  split
  · split
    · exact State.endOfInterrupt_keeps ..
    · exact (State.renotify_keeps _).trans (State.setTarget_keeps ..)
  split
  · exact State.setEvRing_keeps ..
  · exact State.setEvPin_keeps ..

@[simp] theorem State.snapSample_keeps (s : State) : s.snapSample.kept = s.kept := by simp [State.snapSample]
@[simp] theorem State.snapDone_keeps (s : State) : s.snapDone.kept = s.kept := by simp [State.snapDone]
@[simp] theorem State.checkpoint_keeps (s : State) : s.checkpoint.kept = s.kept := State.kept_of_eq rfl rfl

@[simp] theorem State.counterSet_keeps (s : State) (c : Cmd) : (s.counterSet c).kept = s.kept := by
  refine State.runOp_keeps _ _ _ _ _ ?_
  dsimp only
  repeat' split
  all_goals simp

@[simp] theorem State.counterGet_keeps (s : State) (c : Cmd) : (s.counterGet c).kept = s.kept := by simp [State.counterGet]
@[simp] theorem State.counterRead_keeps (s : State) (c : Cmd) : (s.counterRead c).kept = s.kept := by simp [State.counterRead]
@[simp] theorem State.counterClear_keeps (s : State) (c : Cmd) : (s.counterClear c).kept = s.kept := by simp [State.counterClear]
@[simp] theorem State.snapshotCmd_keeps (s : State) (c : Cmd) : (s.snapshotCmd c).kept = s.kept := by simp [State.snapshotCmd]
@[simp] theorem State.counterDump_keeps (s : State) (c : Cmd) : (s.counterDump c).kept = s.kept := by simp [State.counterDump]
@[simp] theorem State.dumpCounters_keeps (s : State) (c : Cmd) (addr : Word) : (s.dumpCounters c addr).kept = s.kept := State.kept_of_eq rfl rfl
@[simp] theorem State.filterSet_keeps (s : State) (c : Cmd) : (s.filterSet c).kept = s.kept := by simp [State.filterSet]
@[simp] theorem State.filterGet_keeps (s : State) (c : Cmd) : (s.filterGet c).kept = s.kept := by simp [State.filterGet]
@[simp] theorem State.userSlotSet_keeps (s : State) (c : Cmd) : (s.userSlotSet c).kept = s.kept := by simp [State.userSlotSet]
@[simp] theorem State.wordTraceSet_keeps (s : State) (c : Cmd) : (s.wordTraceSet c).kept = s.kept := by simp [State.wordTraceSet]

@[simp] theorem State.allocTrace_keeps (s : State) (port : Nat) (cycle : BitVec 17) : (s.allocTrace port cycle).kept = s.kept := by
  unfold State.allocTrace
  dsimp only
  repeat' split
  all_goals simp

@[simp] theorem State.traceFullCheck_keeps (s : State) : s.traceFullCheck.kept = s.kept := by simp [State.traceFullCheck]
@[simp] theorem State.traceWord_keeps (s : State) (p : Nat) (cycle : BitVec 17) : (s.traceWord p cycle).kept = s.kept := by simp [State.traceWord]

@[simp] theorem State.traceFrame_keeps (s : State) (words : List (Fin 14 × List (BitVec 17))) (stamps : List TraceStamp) :
    (s.traceFrame words stamps).kept = s.kept :=
  by simp [State.traceFrame]

@[simp] theorem State.traceRead_keeps (s : State) (c : Cmd) : (s.traceRead c).kept = s.kept := by simp [State.traceRead]
@[simp] theorem State.traceClear_keeps (s : State) (c : Cmd) : (s.traceClear c).kept = s.kept := by simp [State.traceClear]
@[simp] theorem State.eventRead_keeps (s : State) (c : Cmd) : (s.eventRead c).kept = s.kept := by simp [State.eventRead]
@[simp] theorem State.eventLogStatus_keeps (s : State) (c : Cmd) : (s.eventLogStatus c).kept = s.kept := by simp [State.eventLogStatus]

@[simp] theorem State.evicRegRead_keeps (s : State) (c : Cmd) : (s.evicRegRead c).kept = s.kept := by
  refine State.runOp_keeps _ _ _ _ _ ?_
  exact foldl_keeps (fun a : List Half × State => a.2.kept = s.kept) (fun a k ha => (State.evicRead_keeps ..).trans ha) _ rfl

@[simp] theorem State.evicRegWrite_keeps (s : State) (c : Cmd) : (s.evicRegWrite c).kept = s.kept := by
  rw [State.evicRegWrite]
  split <;> simp

/-! Map repair and the journal -/

@[simp] theorem State.compactBegin_keeps (s : State) : s.compactBegin.kept = s.kept := State.kept_of_eq rfl rfl
@[simp] theorem State.baseFull_keeps (s : State) : s.baseFull.kept = s.kept := by simp [State.baseFull]
@[simp] theorem State.compactEnd_keeps (s : State) : s.compactEnd.kept = s.kept := by simp [State.compactEnd]

@[simp] theorem State.scrubPass_keeps (s : State) (store : Nat) : (s.scrubPass store).2.kept = s.kept := by
  rw [State.scrubPass]
  split <;> exact State.kept_of_eq rfl rfl

@[simp] theorem State.memStatus_keeps (s : State) (c : Cmd) : (s.memStatus c).kept = s.kept := by simp [State.memStatus]
@[simp] theorem State.memErrLog_keeps (s : State) (c : Cmd) : (s.memErrLog c).kept = s.kept := by simp [State.memErrLog]
@[simp] theorem State.journalStatus_keeps (s : State) (c : Cmd) : (s.journalStatus c).kept = s.kept := by simp [State.journalStatus]
@[simp] theorem State.journalCompact_keeps (s : State) (c : Cmd) : (s.journalCompact c).kept = s.kept := by simp [State.journalCompact]

@[simp] theorem State.journalWord_keeps (s : State) (a : Nat) : (s.journalWord a).2.kept = s.kept := by
  unfold State.journalWord
  dsimp only
  repeat' split
  all_goals simp

@[simp] theorem State.journalWords_keeps (s : State) (a n : Nat) : (s.journalWords a n).2.kept = s.kept := by
  refine foldl_keeps (fun r : List Word × State => r.2.kept = s.kept) (fun r i hr => ?_) _ rfl
  exact (State.journalWord_keeps ..).trans hr

@[simp] theorem State.journalRead_keeps (s : State) (c : Cmd) : (s.journalRead c).kept = s.kept := by simp [State.journalRead]
@[simp] theorem State.ckptNow_keeps (s : State) (c : Cmd) : (s.ckptNow c).kept = s.kept := by simp [State.ckptNow]
@[simp] theorem State.memInject_keeps (s : State) (c : Cmd) : (s.memInject c).kept = s.kept := by simp [State.memInject]

/-! Paired operation -/

@[simp] theorem State.role_keeps (s : State) (m : PairMode) (cause : Nat) : (s.role m cause).kept = s.kept := State.kept_of_works (by simp)
@[simp] theorem State.setInStep_keeps (s : State) (b : Bool) : (s.setInStep b).kept = s.kept := by simp [State.setInStep]
@[simp] theorem State.setStale_keeps (s : State) : s.setStale.kept = s.kept := by simp [State.setStale]
@[simp] theorem State.syncDone_keeps (s : State) : s.syncDone.kept = s.kept := by simp [State.syncDone]
@[simp] theorem State.drive_keeps (s : State) (b : Bool) : (s.drive b).kept = s.kept := State.kept_of_works (by simp)
@[simp] theorem State.setActOut_keeps (s : State) (b : Bool) : (s.setActOut b).kept = s.kept := State.kept_of_works (by simp)
@[simp] theorem State.letGo_keeps (s : State) : s.letGo.kept = s.kept := State.kept_of_works (by simp)
@[simp] theorem State.becomeActive_keeps (s : State) (cause : Nat) : (s.becomeActive cause).kept = s.kept := by simp [State.becomeActive]
@[simp] theorem State.abandonHand_keeps (s : State) : s.abandonHand.kept = s.kept := State.kept_of_works (by simp)
@[simp] theorem State.fatal_keeps (s : State) : s.fatal.kept = s.kept := by simp [State.fatal]
@[simp] theorem State.mateRise_keeps (s : State) : s.mateRise.kept = s.kept := by simp [State.mateRise]
@[simp] theorem State.mateFall_keeps (s : State) : s.mateFall.kept = s.kept := by simp [State.mateFall]
@[simp] theorem State.mateFollow_keeps (s : State) : s.mateFollow.kept = s.kept := by simp [State.mateFollow]

@[simp] theorem State.acked_keeps (s : State) (seq : Nat) : (s.acked seq).kept = s.kept := by
  rw [State.acked]
  split <;> simp

@[simp] theorem State.startSync_keeps (s : State) : s.startSync.kept = s.kept := State.kept_of_eq rfl rfl
@[simp] theorem State.agree_keeps (s : State) (give : Bool) : (s.agree give).kept = s.kept := by simp [State.agree]

@[simp] theorem State.handReceive_keeps (s : State) (code h fnPeer : Nat) : (s.handReceive code h fnPeer).kept = s.kept := by
  rw [State.handReceive]
  split <;> simp

@[simp] theorem State.dualCheck_keeps (s : State) : s.dualCheck.kept = s.kept := by simp [State.dualCheck]
@[simp] theorem State.strapCheck_keeps (s : State) : s.strapCheck.kept = s.kept := by simp [State.strapCheck]

@[simp] theorem State.bootDecide_keeps (s : State) : s.bootDecide.kept = s.kept := by
  rw [State.bootDecide]
  split <;> simp

@[simp] theorem State.statusGood_keeps (s : State) (ws : List Word) : (s.statusGood ws).kept = s.kept := by simp [State.statusGood]

@[simp] theorem State.handbackWait_keeps (s : State) : s.handbackWait.kept = s.kept := by
  rw [State.handbackWait]
  split <;> exact State.kept_of_eq rfl rfl

@[simp] theorem State.pairTick_keeps (s : State) : (s.pairTick).kept = s.kept := by
  unfold State.pairTick
  extract_lets _ asked out _ _ moved _ forcing driven _ forced given held _ watched waited
  have hout : out.kept = s.kept := State.setActOut_keeps ..
  have hmoved : moved.kept = s.kept := by
    simp only [moved]
    split
    · rfl
    · split
      · split
        · exact (State.becomeActive_keeps ..).trans hout
        · exact hout
      · exact (State.role_keeps ..).trans (State.letGo_keeps _)
  have hdriven : driven.kept = moved.kept := (State.setActOut_keeps ..).trans (State.drive_keeps ..)
  have hforced : forced.kept = moved.kept := by
    simp only [forced]
    split
    · rfl
    · refine (State.fix_keeps ..).trans ?_
      split
      · exact (State.becomeActive_keeps ..).trans hdriven
      · rfl
  have hgiven : given.kept = forced.kept := by simp [given]
  have hwatched : watched.kept = given.kept := by
    simp only [watched]
    split
    · rfl
    · rfl
    · exact State.raiseIf_keeps ..
  have hwaited : waited.kept = watched.kept := State.handbackWait_keeps _
  simp [hwaited, hwatched, hgiven, hforced, hmoved]

@[simp] theorem State.pairSet_keeps (s : State) (c : Cmd) : (s.pairSet c).kept = s.kept := by simp [State.pairSet]
@[simp] theorem State.pairGet_keeps (s : State) (c : Cmd) : (s.pairGet c).kept = s.kept := by simp [State.pairGet]
@[simp] theorem State.pairStatus_keeps (s : State) (c : Cmd) : (s.pairStatus c).kept = s.kept := by simp [State.pairStatus]
@[simp] theorem State.pairSwitch_keeps (s : State) (c : Cmd) : (s.pairSwitch c).kept = s.kept := by simp [State.pairSwitch]
@[simp] theorem State.pairHold_keeps (s : State) (c : Cmd) : (s.pairHold c).kept = s.kept := by simp [State.pairHold]
@[simp] theorem State.pairResync_keeps (s : State) (c : Cmd) : (s.pairResync c).kept = s.kept := by simp [State.pairResync]
@[simp] theorem State.pairForce_keeps (s : State) (c : Cmd) : (s.pairForce c).kept = s.kept := by simp [State.pairForce]

end Sys2Proof.Machine
end


section
/-!
PROOFS. What the operations keep of the queue and the octets (O60): VCAT, GFP, timing, transmission, power and boot.
-/
namespace Sys2Proof.Machine

open Sys2Proof.Claims

/-! VCAT and LCAS -/

@[simp] theorem State.setVcat_keeps (s : State) (g : Nat) (x : VcatGroup) : (s.setVcat g x).kept = s.kept := State.kept_of_eq rfl rfl
@[simp] theorem State.vcatOrder_keeps (s : State) (g : Nat) : (s.vcatOrder g).kept = s.kept := State.kept_of_eq rfl rfl
@[simp] theorem State.vcatKeep_keeps (s : State) (g : Nat) : (s.vcatKeep g).kept = s.kept := State.kept_of_eq rfl rfl

@[simp] theorem State.memberGone_keeps (s : State) (g : Nat) (e : Eid) (lcas : optParam Bool true) : (s.memberGone g e lcas).kept = s.kept := by
  simp [State.memberGone]

@[simp] theorem State.vcatSource_keeps (s : State) (g : Nat) (mst : List (Nat × Bool)) (toggled : Bool) :
    (s.vcatSource g mst toggled).kept = s.kept :=
  by simp [State.vcatSource]

@[simp] theorem State.reportVcat_keeps (s : State) (g : Nat) : (s.reportVcat g).kept = s.kept := by simp [State.reportVcat]
@[simp] theorem State.vcatJudge_keeps (s : State) (g : Nat) : (s.vcatJudge g).kept = s.kept := by simp [State.vcatJudge]
@[simp] theorem State.vcatTick_keeps (s : State) : s.vcatTick.kept = s.kept := by simp [State.vcatTick]

@[simp] theorem State.vcatPacket_keeps (s : State) (p : VcatRx) : (s.vcatPacket p).kept = s.kept := by
  unfold State.vcatPacket
  dsimp only
  repeat' split
  all_goals simp

@[simp] theorem State.vcatSet_keeps (s : State) (c : Cmd) : (s.vcatSet c).kept = s.kept := by simp [State.vcatSet]
@[simp] theorem State.vcatGet_keeps (s : State) (c : Cmd) : (s.vcatGet c).kept = s.kept := by simp [State.vcatGet]
@[simp] theorem State.memberAdd_keeps (s : State) (c : Cmd) : (s.memberAdd c).kept = s.kept := by simp [State.memberAdd]
@[simp] theorem State.memberRemove_keeps (s : State) (c : Cmd) : (s.memberRemove c).kept = s.kept := by simp [State.memberRemove]
@[simp] theorem State.vcatStatus_keeps (s : State) (c : Cmd) : (s.vcatStatus c).kept = s.kept := by simp [State.vcatStatus]

/-! GFP -/

@[simp] theorem State.setGfp_keeps (s : State) (ch : Nat) (x : GfpChan) : (s.setGfp ch x).kept = s.kept := State.kept_of_eq rfl rfl
@[simp] theorem State.setCsf_keeps (s : State) (ch : Nat) (on : Bool) : (s.setCsf ch on).kept = s.kept := by simp [State.setCsf]

@[simp] theorem State.gfpClassify_keeps (s : State) (ch : Nat) (area : List Byte) : (s.gfpClassify ch area).kept = s.kept := by
  unfold State.gfpClassify
  dsimp only
  repeat' split
  all_goals simp

@[simp] theorem State.gfpFrame_keeps (s : State) (ch pli : Nat) (area : List Byte) (qb : Bool) : (s.gfpFrame ch pli area qb).kept = s.kept := by
  simp [State.gfpFrame]

@[simp] theorem State.gfpTake_keeps (s : State) (ch : Nat) (st : Framer) (count pli : Nat) (octets : List Byte) (qb : Bool) :
    (s.gfpTake ch st count pli octets qb).kept = s.kept :=
  by simp [State.gfpTake]

@[simp] theorem State.gfpReceive_keeps (s : State) (f : GfpRx) : (s.gfpReceive f).kept = s.kept := by
  unfold State.gfpReceive
  dsimp only
  repeat' split
  all_goals simp

theorem State.nextClient_keeps {s t : State} {q : Nat} {info : List Byte} (h : s.nextClient q = some (info, t)) : t.kept = s.kept := by
  simp only [State.nextClient] at h
  split at h
  · cases h
  · split at h
    · cases h; exact State.setQueue_keeps ..
    · cases h

@[simp] theorem State.gfpTransmit_keeps (s : State) (ch : Nat) : (s.gfpTransmit ch).kept = s.kept := by
  unfold State.gfpTransmit
  dsimp only
  split
  · rfl
  · split
    · exact State.emit_keeps ..
    · next h =>
      obtain ⟨q, _, hq⟩ := Option.bind_eq_some_iff.1 h
      split <;> simp [State.nextClient_keeps hq]

@[simp] theorem State.gfpSet_keeps (s : State) (c : Cmd) : (s.gfpSet c).kept = s.kept := by simp [State.gfpSet]
@[simp] theorem State.gfpGet_keeps (s : State) (c : Cmd) : (s.gfpGet c).kept = s.kept := by simp [State.gfpGet]
@[simp] theorem State.gfpBindOp_keeps (s : State) (c : Cmd) : (s.gfpBindOp c).kept = s.kept := by simp [State.gfpBindOp]
@[simp] theorem State.gfpStatus_keeps (s : State) (c : Cmd) : (s.gfpStatus c).kept = s.kept := by simp [State.gfpStatus]

/-! Timing -/

@[simp] theorem State.setCand_keeps (s : State) (c : Nat) (x : Cand) : (s.setCand c x).kept = s.kept := State.kept_of_eq rfl rfl
@[simp] theorem State.timeFollow_keeps (s : State) : s.timeFollow.kept = s.kept := by simp [State.timeFollow]
@[simp] theorem State.followQl_keeps (s : State) : s.followQl.kept = s.kept := by simp [State.followQl]

@[simp] theorem State.setSys_keeps (s : State) (m : SysMode) : (s.setSys m).kept = s.kept := by
  unfold State.setSys
  dsimp only
  repeat' split
  all_goals simp

@[simp] theorem State.enterHoldover_keeps (s : State) : s.enterHoldover.kept = s.kept := by simp [State.enterHoldover]

@[simp] theorem State.selectedLost_keeps (s : State) : s.selectedLost.kept = s.kept := by
  rw [State.selectedLost]
  split <;> simp

@[simp] theorem State.candSettle_keeps (s : State) : s.candSettle.kept = s.kept := by
  rw [State.candSettle]
  split <;> simp

@[simp] theorem State.candTo_keeps (s : State) (c : Nat) (m : CandMode) (silent : optParam Bool false) : (s.candTo c m silent).kept = s.kept := by
  simp [State.candTo]

@[simp] theorem State.candStep_keeps (s : State) (c : Nat) : (s.candStep c).kept = s.kept := by
  rw [State.candStep]
  split <;> simp

@[simp] theorem State.refSwitch_keeps (s : State) (cancel : Bool) (new : Nat) : (s.refSwitch cancel new).kept = s.kept := by simp [State.refSwitch]
@[simp] theorem State.startSwitch_keeps (s : State) (aim : Option Nat) : (s.startSwitch aim).kept = s.kept := by simp [State.startSwitch]
@[simp] theorem State.commitSwitch_keeps (s : State) (b : Nat) : (s.commitSwitch b).kept = s.kept := by simp [State.commitSwitch]

@[simp] theorem State.select_keeps (s : State) (urgent : Bool) : (s.select urgent).kept = s.kept := by
  unfold State.select
  dsimp only
  repeat' split
  all_goals simp

@[simp] theorem State.forceHold_keeps (s : State) (on : Bool) : (s.forceHold on).kept = s.kept := by
  unfold State.forceHold
  dsimp only
  repeat' split
  all_goals simp

@[simp] theorem State.laterDone_keeps (s : State) (d : Deferred) (jrn mir : Nat) (data : List Word) : (s.laterDone d jrn mir data).kept = s.kept := by
  simp [State.laterDone]

@[simp] theorem State.timCommands_keeps (s : State) : (s.timCommands).1.kept = s.kept := by
  rw [State.timCommands]
  refine foldl_keeps (fun a : State × Bool => a.1.kept = s.kept) (fun a d ha => ?_) _
    (foldl_keeps (fun a : State × Bool => a.1.kept = s.kept) (fun a d ha => ?_) _ rfl)
  · dsimp only
    refine (State.laterDone_keeps ..).trans ?_
    split
    · split
      · simp [ha]
      · simp [ha]
    · simp [ha]
  · exact (State.laterDone_keeps ..).trans ha

@[simp] theorem State.steerStep_keeps (s : State) (steer temp : Int) : (s.steerStep steer temp).kept = s.kept := by simp [State.steerStep]
@[simp] theorem State.squelchStep_keeps (s : State) : s.squelchStep.kept = s.kept := State.kept_of_eq rfl rfl

@[simp] theorem State.evaluate_keeps (s : State) (steer temp : Int) : (s.evaluate steer temp).kept = s.kept := by
  unfold State.evaluate
  dsimp only
  repeat' split
  all_goals simp

@[simp] theorem State.setModel_keeps (s : State) (m : ModelMode) : (s.setModel m).kept = s.kept := by simp [State.setModel]
@[simp] theorem State.ppsPulse_keeps (s : State) (p : PpsRx) : (s.ppsPulse p).kept = s.kept := by simp [State.ppsPulse]

@[simp] theorem State.todTake_keeps (s : State) (c : Nat) (m : TodMsg) (utc : BitVec 16) (after : Nat) (ok : Bool) :
    (s.todTake c m utc after ok).kept = s.kept :=
  by simp [State.todTake]

@[simp] theorem State.timSysSet_keeps (s : State) (c : Cmd) : (s.timSysSet c).kept = s.kept := by simp [State.timSysSet]
@[simp] theorem State.timSysGet_keeps (s : State) (c : Cmd) : (s.timSysGet c).kept = s.kept := by simp [State.timSysGet]
@[simp] theorem State.setTimIn_keeps (s : State) (c : Nat) (w : Word) : (s.setTimIn c w).kept = s.kept := by simp [State.setTimIn]
@[simp] theorem State.timInSet_keeps (s : State) (c : Cmd) : (s.timInSet c).kept = s.kept := by simp [State.timInSet]
@[simp] theorem State.timInGet_keeps (s : State) (c : Cmd) : (s.timInGet c).kept = s.kept := by simp [State.timInGet]
@[simp] theorem State.timInStatus_keeps (s : State) (c : Cmd) : (s.timInStatus c).kept = s.kept := by simp [State.timInStatus]
@[simp] theorem State.timStatus_keeps (s : State) (c : Cmd) : (s.timStatus c).kept = s.kept := by simp [State.timStatus]
@[simp] theorem State.timHoldover_keeps (s : State) (c : Cmd) : (s.timHoldover c).kept = s.kept := by simp [State.timHoldover]
@[simp] theorem State.timModelSet_keeps (s : State) (c : Cmd) : (s.timModelSet c).kept = s.kept := by simp [State.timModelSet]
@[simp] theorem State.timModelGet_keeps (s : State) (c : Cmd) : (s.timModelGet c).kept = s.kept := by simp [State.timModelGet]
@[simp] theorem State.timModelLearn_keeps (s : State) (c : Cmd) : (s.timModelLearn c).kept = s.kept := by simp [State.timModelLearn]
@[simp] theorem State.timOutSet_keeps (s : State) (c : Cmd) : (s.timOutSet c).kept = s.kept := by simp [State.timOutSet]
@[simp] theorem State.timOutGet_keeps (s : State) (c : Cmd) : (s.timOutGet c).kept = s.kept := by simp [State.timOutGet]
@[simp] theorem State.timMonSet_keeps (s : State) (c : Cmd) : (s.timMonSet c).kept = s.kept := by simp [State.timMonSet]
@[simp] theorem State.todSet_keeps (s : State) (c : Cmd) : (s.todSet c).kept = s.kept := by simp [State.todSet]
@[simp] theorem State.timThermSet_keeps (s : State) (c : Cmd) : (s.timThermSet c).kept = s.kept := by simp [State.timThermSet]

/-! PTP and Ethernet reception -/

@[simp] theorem State.setPtpPort_keeps (s : State) (i : Nat) (p : PtpPort) : (s.setPtpPort i p).kept = s.kept := State.kept_of_eq rfl rfl
@[simp] theorem State.dpllTo_keeps (s : State) (m : SysMode) : (s.dpllTo m).kept = s.kept := by simp [State.dpllTo]
@[simp] theorem State.dpllLeave_keeps (s : State) : s.dpllLeave.kept = s.kept := by simp [State.dpllLeave]

@[simp] theorem State.dpllCheck_keeps (s : State) : s.dpllCheck.kept = s.kept := by
  rw [State.dpllCheck]
  split <;> simp

@[simp] theorem State.ptpOffset_keeps (s : State) (off : Int) : (s.ptpOffset off).kept = s.kept := by simp [State.ptpOffset]
@[simp] theorem State.ptpTo_keeps (s : State) (i : Nat) (m : PtpMode) : (s.ptpTo i m).kept = s.kept := by simp [State.ptpTo]
@[simp] theorem State.ptpDecide_keeps (s : State) : s.ptpDecide.kept = s.kept := by simp [State.ptpDecide]
@[simp] theorem State.ptpSend_keeps (s : State) (i kind : Nat) (msg : List Byte) : (s.ptpSend i kind msg).kept = s.kept := by simp [State.ptpSend]

@[simp] theorem State.ptpMessage_keeps (s : State) (i : Nat) (o : List Byte) (rx : Int) : (s.ptpMessage i o rx).kept = s.kept := by
  unfold State.ptpMessage
  dsimp only
  repeat' split
  all_goals simp

@[simp] theorem State.ptpFrame_keeps (s : State) (place : Nat) (h : EthHead) (fn : BitVec 48) (cycle : BitVec 17) :
    (s.ptpFrame place h fn cycle).kept = s.kept := by
  rw [State.ptpFrame]
  split <;> simp

@[simp] theorem State.ethReceive_keeps (s : State) (f : EthRx) : (s.ethReceive f).kept = s.kept := by simp [State.ethReceive]
@[simp] theorem State.ptpSet_keeps (s : State) (c : Cmd) : (s.ptpSet c).kept = s.kept := by simp [State.ptpSet]
@[simp] theorem State.ptpPortSet_keeps (s : State) (c : Cmd) : (s.ptpPortSet c).kept = s.kept := by simp [State.ptpPortSet]
@[simp] theorem State.ptpStatus_keeps (s : State) (c : Cmd) : (s.ptpStatus c).kept = s.kept := by simp [State.ptpStatus]

/-! Transmission -/

@[simp] theorem State.markStep_keeps (s : State) (e : Eid) (t : PathTx) : (s.markStep e t).1.kept = s.kept := by
  unfold State.markStep
  dsimp only
  repeat' split
  all_goals simp

@[simp] theorem State.egress_keeps (s : State) (e : Eid) (t : PathTx) : (s.egress e t).1.kept = s.kept := by
  rw [State.egress]
  split <;> simp

@[simp] theorem State.vcatSend_keeps (s : State) (e : Eid) : (s.vcatSend e).kept = s.kept := by
  unfold State.vcatSend
  dsimp only
  repeat' split
  all_goals simp

@[simp] theorem State.pathOverhead_keeps (s : State) (e img : Eid) (src : PathSrc) (t : PathTx) : (s.pathOverhead e img src t).1.kept = s.kept := by
  unfold State.pathOverhead
  dsimp only
  repeat' split
  all_goals simp

@[simp] theorem State.pathTransmit_keeps (s : State) (e : Eid) (image : Option Nat) (t : PathTx) : (s.pathTransmit e image t).1.kept = s.kept := by
  unfold State.pathTransmit
  dsimp only
  repeat' split
  all_goals simp

@[simp] theorem State.sdhTransmit_keeps (s : State) (f : SdhTx) : (s.sdhTransmit f).kept = s.kept := by
  rw [State.sdhTransmit]
  split
  · rfl
  · refine (State.emit_keeps ..).trans ?_
    exact foldl_keeps (fun a : State × List (Eid × BitVec 16 × List Byte) => a.1.kept = s.kept)
      (fun a t ha => (State.pathTransmit_keeps ..).trans ha) _ (State.setSdhLane_keeps ..)

@[simp] theorem State.e1Transmit_keeps (s : State) (e : Eid) (grains : List Byte) : (s.e1Transmit e grains).kept = s.kept := State.kept_of_eq rfl rfl

@[simp] theorem State.c37Transmit_keeps (s : State) (p : Nat) (grains : List Byte) : (s.c37Transmit p grains).kept = s.kept :=
  State.kept_of_eq rfl rfl

/-! What every reset does -/

@[simp] theorem State.logTamper_keeps (s : State) (kind n : Nat) (up : Bool) (arg actions : Nat) :
    (s.logTamper kind n up arg actions).kept = s.kept :=
  by simp [State.logTamper]

@[simp] theorem State.raiseLater_keeps (s : State) (src : Nat) (clr : Bool) (code obj : Nat) : (s.raiseLater src clr code obj).kept = s.kept := by
  simp [State.raiseLater]

@[simp] theorem State.raiseOwed_keeps (s : State) : s.raiseOwed.kept = s.kept := by simp [State.raiseOwed]
@[simp] theorem State.zeroise_keeps (s : State) (all : Bool) (n : Nat) : (s.zeroise all n).kept = s.kept := by simp [State.zeroise]
@[simp] theorem State.resetRecord_keeps (s : State) (cause : Nat) : (s.resetRecord cause).kept = s.kept := State.kept_of_eq rfl rfl
@[simp] theorem State.tearFlash_keeps (s : State) : s.tearFlash.kept = s.kept := by simp [State.tearFlash]
@[simp] theorem State.voscStart_keeps (s : State) : s.voscStart.kept = s.kept := State.kept_of_eq rfl rfl
@[simp] theorem State.wdtResume_keeps (s : State) : s.wdtResume.kept = s.kept := State.kept_of_eq rfl rfl
@[simp] theorem State.laneStart_keeps (s : State) (n : Nat) : (s.laneStart n).kept = s.kept := State.kept_of_eq rfl rfl
@[simp] theorem State.lanesStart_keeps (s : State) (which : Nat → Bool) : (s.lanesStart which).kept = s.kept := by simp [State.lanesStart]

@[simp] theorem State.vcatStart_keeps (s : State) (rings : Bool) : (s.vcatStart rings).kept = s.kept := by
  rw [State.vcatStart]
  split <;> simp

@[simp] theorem State.timStart_keeps (s : State) : s.timStart.kept = s.kept := by simp [State.timStart]
@[simp] theorem State.applyConfig_keeps (s : State) (new : BCfg) : (s.applyConfig new).kept = s.kept := by simp [State.applyConfig]
@[simp] theorem State.countersResume_keeps (s : State) : s.countersResume.kept = s.kept := State.kept_of_eq rfl rfl

/-! Power -/

@[simp] theorem State.enterFirkin_keeps (s : State) : s.enterFirkin.kept = s.kept := by simp [State.enterFirkin]
@[simp] theorem State.leaveFirkin_keeps (s : State) : s.leaveFirkin.kept = s.kept := by simp [State.leaveFirkin]

@[simp] theorem State.pwrTick_keeps (s : State) : s.pwrTick.kept = s.kept := by
  rw [State.pwrTick]
  split <;> simp

@[simp] theorem State.avsAsk_keeps (s : State) (mv : Nat) : (s.avsAsk mv).kept = s.kept := State.kept_of_eq rfl rfl
@[simp] theorem State.avsFail_keeps (s : State) : s.avsFail.kept = s.kept := by simp [State.avsFail]
@[simp] theorem State.beginEntry_keeps (s : State) : s.beginEntry.kept = s.kept := by simp [State.beginEntry]
@[simp] theorem State.abandonEntry_keeps (s : State) (cause : Nat) : (s.abandonEntry cause).kept = s.kept := by simp [State.abandonEntry]
@[simp] theorem State.setCoreEn_keeps (s : State) (b : Bool) : (s.setCoreEn b).kept = s.kept := by simp [State.setCoreEn]
@[simp] theorem State.voscDown_keeps (s : State) (keep : Bool) : (s.voscDown keep).kept = s.kept := by simp [State.voscDown]
@[simp] theorem State.sleep_keeps (s : State) : s.sleep.kept = s.kept := by simp [State.sleep]

@[simp] theorem State.arm_keeps (s : State) (src obj : Nat) : (s.arm src obj).kept = s.kept := by
  unfold State.arm
  dsimp only
  split <;> exact State.kept_of_eq rfl rfl

@[simp] theorem State.wakeBegin_keeps (s : State) : s.wakeBegin.kept = s.kept := by simp [State.wakeBegin]
@[simp] theorem State.endStretch_keeps (s : State) (ticks : Nat) : (s.endStretch ticks).kept = s.kept := State.kept_of_eq rfl rfl
@[simp] theorem State.wakeLogAdd_keeps (s : State) (code : Nat) (fn : BitVec 48) : (s.wakeLogAdd code fn).kept = s.kept := State.kept_of_eq rfl rfl
@[simp] theorem State.raiseWakeFails_keeps (s : State) : s.raiseWakeFails.kept = s.kept := by simp [State.raiseWakeFails]
@[simp] theorem State.wakeDown_keeps (s : State) (short : Bool) : (s.wakeDown short).kept = s.kept := by simp [State.wakeDown]
@[simp] theorem State.powerFailRecord_keeps (s : State) : s.powerFailRecord.kept = s.kept := State.kept_of_eq rfl rfl
@[simp] theorem State.pwrState_keeps (s : State) (c : Cmd) : (s.pwrState c).kept = s.kept := by simp [State.pwrState]
@[simp] theorem State.pwrSet_keeps (s : State) (c : Cmd) : (s.pwrSet c).kept = s.kept := by simp [State.pwrSet]
@[simp] theorem State.pwrGet_keeps (s : State) (c : Cmd) : (s.pwrGet c).kept = s.kept := by simp [State.pwrGet]
@[simp] theorem State.wakeSet_keeps (s : State) (c : Cmd) : (s.wakeSet c).kept = s.kept := by simp [State.wakeSet]
@[simp] theorem State.wakeGet_keeps (s : State) (c : Cmd) : (s.wakeGet c).kept = s.kept := by simp [State.wakeGet]
@[simp] theorem State.pwrStatus_keeps (s : State) (c : Cmd) : (s.pwrStatus c).kept = s.kept := by simp [State.pwrStatus]
@[simp] theorem State.wakeLogGet_keeps (s : State) (c : Cmd) : (s.wakeLogGet c).kept = s.kept := by simp [State.wakeLogGet]
@[simp] theorem State.sleepGapGet_keeps (s : State) (c : Cmd) : (s.sleepGapGet c).kept = s.kept := by simp [State.sleepGapGet]
@[simp] theorem State.voscCtrl_keeps (s : State) (c : Cmd) : (s.voscCtrl c).kept = s.kept := by simp [State.voscCtrl]
@[simp] theorem State.firkinCheck_keeps (s : State) (c : Cmd) : (s.firkinCheck c).kept = s.kept := by simp [State.firkinCheck]
@[simp] theorem State.wakeSend_keeps (s : State) (c : Cmd) : (s.wakeSend c).kept = s.kept := by simp [State.wakeSend]

/-! Boot, watchdog, recovery port and tamper inputs -/

@[simp] theorem State.sampleStraps_keeps (s : State) (x : Straps) : (s.sampleStraps x).kept = s.kept := State.kept_of_eq rfl rfl
@[simp] theorem State.wdtPeriod_keeps (s : State) : s.wdtPeriod.kept = s.kept := by simp [State.wdtPeriod]
@[simp] theorem State.restoreKeys_keeps (s : State) : s.restoreKeys.kept = s.kept := by simp [State.restoreKeys]
@[simp] theorem State.startBlocks_keeps (s : State) (b : BCfg) : (s.startBlocks b).kept = s.kept := by simp [State.startBlocks]
@[simp] theorem State.restoreConfig_keeps (s : State) (r : Restore) : (s.restoreConfig r).kept = s.kept := by simp [State.restoreConfig]
@[simp] theorem State.firmware_keeps (s : State) (ms : BitVec 16) (r : Restore) : (s.firmware ms r).kept = s.kept := by simp [State.firmware]
@[simp] theorem State.useBlock_keeps (s : State) (b : BootBlock) : (s.useBlock b).kept = s.kept := State.kept_of_eq rfl rfl
@[simp] theorem State.bootStop_keeps (s : State) (code : Nat) : (s.bootStop code).kept = s.kept := State.kept_of_eq rfl rfl

@[simp] theorem State.bootGo_keeps (s : State) (octets : List Byte) : (s.bootGo octets).kept = s.kept := by
  unfold State.bootGo
  dsimp only
  repeat' split
  all_goals simp

@[simp] theorem State.recReply_keeps (s : State) (status : Nat) (data : List Byte) : (s.recReply status data).kept = s.kept :=
  State.kept_of_eq rfl rfl

@[simp] theorem State.recOp_keeps (s : State) (op : Nat) (crcOk argOk : Bool) (armed : Option Nat) {f : State → State}
    (hf : ∀ t, (f t).kept = t.kept) : (s.recOp op crcOk argOk armed f).kept = s.kept := by
  unfold State.recOp
  dsimp only
  split <;> simp [hf]

@[simp] theorem State.recDone_keeps (s : State) (op : Nat) (arg : Half) : (s.recDone op arg).kept = s.kept := by simp [State.recDone]
@[simp] theorem State.freeze_keeps (s : State) (on : Bool) : (s.freeze on).kept = s.kept := by simp [State.freeze]
@[simp] theorem State.setLocks_keeps (s : State) (n : Nat) (l : BitVec 2) : (s.setLocks n l).kept = s.kept := State.kept_of_eq rfl rfl

@[simp] theorem State.tamperChange_keeps (s : State) (n : Nat) (active : Bool) : (s.tamperChange n active).kept = s.kept := by
  simp [State.tamperChange]

@[simp] theorem State.sysReset_keeps (s : State) (c : Cmd) : (s.sysReset c).kept = s.kept := by simp [State.sysReset]
@[simp] theorem State.resetLog_keeps (s : State) (c : Cmd) : (s.resetLog c).kept = s.kept := by simp [State.resetLog]
@[simp] theorem State.wdtSet_keeps (s : State) (c : Cmd) : (s.wdtSet c).kept = s.kept := by simp [State.wdtSet]
@[simp] theorem State.tamperSet_keeps (s : State) (c : Cmd) : (s.tamperSet c).kept = s.kept := by simp [State.tamperSet]
@[simp] theorem State.tamperGet_keeps (s : State) (c : Cmd) : (s.tamperGet c).kept = s.kept := by simp [State.tamperGet]
@[simp] theorem State.tamperClear_keeps (s : State) (c : Cmd) : (s.tamperClear c).kept = s.kept := by simp [State.tamperClear]
@[simp] theorem State.tamperLogGet_keeps (s : State) (c : Cmd) : (s.tamperLogGet c).kept = s.kept := by simp [State.tamperLogGet]

@[simp] theorem State.capture_keeps (s : State) (reason : Nat) (erase : Bool) (note : List Word) : (s.capture reason erase note).kept = s.kept := by
  simp [State.capture]

@[simp] theorem State.returnCapture_keeps (s : State) (c : Cmd) : (s.returnCapture c).kept = s.kept := by simp [State.returnCapture]
@[simp] theorem State.captureStatus_keeps (s : State) (c : Cmd) : (s.captureStatus c).kept = s.kept := by simp [State.captureStatus]
@[simp] theorem State.recSet_keeps (s : State) (c : Cmd) : (s.recSet c).kept = s.kept := by simp [State.recSet]
@[simp] theorem State.fwStage_keeps (s : State) (c : Cmd) (image : List Byte) : (s.fwStage c image).kept = s.kept := by simp [State.fwStage]

@[simp] theorem State.flashDone_keeps (s : State) : s.flashDone.kept = s.kept := by
  rw [State.flashDone]
  split <;> exact State.kept_of_eq rfl rfl

end Sys2Proof.Machine
end


section
/-!
PROOFS. What the operations keep of the queue and the octets (O60): the opcodes, the ports, the tick and the buses.
-/
namespace Sys2Proof.Machine

open Sys2Proof.Claims

/-! The opcodes -/

/-- Every opcode keeps the queue and the octets. -/
theorem opMeaning_keeps {cls op : Nat} {f : Cmd → List Byte → State → State} (h : opMeaning cls op = some f) (c : Cmd) (fetched : List Byte)
    (s : State) : (f c fetched s).kept = s.kept := by
  have hall : ∀ l ∈ opClasses, ∀ x ∈ l, (x.2 c fetched s).kept = s.kept := by
    simp [List.forall_mem_cons, -List.mem_cons, -Prod.forall, opClasses, ops0, ops1, ops2, ops3, ops4, ops5, ops6, ops7, ops8, ops9, ops10,
      ops11, ops12, ops13, ops14, ops15]
  obtain ⟨x, hx, rfl⟩ := Option.map_eq_some_iff.1 h
  have hmem := List.mem_of_find?_eq_some hx
  rw [nth] at hmem
  cases hl : opClasses[cls]? with
  | none => rw [hl] at hmem; cases hmem
  | some l =>
    rw [hl] at hmem
    exact hall l (List.mem_of_getElem? hl) x hmem

@[simp] theorem State.handleOp_keeps (s : State) (cls op : Nat) (c : Cmd) (fetched : List Byte) : (s.handleOp cls op c fetched).kept = s.kept := by
  rw [State.handleOp]
  split
  · next h => exact opMeaning_keeps h c fetched s
  · split <;> exact State.answer_keeps ..

/-! Packets on the command ports -/

@[simp] theorem State.dropPacket_keeps (s : State) (p : WaitPacket) : (s.dropPacket p).kept = s.kept := by simp [State.dropPacket]
@[simp] theorem State.noteAuth_keeps (s : State) (c : Cmd) (status : Nat) : (s.noteAuth c status).kept = s.kept := by simp [State.noteAuth]
@[simp] theorem State.failAuth_keeps (s : State) (c : Cmd) (cls op : Nat) : (s.failAuth c cls op).kept = s.kept := by simp [State.failAuth]

@[simp] theorem State.queueCmd_keeps (s : State) (cls op : Nat) (c : Cmd) (fetched : List Byte) : (s.queueCmd cls op c fetched).kept = s.kept := by
  simp [State.queueCmd]

@[simp] theorem State.duplicate_keeps (s : State) (c : Cmd) (e : Option CacheEntry) : (s.duplicate c e).kept = s.kept := by
  unfold State.duplicate
  dsimp only
  split <;> simp

@[simp] theorem State.replay_keeps (s : State) (c : Cmd) (cls op : Nat) : (s.replay c cls op).kept = s.kept := by simp [State.replay]
@[simp] theorem State.acceptSeq_keeps (s : State) (c : Cmd) : (s.acceptSeq c).kept = s.kept := by simp [State.acceptSeq]

@[simp] theorem State.sequence_keeps (s : State) (cls op : Nat) (c : Cmd) (fetched : List Byte) : (s.sequence cls op c fetched).kept = s.kept := by
  unfold State.sequence
  dsimp only
  repeat' split
  all_goals simp

@[simp] theorem State.admission_keeps (s : State) (p : WaitPacket) (fetched : List Byte) : (s.admission p fetched).kept = s.kept := by
  unfold State.admission
  dsimp only
  repeat' split
  all_goals simp

@[simp] theorem State.takeArrived_keeps (s : State) (fetched : List Byte) : (s.takeArrived fetched).kept = s.kept := by simp [State.takeArrived]

@[simp] theorem State.arrive_keeps (s : State) (p : WaitPacket) (fetched : List Byte) : (s.arrive p fetched).kept = s.kept := by
  simp [State.arrive]

@[simp] theorem State.writeDone_keeps (s : State) (d : Deferred) : (s.writeDone d).kept = s.kept := by
  obtain ⟨c, cls, op, waits, answer⟩ := d
  cases waits with
  | counterWrite _ =>
    cases answer with
    | none => exact State.kept_of_eq rfl rfl
    | some _ => rfl
  | fwStage =>
    cases answer with
    | none => exact State.flashDone_keeps s
    | some _ => rfl
  | _ => rfl

@[simp] theorem State.takeCommand_keeps (s : State) (n : Nat) (d : DescRx) (fetched : List Byte) : (s.takeCommand n d fetched).kept = s.kept := by
  simp [State.takeCommand]

/-! Program DMA programs -/

@[simp] theorem State.chanStart_keeps (s : State) (c : Nat) (program : Option (List Word)) : (s.chanStart c program).kept = s.kept := by
  unfold State.chanStart
  dsimp only
  repeat' split
  all_goals simp

/-! Host ports, CP2 and CP3 -/

@[simp] theorem State.hostLink_keeps (s : State) (portB up : Bool) : (s.hostLink portB up).kept = s.kept := by simp [State.hostLink]
@[simp] theorem State.ringLost_keeps (s : State) (portB : Bool) (n : Nat) : (s.ringLost portB n).kept = s.kept := by simp [State.ringLost]
@[simp] theorem State.chanLost_keeps (s : State) (portB : Bool) (c : Nat) : (s.chanLost portB c).kept = s.kept := by simp [State.chanLost]
@[simp] theorem State.endNotice_keeps (s : State) (t : Nat) : (s.endNotice t).kept = s.kept := by simp [State.endNotice]
@[simp] theorem State.hostPortReset_keeps (s : State) (portB flr : Bool) : (s.hostPortReset portB flr).kept = s.kept := by simp [State.hostPortReset]

@[simp] theorem State.hostPortLinkUp_keeps (s : State) (portB msix : Bool) : (s.hostPortLinkUp portB msix).kept = s.kept := by
  simp [State.hostPortLinkUp]

@[simp] theorem State.mgmtReceive_keeps (s : State) (f : MgmtRx) : (s.mgmtReceive f).kept = s.kept := by simp [State.mgmtReceive]

@[simp] theorem State.craftTake_keeps (s : State) (optical : Bool) (octets fetched : List Byte) :
    (s.craftTake optical octets fetched).kept = s.kept :=
  by simp [State.craftTake]

@[simp] theorem State.craftDiscard_keeps (s : State) (optical : Bool) : (s.craftDiscard optical).kept = s.kept := by simp [State.craftDiscard]

@[simp] theorem State.craftWrite_keeps (s : State) (n : BitVec 16) (data fetched : List Byte) : (s.craftWrite n data fetched).kept = s.kept := by
  unfold State.craftWrite
  dsimp only
  repeat' split
  all_goals simp

@[simp] theorem State.craftRead_keeps (s : State) (clocked : Nat) : (s.craftRead clocked).kept = s.kept := by simp [State.craftRead]

@[simp] theorem State.opticalReceive_keeps (s : State) (chars : List Byte) (gap : Bool) (fetched : List Byte) :
    (s.opticalReceive chars gap fetched).kept = s.kept :=
  by simp [State.opticalReceive]

@[simp] theorem State.opticalFault_keeps (s : State) (noise : Bool) : (s.opticalFault noise).kept = s.kept := by simp [State.opticalFault]

/-! Traffic through the fabric -/

@[simp] theorem State.storeLegs_keeps (s : State) (t : List Arrival) : (s.storeLegs t).kept = s.kept := by simp [State.storeLegs]

@[simp] theorem State.sink_keeps (s : State) (e : Eid) (p : Payload) : (s.sink e p).kept = s.kept := by
  rw [State.sink]
  split <;> simp

@[simp] theorem State.padded_keeps (s : State) (cid : Nat) (p : Payload) : (s.padded cid p).2.kept = s.kept := State.kept_of_eq rfl rfl

@[simp] theorem State.carry_keeps (s : State) (cid : Nat) (r : Conn) (back : Bool) (p : Option Payload) : (s.carry cid r back p).kept = s.kept := by
  unfold State.carry
  dsimp only
  repeat' split
  all_goals simp

@[simp] theorem State.wordsFrame_keeps (s : State) (t : List Arrival) : (s.wordsFrame t).kept = s.kept := by simp [State.wordsFrame]
@[simp] theorem State.grainFrame_keeps (s : State) (now : Nat → Option Payload) : (s.grainFrame now).kept = s.kept := by simp [State.grainFrame]

/-! The frame tick -/

@[simp] theorem State.parityFrame_keeps (s : State) (l : List (Nat × Nat)) : (s.parityFrame l).kept = s.kept := by simp [State.parityFrame]
@[simp] theorem State.frameEnds_keeps (s : State) (t : TickIn) : (s.frameEnds t).kept = s.kept := by simp [State.frameEnds]
@[simp] theorem State.loadFrame_keeps (s : State) (short : Bool) : (s.loadFrame short).kept = s.kept := by simp [State.loadFrame]

@[simp] theorem State.slip_keeps (s : State) : s.slip.kept = s.kept := by
  rw [State.slip]
  split <;> simp

@[simp] theorem State.fnAdvance_keeps (s : State) : s.fnAdvance.kept = s.kept := by
  unfold State.fnAdvance
  dsimp only
  repeat' split
  all_goals simp

@[simp] theorem State.slew_keeps (s : State) (stepped : Bool) : (s.slew stepped).kept = s.kept := by
  rw [State.slew]
  split <;> simp

@[simp] theorem State.flipTick_keeps (s : State) (slip : Bool) : (s.flipTick slip).kept = s.kept := by
  rw [State.flipTick]
  split <;> simp

@[simp] theorem State.stagesTick_keeps (s : State) (l : List Nat) (mismatch : Bool) : (s.stagesTick l mismatch).kept = s.kept := by
  simp [State.stagesTick]

@[simp] theorem State.secondTick_keeps (s : State) : s.secondTick.kept = s.kept := by simp [State.secondTick]
@[simp] theorem State.ppsTick_keeps (s : State) : s.ppsTick.kept = s.kept := by simp [State.ppsTick]

@[simp] theorem State.frameStep_keeps (s : State) (cause : Nat) (loadFn : Option (BitVec 48)) (phaseError : Nat) (short : Bool) :
    (s.frameStep cause loadFn phaseError short).kept = s.kept :=
  by simp [State.frameStep]

@[simp] theorem State.setTickCtrl_keeps (s : State) (w : Half) : (s.setTickCtrl w).kept = s.kept := by simp [State.setTickCtrl]
@[simp] theorem State.readFnLo_keeps (s : State) : s.readFnLo.2.kept = s.kept := State.kept_of_eq rfl rfl
@[simp] theorem State.readLastFlipLo_keeps (s : State) : s.readLastFlipLo.2.kept = s.kept := State.kept_of_eq rfl rfl
@[simp] theorem State.readTickStatus_keeps (s : State) : s.readTickStatus.2.kept = s.kept := State.kept_of_eq rfl rfl

/-! Register reads -/

@[simp] theorem State.ringRead_keeps (s : State) (n o : Nat) : (s.ringRead n o).2.kept = s.kept := by
  unfold State.ringRead
  dsimp only
  repeat' split
  all_goals simp

@[simp] theorem State.readTickCycle_keeps (s : State) : s.readTickCycle.2.kept = s.kept := State.kept_of_eq rfl rfl

@[simp] theorem State.readLow_keeps (s : State) (off : Nat) : (s.readLow off).2.kept = s.kept := by
  unfold State.readLow
  dsimp only
  split <;> exact State.kept_of_eq rfl rfl

@[simp] theorem State.readMatrix_keeps (s : State) (off : Nat) : (s.readMatrix off).2.kept = s.kept := by
  unfold State.readMatrix
  dsimp only
  split <;> exact State.kept_of_eq rfl rfl

@[simp] theorem State.regRead_keeps (s : State) (off : Nat) : (s.regRead off).2.kept = s.kept := by
  unfold State.regRead
  split
  · exact State.ringRead_keeps ..
  · rfl
  · split
    · exact State.readLow_keeps ..
    · split
      · exact State.readMatrix_keeps ..
      · split
        · exact State.evicRead_keeps ..
        · split <;> rfl

/-! Bus writes -/

@[simp] theorem State.ringWrite_keeps (s : State) (m n o off : Nat) (v : Half) : (s.ringWrite m n o off v).kept = s.kept := by simp [State.ringWrite]

@[simp] theorem State.chanCtrl_keeps (s : State) (c : Nat) (v : Half) (program : Option (List Word)) : (s.chanCtrl c v program).kept = s.kept := by
  simp [State.chanCtrl]

@[simp] theorem State.chanWrite_keeps (s : State) (m c o off : Nat) (v : Half) (program : Option (List Word)) :
    (s.chanWrite m c o off v program).kept = s.kept :=
  by simp [State.chanWrite]

@[simp] theorem State.writeMatrixCtrl_keeps (s : State) (m : Nat) (v : Half) : (s.writeMatrixCtrl m v).kept = s.kept := by
  simp [State.writeMatrixCtrl]

@[simp] theorem State.writeLow_keeps (s : State) (off : Nat) (v : Half) (octets : List Byte) : (s.writeLow off v octets).kept = s.kept := by
  unfold State.writeLow
  dsimp only
  split <;> simp

@[simp] theorem State.writeMatrix_keeps (s : State) (m off : Nat) (v : Half) : (s.writeMatrix m off v).kept = s.kept := by
  unfold State.writeMatrix
  dsimp only
  split <;> simp

@[simp] theorem State.writeMbox_keeps (s : State) (off : Nat) (v : Half) : (s.writeMbox off v).kept = s.kept := State.kept_of_eq rfl rfl

@[simp] theorem State.regWrite_keeps (s : State) (m off : Nat) (v : Half) (program : Option (List Word)) (octets : List Byte) :
    (s.regWrite m off v program octets).kept = s.kept := by
  rw [State.regWrite]
  split <;> simp

@[simp] theorem State.regDword_keeps (s : State) (m off : Nat) (v : Half) (program : Option (List Word)) (octets : List Byte) :
    (s.regDword m off v program octets).kept = s.kept := by
  rw [State.regDword]
  split <;> simp

@[simp] theorem State.regPart_keeps (s : State) (w : BusWrite) (off k : Nat) (octets : List Byte) : (s.regPart w off k octets).kept = s.kept := by
  rw [State.regPart]
  split <;> simp

@[simp] theorem State.msixPart_keeps (s : State) (portB : Bool) (w : BusWrite) (off k : Nat) : (s.msixPart portB w off k).kept = s.kept := by
  simp [State.msixPart]

/-! Program DMA -/

@[simp] theorem State.targetRead_keeps (s : State) (t off : Nat) : (s.targetRead t off).2.kept = s.kept := by
  unfold State.targetRead
  dsimp only
  repeat' split
  all_goals simp

@[simp] theorem State.dmaRead_keeps (s : State) (c : Nat) (a : Word) (host : Option Word) (lockBegin lockEnd : Bool) :
    (s.dmaRead c a host lockBegin lockEnd).2.kept = s.kept := by
  unfold State.dmaRead
  dsimp only
  repeat' split
  all_goals simp

@[simp] theorem State.chanGo_keeps (s : State) (c pc : Nat) : (s.chanGo c pc).kept = s.kept := by simp [State.chanGo]
@[simp] theorem State.atIndex_keeps (s : State) (c : Nat) : (s.atIndex c).kept = s.kept := State.kept_of_eq rfl rfl
@[simp] theorem State.wordMoved_keeps (s : State) (c : Nat) : (s.wordMoved c).kept = s.kept := by simp [State.wordMoved]

@[simp] theorem State.gather_keeps (k : Nat) (s : State) (c : Nat) (a : Word) (host acc : List Word) (p : Bool) :
    (State.gather k s c a host acc p).2.2.2.kept = s.kept := by
  induction k generalizing s a host acc p with
  | zero => rfl
  | succ k ih =>
    rw [State.gather]
    split
    · exact (ih ..).trans (State.dmaRead_keeps ..)
    · exact State.dmaRead_keeps ..

@[simp] theorem State.waitDone_keeps (s : State) (c : Nat) (i : DmaInstr) : (s.waitDone c i).kept = s.kept := by simp [State.waitDone]
@[simp] theorem State.signalled_keeps (s : State) (c : Nat) (i : DmaInstr) : (s.signalled c i).kept = s.kept := by simp [State.signalled]

/-! Mirror messages -/

@[simp] theorem State.mateFlip_keeps (s : State) (w : Word) : (s.mateFlip w).kept = s.kept := State.kept_of_eq rfl rfl

@[simp] theorem State.mateBushel_keeps (s : State) (w0 w1 w2 : Word) (l : List Word) : (s.mateBushel w0 w1 w2 l).kept = s.kept :=
  State.kept_of_eq rfl rfl

@[simp] theorem State.mateSetting_keeps (s : State) (w : Word) (l : List Word) : (s.mateSetting w l).kept = s.kept := by simp [State.mateSetting]
@[simp] theorem State.mateProt_keeps (s : State) (w fn : Word) : (s.mateProt w fn).kept = s.kept := by simp [State.mateProt]

@[simp] theorem State.mateKey_keeps (s : State) (t : Nat) (slot : Bool) (key : Option Key) (res : BitVec 32) :
    (s.mateKey t slot key res).kept = s.kept := by
  unfold State.mateKey
  dsimp only
  split <;> simp

@[simp] theorem State.mateTenant_keeps (s : State) (l : List Word) : (s.mateTenant l).kept = s.kept := by simp [State.mateTenant]
@[simp] theorem State.matePadding_keeps (s : State) (cid k : Nat) : (s.matePadding cid k).kept = s.kept := State.kept_of_eq rfl rfl

@[simp] theorem State.mateRef_keeps (s : State) (q : Nat) (seq : BitVec 16) (fn : BitVec 48) : (s.mateRef q seq fn).kept = s.kept := by
  simp [State.mateRef]

@[simp] theorem State.mateImage_keeps (s : State) (i : MateImage) : (s.mateImage i).kept = s.kept := by simp [State.mateImage]
@[simp] theorem State.mateApply_keeps (s : State) (type : Nat) (body : List Word) : (s.mateApply type body).kept = s.kept := by simp [State.mateApply]
@[simp] theorem State.mateTaken_keeps (s : State) (type seq : Nat) : (s.mateTaken type seq).kept = s.kept := State.kept_of_eq rfl rfl

@[simp] theorem State.mateMessage_keeps (s : State) (words : List Word) (image : Option MateImage) : (s.mateMessage words image).kept = s.kept := by
  unfold State.mateMessage
  dsimp only
  repeat' split
  all_goals simp

end Sys2Proof.Machine
end


section
/-!
PROOFS. Every step is safe (O60): what writes the memories or clears them, the queue it keeps and the canonical form.
-/
namespace Sys2Proof.Machine

open Sys2Proof.Claims

/-- From one state to another the queue stays and the memories stay canonical. -/
def Keeps (s t : State) : Prop := t.pending = s.pending ∧ (s.memWf = true → t.memWf = true)

theorem Keeps.of_kept {s t : State} (h : t.kept = s.kept) : Keeps s t :=
  have hoctets : t.mem.octets = s.mem.octets := congrArg Prod.snd h
  ⟨congrArg Prod.fst h, fun hwf => (congrArg Memory.wf hoctets).trans hwf⟩

/-- What keeps the queue and has canonical octets of its own. -/
theorem Keeps.of_stores {s t : State} {l : List Host.Cell} (h : t.kept = (s.pending, l)) (hl : s.memWf = true → Memory.wf l = true) : Keeps s t :=
  have hoctets : t.mem.octets = l := congrArg Prod.snd h
  ⟨congrArg Prod.fst h, fun hwf => (congrArg Memory.wf hoctets).trans (hl hwf)⟩

theorem Keeps.refl (s : State) : Keeps s s := ⟨rfl, id⟩

theorem Keeps.trans {s t u : State} (h : Keeps s t) (h' : Keeps t u) : Keeps s u := ⟨h'.1.trans h.1, fun hwf => h'.2 (h.2 hwf)⟩

/-- What keeps the queue and the octets after what keeps the canonical form. -/
theorem Keeps.to_kept {s t u : State} (h : Keeps s t) (hk : u.kept = t.kept) : Keeps s u := h.trans (.of_kept hk)

/-- What keeps the canonical form after what keeps the queue and the octets. -/
theorem Keeps.from_kept {s t u : State} (hk : t.kept = s.kept) (h : Keeps t u) : Keeps s u := (Keeps.of_kept hk).trans h

theorem Keeps.ite {c : Prop} [Decidable c] {s a b : State} (ha : Keeps s a) (hb : Keeps s b) : Keeps s (if c then a else b) := by
  split
  · exact ha
  · exact hb

theorem Keeps.foldl {α : Type} {f : State → α → State} (hf : ∀ t a, Keeps t (f t a)) (l : List α) (s : State) : Keeps s (l.foldl f s) :=
  foldl_keeps (Keeps s) (fun t a h => h.trans (hf t a)) l (.refl s)

/-! The words of the stores -/

theorem State.injected_pending (s : State) (store a : Nat) : (s.injected store a).pending = s.pending := by
  unfold State.injected
  split
  · rfl
  · dsimp only
    split
    · rfl
    · split <;> rfl

theorem State.memWrite_pending (s : State) (store a m : Nat) (k : WriteKind) (os : List Byte) (es : List Bool) :
    (s.memWrite store a m k os es).2.pending = s.pending := by
  have hkept (t : State) : (t.notePoisonWrite store m a).pending = t.pending := congrArg Prod.fst (State.notePoisonWrite_keeps t store m a)
  have hkept' (t : State) : (t.noteCe store m a).pending = t.pending := congrArg Prod.fst (State.noteCe_keeps t store m a)
  unfold State.memWrite
  dsimp only
  split
  · exact State.injected_pending ..
  · split
    · exact State.injected_pending ..
    · exact (State.injected_pending ..).trans (hkept' _)
    · exact (State.injected_pending ..).trans (hkept _)

theorem State.memWrite_safe (s : State) (store a m : Nat) (k : WriteKind) (os : List Byte) (es : List Bool) :
    Keeps s (s.memWrite store a m k os es).2 :=
  ⟨State.memWrite_pending .., State.memWrite_memWf⟩

theorem State.memWriteRun_safe (s : State) (store off m : Nat) (k : WriteKind) (os : List Byte) (es : List Bool) :
    Keeps s (s.memWriteRun store off m k os es).2 := by
  unfold State.memWriteRun
  split
  · exact .refl s
  · refine foldl_keeps (fun r : Bool × State => Keeps s r.2) (fun r _ h => ?_) _ (show Keeps s (false, s).2 from .refl s)
    exact h.trans (State.memWrite_safe ..)

theorem State.targetWrite_safe (s : State) (m t off : Nat) (octets : List Byte) (enables : List Bool) :
    Keeps s (s.targetWrite m t off octets enables).2 := by
  unfold State.targetWrite
  split
  · exact .refl s
  · split
    · dsimp only
      split
      · exact State.memWriteRun_safe ..
      · exact (State.memWriteRun_safe ..).trans (State.memWriteRun_safe ..)
    · exact State.memWriteRun_safe ..

/-! Program DMA -/

theorem State.dmaWrite_safe (s : State) (c : Nat) (a w : Word) (lockBegin lockEnd : Bool) : Keeps s (s.dmaWrite c a w lockBegin lockEnd).2 := by
  unfold State.dmaWrite
  split
  · exact .of_kept (State.emit_keeps ..)
  · split
    · exact .refl s
    · dsimp only
      split
      · exact .from_kept (State.matrixJudge_keeps ..) (State.targetWrite_safe ..)
      · dsimp only
        split
        · exact .refl s
        · exact .of_kept (State.matrixJudge_keeps ..)

theorem State.scatter_safe (l : List Word) (s : State) (c : Nat) (a : Word) : Keeps s (State.scatter l s c a).2 := by
  induction l generalizing s a with
  | nil => exact .refl s
  | cons w l ih =>
    rw [State.scatter]
    split
    · exact ((State.dmaWrite_safe ..).to_kept (State.wordMoved_keeps ..)).trans (ih ..)
    · exact State.dmaWrite_safe ..

theorem State.plainMove_safe (k : Nat) (s : State) (c : Nat) (i : DmaInstr) (host : List Word) : Keeps s (State.plainMove k s c i host) := by
  induction k generalizing s host with
  | zero => exact .ite (.of_kept (State.chanGo_keeps ..)) (.refl s)
  | succ k ih =>
    rw [State.plainMove]
    refine .ite (.of_kept (State.chanGo_keeps ..)) ?_
    extract_lets step lockBegin lockEnd r
    have hread : r.2.kept = s.kept := State.dmaRead_keeps ..
    split
    · exact .of_kept ((State.chanEnd_keeps ..).trans hread)
    · exact .of_kept hread
    · extract_lets x moved
      have hwritten : Keeps s x.2 := .from_kept hread (State.dmaWrite_safe ..)
      split
      · exact hwritten.to_kept (State.chanEnd_keeps ..)
      · exact hwritten
      · have hmoved : Keeps s moved := hwritten.to_kept (State.wordMoved_keeps ..)
        exact hmoved.trans <| .ite (.of_kept (State.chanEnd_keeps ..)) (ih ..)

theorem State.reshuffle_safe (s : State) (c : Nat) (i : DmaInstr) (host : List Word) : Keeps s (s.reshuffle c i host) := by
  unfold State.reshuffle
  extract_lets g o out r
  have hgathered : g.2.2.2.kept = s.kept := State.gather_keeps ..
  have hscattered : Keeps s r.2 := .from_kept hgathered (State.scatter_safe ..)
  split
  · exact .of_kept ((State.chanEnd_keeps ..).trans hgathered)
  · exact .of_kept hgathered
  · refine hscattered.trans ?_
    split
    · exact .of_kept (State.chanEnd_keeps ..)
    · exact .refl _
    · exact .ite (.of_kept (State.chanEnd_keeps ..)) (.of_kept (State.chanGo_keeps ..))

/-! Bus writes -/

theorem State.toTarget_safe (s : State) (w : BusWrite) (t off : Nat) (octets : List Byte) : Keeps s (s.toTarget w t off octets) := by
  unfold State.toTarget
  extract_lets m u len r x
  refine .ite (.ite (.foldl (fun _ _ => .of_kept (State.regPart_keeps ..)) _ s) (.of_kept (State.matrixError_keeps ..))) ?_
  have hjudged : r.2.kept = s.kept := State.matrixJudge_keeps ..
  split
  · have hwritten : Keeps s x.2 := .from_kept hjudged (State.targetWrite_safe ..)
    exact .ite (hwritten.to_kept (State.busFault_keeps ..)) hwritten
  · exact .of_kept ((State.busFault_keeps ..).trans hjudged)
  · exact .of_kept hjudged

theorem State.toBar_safe (s : State) (w : BusWrite) (portB : Bool) (bar off : Nat) (octets : List Byte) :
    Keeps s (s.toBar w portB bar off octets) := by
  unfold State.toBar
  refine .ite (.ite (.of_kept (State.decodeError_keeps ..)) ?_) (.ite (.of_kept (State.matrixError_keeps ..)) ?_)
  · exact .ite (.of_kept (State.matrixError_keeps ..)) (State.toTarget_safe ..)
  · exact .ite (.ite (.foldl (fun _ _ => .of_kept (State.msixPart_keeps ..)) _ s) (.refl s)) (.refl s)

theorem State.serve_safe (s : State) (w : BusWrite) (octets : List Byte) : Keeps s (s.serve w octets) := by
  unfold State.serve
  extract_lets m _ _ served
  have hserved : served.kept = s.kept := by
    simp only [served]
    split <;> rfl
  refine .from_kept hserved ?_
  split
  · exact State.toBar_safe ..
  · exact State.toTarget_safe ..
  · exact .refl _

theorem State.drainWaiting_safe (k : Nat) (s : State) : Keeps s (State.drainWaiting k s) := by
  induction k generalizing s with
  | zero => exact .refl s
  | succ k ih =>
    rw [State.drainWaiting]
    split
    · exact .refl s
    · refine Keeps.trans ?_ (ih _)
      exact (Keeps.of_kept (State.kept_of_eq rfl rfl)).trans (State.serve_safe ..)

theorem State.drained_safe (s : State) : Keeps s s.drained := State.drainWaiting_safe _ s

theorem State.bus_safe (s : State) (w : BusWrite) (octets : List Byte) : Keeps s (s.bus w octets) := by
  unfold State.bus
  refine .ite (.refl s) (.ite (.of_kept (State.kept_of_eq rfl rfl)) ?_)
  exact .ite ((State.serve_safe ..).trans (State.drained_safe _)) (State.serve_safe ..)

theorem State.breakLock_safe (s : State) (t : Nat) : Keeps s (s.breakLock t) := by
  unfold State.breakLock
  split
  · exact .refl s
  · refine .from_kept ?_ (State.drained_safe _)
    simp

/-! Resets and wakes keep the stores they keep -/

theorem Memory.wf_filter {t : List Host.Cell} (p : Host.Cell → Bool) (h : Memory.wf t = true) : Memory.wf (t.filter p) = true := by
  obtain ⟨hrise, hlisted⟩ := Tab.wf_iff.1 h
  exact Tab.wf_iff.2 ⟨Tab.rising_filter p hrise, fun e he => hlisted e ((List.mem_filter.1 he).1)⟩

theorem State.resumed_safe (s : State) : Keeps s s.resumed := by
  have hkept : s.resumed.kept = (s.pending, s.mem.octets.filter fun c => inStores [1, 7, 8] c.1) := by simp [State.resumed]
  exact .of_stores hkept (Memory.wf_filter _)

theorem State.wakeStep4_safe (s : State) (time ticks : Nat) : Keeps s (s.wakeStep4 time ticks) := by
  have hresumed : Keeps s (s.endStretch ticks).resumed := .from_kept (State.endStretch_keeps ..) (State.resumed_safe _)
  unfold State.wakeStep4
  extract_lets slept gap carry u fn hot woken _ _ ticked _ timed logged warned _ owed started told slipped ess _ on lanes _
  have howed : owed.kept = woken.kept := calc
    owed.kept = warned.kept := (State.raiseOwed_keeps _).trans (State.kept_of_eq rfl rfl)
    _ = logged.kept := State.raiseIf_keeps ..
    _ = woken.kept := (State.wakeLogAdd_keeps ..).trans (State.kept_of_eq rfl rfl)
  have hslipped : slipped.kept = woken.kept := calc
    slipped.kept = told.kept := State.raise_keeps ..
    _ = started.kept := State.raise_keeps ..
    _ = owed.kept := (State.wdtResume_keeps _).trans (State.raiseWakeFails_keeps _)
    _ = woken.kept := howed
  have hon : on.kept = slipped.kept := by
    simp only [on]
    split <;> exact State.kept_of_eq rfl rfl
  have hlanes : lanes.kept = woken.kept := (State.lanesStart_keeps ..).trans (hon.trans hslipped)
  refine hresumed.to_kept (Eq.trans ?_ hlanes)
  split
  · rfl
  · exact State.kept_of_eq rfl rfl

theorem State.cleared_safe (s : State) (cause : Nat) (gill : Bool) : Keeps s (s.cleared cause gill) :=
  ⟨rfl, Memory.wf_filter _⟩

theorem State.restart_safe (s : State) (cause : Nat) (gill : Bool) : Keeps s (s.restart cause gill) := by
  unfold State.restart
  extract_lets cleared powered
  have hcleared : Keeps s cleared := .from_kept (by simp) (State.cleared_safe ..)
  refine hcleared.to_kept ?_
  simp [powered]

theorem State.resetDue_safe (s : State) : Keeps s s.resetDue := by
  unfold State.resetDue
  split
  · exact .ite (State.restart_safe ..) (.refl s)
  · exact .refl s

theorem State.powerOn_safe (s : State) (straps : Straps) (flash : Flash) (tampers : BitVec 4) (claimHigh : Bool) :
    Keeps s (s.powerOn straps flash tampers claimHigh) := by
  have hnone : State.reset.mem.octets = [] := rfl
  have hkept : (s.powerOn straps flash tampers claimHigh).kept = (s.pending, []) := by simp [State.powerOn, hnone]
  exact .of_stores hkept fun _ => rfl

theorem State.frameTick_safe (s : State) (t : TickIn) : Keeps s (s.frameTick t) := by
  unfold State.frameTick
  refine .ite (.refl s) (.from_kept ?_ (State.resetDue_safe _))
  simp

end Sys2Proof.Machine
end


section
/-!
PROOFS. Every step is safe (O60): what a command answers, one instruction at a time.
-/
namespace Sys2Proof.Machine

open Sys2Proof.Claims

/-- An answer that goes on, to a state that keeps the queue and the canonical form of the memories. -/
def GoesOn (s : State) (o : Host.Outcome State Fault Refusal) : Prop := ∃ t, o = .next t ∧ Keeps s t

theorem GoesOn.next {s t : State} (h : Keeps s t) : GoesOn s (.next t) := ⟨t, rfl, h⟩

theorem GoesOn.kept {s t : State} (h : t.kept = s.kept) : GoesOn s (.next t) := .next (.of_kept h)

/-- A well-formed packet goes on with the meaning of its opcode. -/
theorem GoesOn.packet {c : Cmd} {s t : State} (hc : c.wf = true) (h : t.kept = s.kept) :
    GoesOn s (if c.wf then .next t else .fault .illFormed) := if_pos hc ▸ .kept h

/-! The commands whose own rules branch over more than a condition or two, and those that write memories or reset the block -/

theorem execDeferredReply_goesOn (port : Fin 4) (seq : BitVec 32) (s : State) : GoesOn s (execDeferredReply port seq s) := by
  refine .kept ?_
  split
  · rfl
  next d _ =>
    extract_lets t
    have ht : t.kept = s.kept := State.writeDone_keeps ..
    split
    · exact ht
    · split
      · exact ht
      · exact (State.answer_keeps ..).trans ht

theorem execGrainCaptureBlock_goesOn (ring : Fin 64) (d : DescRx) (fn : BitVec 48) (grains : List Byte) (qb : Bool) (s : State) :
    GoesOn s (execGrainCaptureBlock ring d fn grains qb s) := by
  refine .kept ?_
  split
  · rfl
  · cases descFault d 6 <;> simp

theorem execGrainPlaybackBlock_goesOn (ring : Fin 64) (d : DescRx) (fn : BitVec 48) (s : State) :
    GoesOn s (execGrainPlaybackBlock ring d fn s) := by
  refine .kept ?_
  split
  · rfl
  · cases descFault d 7 <;> simp

theorem execPdmaMove_goesOn (ch : Fin 8) (words : Nat) (source : List Word) (s : State) : GoesOn s (execPdmaMove ch words source s) := by
  refine .next ?_
  split
  · exact .refl s
  · refine .from_kept (State.atIndex_keeps s ch.val) (.ite (.of_kept (State.chanEnd_keeps ..)) ?_)
    exact (Keeps.ite (State.plainMove_safe ..) (State.reshuffle_safe ..)).trans (State.drained_safe _)

theorem execPdmaSignal_goesOn (ch : Fin 8) (s : State) : GoesOn s (execPdmaSignal ch s) := by
  refine .next ?_
  split
  · exact .refl s
  · refine .from_kept (State.atIndex_keeps s ch.val) (.ite (.of_kept (State.signalled_keeps ..)) ?_)
    extract_lets r
    have hwritten : Keeps _ r.2 := State.dmaWrite_safe ..
    split
    · exact hwritten.to_kept (State.signalled_keeps ..)
    · exact hwritten.to_kept (State.chanEnd_keeps ..)
    · exact hwritten

theorem execClaimReadback_goesOn (high : Bool) (s : State) : GoesOn s (execClaimReadback high s) := by
  have hraised : (State.raise (State.drive { s with pair.readback := false, pair.claimHigh := true } false) { src := 0x144 }).kept = s.kept :=
    (State.raise_keeps ..).trans ((State.drive_keeps ..).trans (State.kept_of_eq rfl rfl))
  exact .next (.ite (.refl s) (.ite (.of_kept (State.kept_of_eq rfl rfl)) (.of_kept ((State.kept_of_eq rfl rfl).trans hraised))))

theorem execWakeSource_goesOn (src : BitVec 4) (obj : BitVec 8) (active : Bool) (s : State) : GoesOn s (execWakeSource src obj active s) := by
  refine .next (.ite (.refl s) (.of_kept ?_))
  split <;> simp

theorem execWakeStepReady_goesOn (time ticks : Nat) (s : State) : GoesOn s (execWakeStepReady time ticks s) := by
  refine .next ?_
  split
  · refine .ite (.of_kept (by simp)) (.ite (.of_kept (by simp)) (.ite (.of_kept (by simp)) (.ite (.of_kept (by simp)) ?_)))
    exact .ite (State.wakeStep4_safe ..) (.of_kept (by simp))
  · exact .refl s

theorem execWakeStepTimeout_goesOn (code : BitVec 4) (time : Nat) (s : State) : GoesOn s (execWakeStepTimeout code time s) := by
  refine .next ?_
  split
  · refine .ite (.refl s) (.ite (.from_kept ?_ (State.restart_safe ..)) (.of_kept ?_)) <;> simp
  · exact .refl s

theorem execWatchdogExpiry_goesOn (s : State) : GoesOn s (execWatchdogExpiry s) :=
  .next (.ite (.refl s) (.ite (.from_kept (State.kept_of_eq rfl rfl) (State.restart_safe ..)) (State.restart_safe ..)))

theorem execBootComplete_goesOn (ms : BitVec 16) (r : Restore) (s : State) : GoesOn s (execBootComplete ms r s) := by
  refine .kept ?_
  split
  · split <;> simp
  · exact State.firmware_keeps ..
  · rfl

theorem State.recOp_safe (s : State) (op : Nat) (crcOk argOk : Bool) (armed : Option Nat) {f : State → State} (hf : ∀ t, Keeps t (f t)) :
    Keeps s (s.recOp op crcOk argOk armed f) := by
  unfold State.recOp
  extract_lets _ t
  have ht : t.kept = s.kept := State.kept_of_eq rfl rfl
  split
  · exact .of_kept ((State.recReply_keeps ..).trans ht)
  · exact .from_kept ht (hf t)

theorem execHardReset_goesOn (arg : Half) (crcOk : Bool) (since : Nat) (straps : Straps) (s : State) :
    GoesOn s (execHardReset arg crcOk since straps s) := by
  refine .next (State.recOp_safe _ _ _ _ _ fun t => ?_)
  extract_lets replied _ owed restarted
  have hreplied : replied.kept = t.kept := (State.recReply_keeps ..).trans (State.logTamper_keeps ..)
  have howed : owed.kept = t.kept := by simp [owed, hreplied]
  refine .from_kept howed (.ite ?_ (State.restart_safe ..))
  exact (State.restart_safe owed 6 false : Keeps owed restarted).to_kept ((State.sampleStraps_keeps ..).trans (State.kept_of_eq rfl rfl))

theorem execGillRead_goesOn (arg : Half) (crcOk : Bool) (s : State) : GoesOn s (execGillRead arg crcOk s) := by
  refine .kept (State.recOp_keeps _ _ _ _ _ fun t => (State.recReply_keeps ..).trans ?_)
  refine foldl_keeps (fun r : List Word × State => r.2.kept = t.kept) (fun r _ h => ?_) _ (rfl : t.kept = t.kept)
  exact (State.takeFree_keeps r.2).trans h

theorem execHostReceiveFrame_goesOn (ring : Fin 64) (ds : List DescRx) (s : State) : GoesOn s (execHostReceiveFrame ring ds s) := by
  refine .next (.ite (.refl s) (.of_kept ?_))
  split <;> simp

theorem execEventRingFlush_goesOn (ering : Fin 8) (s : State) : GoesOn s (execEventRingFlush ering s) := by
  refine .kept ?_
  split
  · rfl
  · split <;> simp

theorem execBarrierRelease_goesOn (port : Fin 4) (fetched : List Byte) (s : State) : GoesOn s (execBarrierRelease port fetched s) := by
  refine .next (.ite (.refl s) (.of_kept ?_))
  split
  · simp
  · split <;> simp

theorem execBootFail_goesOn (hardware : Bool) (s : State) : GoesOn s (execBootFail hardware s) := by
  refine .next (.ite (.ite (.of_kept (by simp)) (.of_kept ?_)) (.refl s))
  split <;> simp


theorem exec_goesOn (i : Instr) (s : State) (hwf : i.wf = true) : GoesOn s (exec i s) := by
  cases i with
  | laneSet _ | laneGet _ | laneStatus _ | laneLoop _ | lanePrbs _ | mateSet _ | mateStatus _ | tribSet _ | tribGet _ | tribStatus _ | tribLoop _
  | sdhOhSet _ | sdhOhGet _ | sdhStatus _ | sdhCapture _ | pathOhSet _ | pathStatus _ | pathCapture _ | traceSet _ | traceGet _ | sdhThreshGet _
  | e1Set _ | e1Get _ | e1Status _ | e1FramerBind _ | c37Status _ | gfpSet _ | gfpGet _ | gfpBind _ | gfpStatus _ | vcatSet _ | vcatGet _
  | vcatMemberAdd _ | vcatMemberRemove _ | vcatStatus _ | connAdd _ | connSet _ | connDel _ | connGet _ | connFind _ | connLatency _ | structSet _
  | structGet _ | tugSet _ | tugGet _ | mapRead _ | bushelOpen _ | bushelCommit _ | bushelCancel _ | bushelStatus _ | bushelFetch _ _ | shed _
  | usageGet _ | bushelList _ | pgAdd _ | pgSet _ | pgDel _ | pgGet _ | pgCmd _ | pgStatus _ | lpSet _ | lpDel _ | lpGet _ | lpCmd _ | lpStatus _
  | pgScan _ | alignSet _ | alignGet _ | alignStatus _ | alignRestart _ | symSet _ | symGet _ | symStatus _ | markSet _ | markCapture _
  | vcatAlignSet _ | fathomMap _ | queueAdd _ | queueSet _ | queueDel _ | queueGet _ | queueStatus _ | hdrSet _ | hdrGet _ | psnSet _ | psnGet _
  | fwdSet _ | fwdGet _ | pieStatus _ | timSysSet _ | timSysGet _ | timInSet _ | timInGet _ | timInStatus _ | timStatus _ | timHoldover _
  | timModelSet _ | timModelGet _ | timModelLearn _ | timOutSet _ | timOutGet _ | timMonSet _ | todSet _ | ptpSet _ | ptpPortSet _ | ptpStatus _
  | timThermSet _ | devInfo _ | seqSync _ | echo _ | fnGet _ | cmdPortSet _ | cmdPortStatus _ | tenantSet _ | tenantGet _ | tenantDel _
  | tenantList _ | keyLoad _ | keyRetire _ | authLogGet _ | counterSet _ | counterGet _ | counterRead _ | counterClear _ | snapshot _
  | counterDump _ | filterSet _ | filterGet _ | userSlotSet _ | wordTraceSet _ | traceRead _ | traceClear _ | eventRead _ | eventLogStatus _
  | evicRegRead _ | evicRegWrite _ | memStatus _ | memErrLog _ | journalStatus _ | journalCompact _ | journalRead _ | ckptNow _ | memInject _
  | pairSet _ | pairGet _ | pairStatus _ | pairSwitch _ | pairHold _ | pairResync _ | pairForce _ | pwrState _ | pwrSet _ | pwrGet _ | wakeSet _
  | wakeGet _ | pwrStatus _ | wakeLog _ | sleepGapGet _ | voscCtrl _ | firkinCheck _ | wakeSend _ | sysReset _ | resetLog _ | wdtSet _
  | tamperSet _ | tamperGet _ | tamperClear _ | tamperLog _ | returnCapture _ | captureStatus _ | recSet _ | fwStage _ _ =>
    exact .packet hwf (by simp)
  | flipCheck | loadBegin | loadDone | copyForwardDone | frameStep _ _ _ _ | stepArmLapse | fnLoRead _ | lastFlipLoRead _ | tickStatusRead _
  | laneConfigDone _ | signalLevelChange _ _ | transitionDetectChange _ _ | cdrLockChange _ _ | laneActivity _ _ | ethLinkDown _ _ | ethLinkUp _ _
  | lanePrbsLock _ _ _ | mateLaneChange _ _ | tribClkLoss _ | tribClkRestore _ | tribTxSlip _ _ | sdhFrameReceive _ | losDeclare _ | losClear _
  | tuMultiframeReceive _ | sdhFrameTransmit _ | e1FrameReceive _ | crc4SearchTimeout _ | crc4Fallback _ | e1ExclusionEnd _ | e1WindowEnd _ _
  | c37FrameReceive _ | gfpFrameReceive _ | gfpLfd _ | gfpCsfTimeout _ | gfpFrameTransmit _ | vcatControlPacket _ | lcasRemoveTimeout _
  | lcasHoldoffExpiry _ _ | lcasWtrExpiry _ _ | testAnalyserLock _ _ _ | holdoffExpiry _ _ _ | apsFop _ | protFwStall | mergedSelection _
  | signatureSpan _ | markMessageReceive _ | verifyTimeout _ | ethernetFrameReceive _ | jitterBufferPlayout _ | pwPacketSend _
  | ethernetFrameTransmit _ _ | candidateFault _ _ | frequencyGate _ _ | qualificationExpiry _ | hitExpiry _ | selectorEvaluation _ _ | dpllLock
  | holdoverQlTimer | modelRecord | oscAgeJournal | ppsPulse _ | todMessage _ | ptpMessageSend _ _ _ | announceTimeout _ | ptpServoLock
  | ptpOffsetTimeout | hostPortReset _ _ | mgmtFrameReceive _ | craftWrite _ _ _ | craftStatus | craftRead _ | opticalFrameReceive _ _ _
  | opticalLineFault _ | opticalQuietEnd | matrixErrCountRead _ | ringPoll _ | ringDescriptor _ _ _ _ | ringIdle _ | ringDropsRead _ _
  | eventStagingDrain | eringStatRead _ _ | tgtClaim _ _ | moderationExpiry _ | extEvent _ _ | frzNEdge _ | snapshotDone | counterHubRead _ _ _ _
  | counterCheckpoint | traceTimeout _ | mapRepair _ _ | refreshBandCheck _ | journalVerify _ | journalCompactionStart | journalCompacted
  | pfwCheckpoint | pfwReturn | memEccStatRead _ | tokenClaim | tokenRelease | statusBlockReceive _ | mirrorMessageReceive _ _ | mirrorTimeout
  | pairStep _ _ | gillEntryComplete | gillEntryTimeout | wakeRetry | gillTimebaseSwitch _ | timebaseCalibration _ _ | avsRequestDone _
  | avsTimeout | avsAdjust _ | voscLatchOff | voscRetry | oscinLoss | oscinReturn _ | bootGoTimeout | svnAdvance | recStatus _ _ | arm _ _
  | freeze _ _ _ | journalTail _ _ | forceStandby _ _ _ | mboxRead _ _ | mboxWrite _ _ _ _ | tamper _ _ | cmdSecRead _ | hostPortLinkUp _ _
  | cp2LinkChange _ | e1FrameTransmit _ _ | watchdogKick _ | shortRunCountClear | actClaimChange _ | avsNack _ | vcoreOutOfRange _ | vddNvLoss =>
    exact .kept (by simp)
  | tribAlignChange _ | alignerSlip _ _ | apsInconsistency _ | bipWindowEnd _ _ _ | e1CrcBlockEnd _ | bushelAbandoned | wtrExpiry _ _
  | apsService _ | alignStuck _ | pwWindowEnd _ | modelFit | portQuietEnd _ | opticalReplySend | pdmaLoop _ | pdmaWait _ | pdmaWaitEnd _
  | handbackWtrExpiry | handoverTick | bootWaitExpiry =>
    refine .kept ?_
    split <;> simp
  | stepArm _ | slewEn _ | matrixCtrlWrite _ | matrixErrClear _ | doorbell _ _ | ringEnable _ _ | ringDisable _ _ | chAbort _ _ | chDoorbell _ _
  | evicSrcWrite _ _ | tgtEoi _ _ | evicSoft _ | snapReq _ | eccErrClear _ | registerWrite _ | chStart _ _ _ | bootGo _ _ =>
    exact .next (State.bus_safe ..)
  | frameTick _ => exact .next (State.frameTick_safe ..)
  | matrixLockBroken _ => exact .next (State.breakLock_safe ..)
  | powerOnReset _ _ _ _ => exact .next (State.powerOn_safe ..)
  | brownOutReset => exact .next (.ite (State.restart_safe ..) (.refl s))
  | barrierRelease _ _ => exact execBarrierRelease_goesOn ..
  | deferredReply _ _ => exact execDeferredReply_goesOn ..
  | hostReceiveFrame _ _ => exact execHostReceiveFrame_goesOn ..
  | grainCaptureBlock _ _ _ _ _ => exact execGrainCaptureBlock_goesOn ..
  | grainPlaybackBlock _ _ _ => exact execGrainPlaybackBlock_goesOn ..
  | pdmaMove _ _ _ => exact execPdmaMove_goesOn ..
  | pdmaSignal _ => exact execPdmaSignal_goesOn ..
  | eventRingFlush _ => exact execEventRingFlush_goesOn ..
  | claimReadback _ => exact execClaimReadback_goesOn ..
  | wakeSource _ _ _ => exact execWakeSource_goesOn ..
  | wakeStepReady _ _ => exact execWakeStepReady_goesOn ..
  | wakeStepTimeout _ _ => exact execWakeStepTimeout_goesOn ..
  | watchdogExpiry => exact execWatchdogExpiry_goesOn ..
  | bootComplete _ _ => exact execBootComplete_goesOn ..
  | bootFail _ => exact execBootFail_goesOn ..
  | hardReset _ _ _ _ => exact execHardReset_goesOn ..
  | gillRead _ _ => exact execGillRead_goesOn ..

/-- Settles O60, instruction by instruction: what a command answers goes on, keeps the queue's rest and keeps the memories canonical. -/
theorem everyStepIsSafe : Obligations.EveryStepIsSafe := by
  intro s hqueue hmem
  cases hpending : s.pending with
  | nil => exact ⟨s, by rw [step, hpending], hpending, hqueue, hmem⟩
  | cons i rest =>
    rw [State.queueWf, hpending, List.all_cons, Bool.and_eq_true] at hqueue
    obtain ⟨hi, hrest⟩ := hqueue
    obtain ⟨t, hexec, hkept, hcanonical⟩ := exec_goesOn i { s with pending := rest } hi
    refine ⟨t, by rw [step, hpending]; exact hexec, hkept, ?_, hcanonical hmem⟩
    rw [State.queueWf, hkept]
    exact hrest

end Sys2Proof.Machine
end
